-- ==== Sys2Proof/Word.lean ====
section
/-! DEFINITION. The number types of the part: bytes, words, and the record numbers whose ranges the
manual fixes (00_scope.md section 1, R2, R45, R62, R119, R171). -/

namespace Sys2Proof

/-- One byte of the copy store or of the typesetter link. -/
abbrev Byte := BitVec 8

/-- One 4-byte word of the window, least significant byte at the lowest address. -/
abbrev Word := BitVec 32

/-- The bytes of one access, byte `i` at bits `8 * i + 7` to `8 * i`; a burst fills all sixteen. -/
abbrev Data := BitVec 128

/-- A story number, 0 to 2047 (R1, R2). -/
abbrev StoryId := Fin 2048

/-- A basket number, 0 to 31 (R44). -/
abbrev BasketId := Fin 32

/-- A page number, 0 to 95 (R118). -/
abbrev PageId := Fin 96

/-- A slot number of a page, 0 to 11 (R119). -/
abbrev SlotId := Fin 12

/-- A font number, 0 to 7 (R62). -/
abbrev FontId := Fin 8

/-- A terminal station, 0 to 119 (R167). -/
abbrev TerminalId := Fin 120

/-- A station group, 0 to 7 (R171). -/
abbrev Group := Fin 8

/-- The 7-bit station code that comes with every access (R167). -/
abbrev StationCode := BitVec 7

/-- A sparse record table: entries by rising number; a number not listed holds its power-on value. -/
abbrev Table (α : Type) := List (Nat × α)

end Sys2Proof
end

