-- ==== Sys2Proof/Syntax.lean ====
section
/-! DEFINITION. The commands of the part: one constructor of `Instr` for each row of
spec/opcode_table.json, with the operands the row leaves open. -/

namespace Sys2Proof

/-- The size of an access (R166): 1, 2 or 4 bytes, or a burst of four 4-byte beats. -/
inductive Size where
  | byte
  | half
  | word
  | burst
  deriving DecidableEq, Repr

/-- A station that has a record (R167): a terminal 0 to 119, or the system station, code 127. -/
inductive Station where
  | terminal (t : TerminalId)
  | system
  deriving DecidableEq, Repr

/-- A priority class (R2): 0 FLASH, 1 URGENT, 2 ROUTINE, 3 DEFERRED. -/
inductive Priority where
  | flash
  | urgent
  | routine
  | deferred
  deriving DecidableEq, Repr

/-- The reason of a NAK (R153): 1 FRAME, 2 PAGE, 3 REFUSED. -/
inductive NakReason where
  | frame
  | page
  | refused
  deriving DecidableEq, Repr

/-- One command. An access carries the station code `code` that comes with it and its size `sz`; one that
can reach memory carries `fault`, which says whether memory reports a data fault on it (R169). `data` and
`value` are the bytes written. An access row that names a word carries that word's place in the manual's own
numbers; the rows `plainPassThrough`, `accessOutsideWindow` and `liveWordWrite` carry a raw bus address. -/
inductive Instr where
  /-- TEXT_READ (R16): a read of story text at byte `pos` of the story's text. -/
  | textRead (code : StationCode) (story : StoryId) (pos : Fin 8192) (sz : Size) (fault : Bool)
  /-- TEXT_WRITE (R37): a write to story text. -/
  | textWrite (code : StationCode) (story : StoryId) (pos : Fin 8192) (sz : Size) (data : Data) (fault : Bool)
  /-- HEADER_PLAIN_WRITE (R17): a write to the plain part of a story header, byte `off` of the header. -/
  | headerPlainWrite (code : StationCode) (story : StoryId) (off : Fin 64) (sz : Size) (data : Data) (fault : Bool)
  /-- PLAIN_PASS_THROUGH (R168): a read, or a write of an untested plain word, at a bus address. -/
  | plainPassThrough (code : StationCode) (write : Bool) (addr : Word) (sz : Size) (data : Data) (fault : Bool)
  /-- ACCESS_OUTSIDE_WINDOW (R165): an access at a bus address outside the strapped window. -/
  | accessOutsideWindow (code : StationCode) (write : Bool) (addr : Word) (sz : Size) (data : Data) (fault : Bool)
  /-- RING_SLOT_WRITE (R112): a write to byte `off` of the 512-byte ring of station `owner`. -/
  | ringSlotWrite (code : StationCode) (owner : Station) (off : Fin 512) (sz : Size) (data : Data) (fault : Bool)
  /-- LIVE_WORD_WRITE (R168): a write, at a bus address, that touches a live word. -/
  | liveWordWrite (code : StationCode) (addr : Word) (sz : Size) (data : Data) (fault : Bool)
  /-- CLAIM (R24): a write of the writer's own station code to HOLD. -/
  | claim (code : StationCode) (story : StoryId) (sz : Size)
  /-- RELEASE (R29): a write of the NONE code to HOLD. -/
  | release (code : StationCode) (story : StoryId) (sz : Size)
  /-- BREAK (R31): a write of the BREAK code to HOLD. -/
  | breakHold (code : StationCode) (story : StoryId) (sz : Size)
  /-- ROUTE_TO_BASKET (R52): a ROUTE write naming a basket and a priority. -/
  | routeToBasket (code : StationCode) (story : StoryId) (sz : Size) (basket : BasketId) (prio : Priority)
  /-- ROUTE_TO_NONE (R57): a ROUTE write of the NONE code. -/
  | routeToNone (code : StationCode) (story : StoryId) (sz : Size)
  /-- PURGE (R13): a ROUTE write of the PURGE code. -/
  | purge (code : StationCode) (story : StoryId) (sz : Size)
  /-- REOPEN (R41): a write of the REOPEN code to STATE. -/
  | reopen (code : StationCode) (story : StoryId) (sz : Size)
  /-- LIMIT_WRITE (R47). -/
  | limitWrite (code : StationCode) (basket : BasketId) (sz : Size) (value : Word)
  /-- WATCHERS_WRITE (R49): a write to WATCHERS `k`. -/
  | watchersWrite (code : StationCode) (basket : BasketId) (k : Fin 4) (sz : Size) (value : Word)
  /-- SIZE_WRITE (R64). -/
  | sizeWrite (code : StationCode) (font : FontId) (sz : Size) (value : Word)
  /-- LEADING_WRITE (R65). -/
  | leadingWrite (code : StationCode) (font : FontId) (sz : Size) (value : Word)
  /-- WIDTH_TABLE_WRITE (R66): a write to the width table from the entry of character code `c` on. -/
  | widthTableWrite (code : StationCode) (font : FontId) (c : Fin 256) (sz : Size) (value : Word)
  /-- STANDARD_MEASURE_WRITE (R96). -/
  | standardMeasureWrite (code : StationCode) (sz : Size) (value : Word)
  /-- EDITION_WRITE (R129). -/
  | editionWrite (code : StationCode) (sz : Size) (value : Word)
  /-- HOLD_WAIT_WRITE (R149). -/
  | holdWaitWrite (code : StationCode) (sz : Size) (value : Word)
  /-- ATTENTION_ENABLE_WRITE (R116). -/
  | attentionEnableWrite (code : StationCode) (sz : Size) (value : Word)
  /-- NOTICE_READ_INDEX_WRITE (R111): a write to the NOTICE READ INDEX of `owner`'s record. -/
  | noticeReadIndexWrite (code : StationCode) (owner : Station) (sz : Size) (value : Word)
  /-- SIGN_ON (R172): a write of the SIGN-ON code to the CONTROL word of `owner`'s record. -/
  | signOn (code : StationCode) (owner : Station) (sz : Size)
  /-- SIGN_OFF (R172): a write of the SIGN-OFF code to the CONTROL word of `owner`'s record. -/
  | signOff (code : StationCode) (owner : Station) (sz : Size)
  /-- RIGHTS_WRITE (R173): a write to the RIGHTS word of `owner`'s record. -/
  | rightsWrite (code : StationCode) (owner : Station) (sz : Size) (value : Word)
  /-- COLUMN_WIDTH_WRITE (R123). -/
  | columnWidthWrite (code : StationCode) (page : PageId) (sz : Size) (value : Word)
  /-- GUTTER_WRITE (R123). -/
  | gutterWrite (code : StationCode) (page : PageId) (sz : Size) (value : Word)
  /-- COLUMN_DEPTH_WRITE (R123). -/
  | columnDepthWrite (code : StationCode) (page : PageId) (sz : Size) (value : Word)
  /-- PLACE (R124): a STORY write naming a story. -/
  | place (code : StationCode) (page : PageId) (slot : SlotId) (sz : Size) (story : StoryId)
  /-- REMOVE (R124): a STORY write of the EMPTY code. -/
  | remove (code : StationCode) (page : PageId) (slot : SlotId) (sz : Size)
  /-- SPAN_WRITE (R126). -/
  | spanWrite (code : StationCode) (page : PageId) (slot : SlotId) (sz : Size) (value : Word)
  /-- ALLOWANCE_WRITE (R126). -/
  | allowanceWrite (code : StationCode) (page : PageId) (slot : SlotId) (sz : Size) (value : Word)
  /-- POLICY_WRITE (R126). -/
  | policyWrite (code : StationCode) (page : PageId) (slot : SlotId) (sz : Size) (value : Word)
  /-- DISPATCH (R133): a write of the DISPATCH code to PAGE COMMAND. -/
  | dispatch (code : StationCode) (page : PageId) (sz : Size)
  /-- CANCEL (R134): a write of the CANCEL code to PAGE COMMAND. -/
  | cancel (code : StationCode) (page : PageId) (sz : Size)
  /-- LINK_STATUS_READ (R162): a read of LINK STATUS from its byte `off` on; a burst takes in the words after it. -/
  | linkStatusRead (code : StationCode) (off : Fin 4) (sz : Size) (fault : Bool)
  /-- MEASURE_PASS_TAKEN (R88). -/
  | measurePassTaken
  /-- MEASURE_PASS_COMPLETION (R90). -/
  | measurePassCompletion
  /-- MEASURE_FAULT (R91). -/
  | measureFault
  /-- FONT_WAIT_EXPIRY (R95). -/
  | fontWaitExpiry
  /-- HOLD_WAIT_EXPIRY (R140). -/
  | holdWaitExpiry
  /-- SEND_TEXT_READ (R143): a block read for a send arrives, or memory reports a data fault on it. -/
  | sendTextRead (fault : Bool)
  /-- RING_WRITE_START (R109). -/
  | ringWriteStart
  /-- RING_WRITE_COMPLETE (R109): the ring write in flight ends, or memory reports a data fault on it. -/
  | ringWriteComplete (fault : Bool)
  /-- TYPESETTER_PRESENT_HIGH (R155). -/
  | typesetterPresentHigh
  /-- TYPESETTER_PRESENT_LOW (R155). -/
  | typesetterPresentLow
  /-- TRAINING_TIMER_EXPIRY (R156). -/
  | trainingTimerExpiry
  /-- TYPESETTER_ABILITY (R156, R157): a valid ABILITY with its two payload bytes. -/
  | typesetterAbility (mask : Byte) (largest : Byte)
  /-- ACK (R159): a valid ACK. -/
  | ack
  /-- NAK (R159): a valid NAK. -/
  | nak (reason : NakReason)
  /-- WAIT (R160): a valid WAIT. -/
  | wait
  /-- READY (R160): a valid READY. -/
  | ready
  /-- WAIT_TIMER_EXPIRY (R160). -/
  | waitTimerExpiry
  /-- REPLY_TIMER_EXPIRY (R159). -/
  | replyTimerExpiry
  /-- TRY_END (R151). -/
  | tryEnd
  /-- RECEIVER_GAP_EXPIRY (R153). -/
  | receiverGapExpiry
  /-- BUS_RESET (R176). -/
  | busReset
  /-- POWER_ON (R177): with the level of the seven strap inputs and of the typesetter-present input. -/
  | powerOn (strap : BitVec 7) (present : Bool)
  /-- INCOMING_BYTE (R153). -/
  | incomingByte (b : Byte)
  /-- MEASURE_TEXT_READ (R89). -/
  | measureTextRead
  /-- TIMEBASE_TICK (R106). -/
  | timebaseTick
  /-- PART_ABILITY_END (R151). -/
  | partAbilityEnd
  deriving DecidableEq, Repr

end Sys2Proof
end

