-- ==== Sys2Proof/Decode.lean ====
section
/-! DEFINITION. Decoding. The part is a block: it fetches no instruction, and spec/opcode_table.json gives no row any
bits, so no word spells a command. -/

namespace Sys2Proof

/-- The command a word of `nbits` bits spells by the table: none, since the table gives no row any bits. -/
def decodeTableWord (nbits w : Nat) : Option Instr :=
  match nbits, w with
  | _, _ => none

end Sys2Proof
end

