-- ==== Sys2Proof/Machine/State.lean ====
section
/-! DEFINITION. The state of the part, block by block (00_scope.md section 2), as plain data, with its
power-on value. Ranges the manual states for a quantity kept as a `Nat` are invariants, not types. -/

namespace Sys2Proof.Machine

/-! ## Answers and refusals (R166, R170) -/

/-- The reasons a last-refusal word may hold (R170), in the order of their codes 0 to 14 (section 11.3). -/
inductive Reason where
  | none
  | notSignedOn
  | notHolder
  | heldByOther
  | noRight
  | frozen
  | closing
  | basketFull
  | holdLimit
  | readOnly
  | badSize
  | badValue
  | badState
  | fontsPinned
  | memoryFault
  deriving DecidableEq, Repr

/-- The two answer lines (section 10.8): three answers, and the fourth state, no answer yet. -/
inductive Answer where
  | noAnswer
  | done
  | refuse
  | retry
  deriving DecidableEq, Repr

/-- What the copy bus shows of the latest access taken: its answer, and the bytes a read answered DONE
returned (R166). -/
structure BusOut where
  answer : Answer
  data : Option Data
  deriving DecidableEq, Repr

/-! ## Story table (chapter 1) -/

/-- A story's phase (R3). -/
inductive Phase where
  | unused
  | live
  | frozen
  deriving DecidableEq, Repr

/-- The status of a depth record (R9). -/
inductive DepthStatus where
  | none
  | stale
  | measuring
  | fresh
  | faulted
  deriving DecidableEq, Repr

/-- A depth record (R2, R9): depth in quarter points, 0 to 65535; lines, 0 to 4095; flag `f` of `fonts` for font `f`. -/
structure DepthRecord where
  status : DepthStatus
  depth : Nat
  lines : Nat
  overflow : Bool
  fonts : BitVec 8
  overset : Bool
  deriving DecidableEq, Repr

/-- One entry of a viewer list (R8, R99): the terminal, and whether it is STALE rather than VALID. -/
structure Viewer where
  terminal : TerminalId
  stale : Bool
  deriving DecidableEq, Repr

/-- A story table entry (R2). -/
structure Story where
  phase : Phase
  closing : Bool
  holder : Option Station
  basket : Option BasketId
  prio : Priority
  placement : Option (PageId × SlotId)
  revision : BitVec 8
  viewers : List Viewer
  depth : DepthRecord
  deriving DecidableEq, Repr

/-! ## Basket unit (chapter 3) -/

/-- A story of a basket's list with its priority class (R45). -/
structure Filed where
  story : StoryId
  prio : Priority
  deriving DecidableEq, Repr

/-- A basket record (R45): bit `t` of `watchers` for terminal `t`. The count is the length of the list. -/
structure Basket where
  limit : Nat
  watchers : BitVec 120
  list : List Filed
  deriving DecidableEq, Repr

/-! ## Measure unit (chapters 4 and 5) -/

/-- A font record (R63): point size P and leading L in quarter points; the widths listed differ from their
power-on values. -/
structure Font where
  size : Nat
  leading : Nat
  widths : Table (BitVec 6)
  deriving DecidableEq, Repr

/-- A glyph of the word being gathered (R71): its width in fine units, its font's leading, and the number of
set characters read up to and including it. -/
structure Glyph where
  width : Nat
  leading : Nat
  mark : Nat
  deriving DecidableEq, Repr

/-- A line the breaker has closed (R72 to R75): its leading, the number of set characters up to its last glyph
placed (or its paragraph end), and whether a paragraph end closed it. -/
structure Line where
  leading : Nat
  mark : Nat
  paragraph : Bool
  deriving DecidableEq, Repr

/-- What a run of the line breaker keeps as it reads (R70). `leading` is the largest leading placed on the
current line and `gapLeading` the largest among the pending gap's spaces; `seen` counts set characters read and
`placed` those up to the last glyph placed. -/
structure Breaker where
  font : FontId
  mask : BitVec 8
  x : Nat
  content : Bool
  leading : Nat
  gap : Nat
  gapLeading : Nat
  word : List Glyph
  seen : Nat
  placed : Nat
  lines : Nat
  depth : Nat
  deriving DecidableEq, Repr

/-- A measure pass in flight (R88, R89): its story, its measure in fine units, the next 16-byte block of text to
read, and the breaker's run so far. -/
structure Pass where
  story : StoryId
  measure : Nat
  block : Nat
  breaker : Breaker
  deriving DecidableEq, Repr

/-- The measure engine (R88). -/
inductive Engine where
  | idle
  | measuring (pass : Pass)
  | held
  deriving DecidableEq, Repr

/-- The measure unit (chapter 5). A timer is `none` while stopped and otherwise its period in milliseconds. -/
structure MeasureUnit where
  queue : List StoryId
  engine : Engine
  fontWait : Bool
  fontWaitTimer : Option Nat
  standard : Nat
  fonts : Table Font
  deriving DecidableEq, Repr

/-! ## Station unit (chapters 6 and 10) -/

/-- The kinds of notice (R105), in the order of their codes 1 to 11 (section 11.4). -/
inductive NoticeKind where
  | arrival
  | changed
  | viewDropped
  | holdBroken
  | holdWanted
  | overset
  | pageSent
  | pageFailed
  | pageChanged
  | link
  | measureFault
  deriving DecidableEq, Repr

/-- A notice record (R106, section 11.4); an absent field is the "none" of its layout. -/
structure Notice where
  kind : NoticeKind
  detail : Byte
  story : Option StoryId
  page : Option PageId
  slot : Option SlotId
  basket : Option BasketId
  cause : Option Station
  edition : Nat
  prio : Priority
  urgent : Bool
  depth : Nat
  time : BitVec 32
  deriving DecidableEq, Repr

/-- A ring's indices, counted modulo 64, and its overrun flag (R107, R110). -/
structure Ring where
  write : BitVec 6
  read : BitVec 6
  overrun : Bool
  deriving DecidableEq, Repr

/-- A terminal's station record (R171). -/
structure Terminal where
  signedOn : Bool
  group : Group
  makeup : Bool
  ring : Ring
  lastRefusal : Reason
  holdCount : Nat
  deriving DecidableEq, Repr

/-- The system station's record (R171). -/
structure SystemRecord where
  ring : Ring
  lastRefusal : Reason
  deriving DecidableEq, Repr

/-- A notice of the outgoing queue with its recipient (R108). -/
structure Outgoing where
  recipient : Station
  notice : Notice
  deriving DecidableEq, Repr

/-- The ring write in flight (R109): recipient, record and slot; whether a sign-off or a bus reset has
voided it (R113, R107); and the bytes of the slot a station has written meanwhile (R112). -/
structure RingWrite where
  recipient : Station
  notice : Notice
  slot : Nat
  voided : Bool
  contested : List Nat
  deriving DecidableEq, Repr

/-- The station unit (chapters 6 and 10). `groupLines` and `systemLine` are the attention lines (R115). -/
structure StationUnit where
  terminals : Table Terminal
  system : SystemRecord
  outgoing : List Outgoing
  ringWrite : Option RingWrite
  enables : BitVec 8
  groupLines : BitVec 8
  systemLine : Bool
  deriving DecidableEq, Repr

/-! ## Page unit (chapter 7) -/

/-- A slot's policy for a story that does not fit (R119). -/
inductive Policy where
  | hold
  | trim
  deriving DecidableEq, Repr

/-- What an occupied slot holds (R119). -/
structure Slot where
  story : StoryId
  span : Nat
  allowance : Nat
  policy : Policy
  deriving DecidableEq, Repr

/-- The resting states of a page (R120). -/
inductive Resting where
  | empty
  | made
  | sent
  | changed
  deriving DecidableEq, Repr

/-- A page's state (R120): a transient state carries the resting state field, which is absent otherwise. -/
inductive PageState where
  | resting (r : Resting)
  | queued (r : Resting)
  | waiting (r : Resting)
  | sending (r : Resting)
  deriving DecidableEq, Repr

/-- The causes of a failed dispatch (R146), in the order of their codes 1 to 10 (section 11.4). -/
inductive Cause where
  | held
  | timeout
  | font
  | overset
  | fault
  | link
  | stalled
  | check
  | typesetter
  | cancelled
  deriving DecidableEq, Repr

/-- How a page's last dispatch ended (R119, R121). -/
inductive LastResult where
  | none
  | sent
  | failed (c : Cause)
  deriving DecidableEq, Repr

/-- A page record (R119): column width and gutter in points, column depth in quarter points. -/
structure Page where
  width : Nat
  gutter : Nat
  depth : Nat
  slots : Vector (Option Slot) 12
  state : PageState
  lastResult : LastResult
  editionSent : Nat
  deriving DecidableEq, Repr

/-- The page unit (chapter 7): the page records and the current edition (R129). -/
structure PageUnit where
  pages : Table Page
  edition : Nat
  deriving DecidableEq, Repr

/-! ## Typesetter link (chapter 9) -/

/-- The frames the part sends (R152) other than its ABILITY, with their payloads. -/
inductive Frame where
  | pageBegin (page : PageId) (edition width gutter depth count : Nat)
  | slot (slot : SlotId) (span : Nat) (story : StoryId) (revision : BitVec 8) (allowance : Nat) (policy : Policy)
  | text (payload : List Byte)
  | slotEnd (slot : SlotId) (depth lines : Nat) (cut : Bool)
  | pageEnd (page : PageId) (b a : Nat)
  | abort (page : PageId)
  deriving DecidableEq, Repr

/-- A frame handed to the transmitter (R151): the part's ABILITY, or a try of a frame with whether that frame is
still the outstanding one. -/
inductive Transmission where
  | ability
  | attempt (frame : Frame) (current : Bool)
  deriving DecidableEq, Repr

/-- The outstanding frame with its try count, 1 to 3 (R154). -/
structure Outstanding where
  frame : Frame
  tries : Nat
  deriving DecidableEq, Repr

/-- The link's state (R154). -/
inductive LinkState where
  | down
  | training
  | up
  deriving DecidableEq, Repr

/-- The link's receiver (R153, R154): hunting, or within a frame with the bytes taken since its 0xA5. -/
inductive Receiver where
  | hunting
  | within (bytes : List Byte)
  deriving DecidableEq, Repr

/-- The typesetter link (R154). `present` is the typesetter-present input; the head of `transmitter` is the frame
going out. A timer is `none` while stopped and otherwise its period in milliseconds. -/
structure Link where
  state : LinkState
  present : Bool
  mask : BitVec 8
  largest : Nat
  agreed : Nat
  outstanding : Option Outstanding
  waitHold : Bool
  trainingTimer : Option Nat
  replyTimer : Option Nat
  waitTimer : Option Nat
  gapTimer : Option Nat
  lost : Bool
  receiver : Receiver
  transmitter : List Transmission
  deriving DecidableEq, Repr

/-! ## Dispatch engine (chapter 8) -/

/-- The trim computation so far (R80): lines sent, depth sent, the last line sent, and the cut flag. -/
structure Trim where
  lines : Nat
  depth : Nat
  mark : Nat
  paragraph : Bool
  cut : Bool
  deriving DecidableEq, Repr

/-- The reading of a slot's story for a send (R143): the next block, the breaker's run, the trim computation
when the story is trimmed, the set characters read and not yet put in a TEXT frame, how many have been, and
whether reading has stopped. -/
structure Reader where
  block : Nat
  breaker : Breaker
  trim : Option Trim
  chars : List Byte
  framed : Nat
  finished : Bool
  deriving DecidableEq, Repr

/-- The frame of a send last handed over, or the TEXT frame still to be formed (R142). -/
inductive Stage where
  | pageBegin
  | slot
  | text
  | slotEnd
  | pageEnd
  deriving DecidableEq, Repr

/-- The state of a send in progress (R131): slot in progress, frame of the sequence, text reading, and the page
check sums a and b. -/
structure SendState where
  slot : SlotId
  stage : Stage
  reader : Reader
  a : Nat
  b : Nat
  deriving DecidableEq, Repr

/-- The dispatch engine's state (R131). -/
inductive DispatchEngine where
  | idle
  | waiting
  | sending (send : SendState)
  | aborting
  deriving DecidableEq, Repr

/-- An entry of the dispatch queue (R131): a page with its edition stamp. -/
structure Queued where
  page : PageId
  stamp : Nat
  deriving DecidableEq, Repr

/-- The dispatch unit (R131, R149). `holdWait` is the period in seconds; the timer runs in milliseconds. -/
structure DispatchUnit where
  queue : List Queued
  engine : DispatchEngine
  holdWait : Nat
  holdWaitTimer : Option Nat
  wanted : Vector (Option Station) 12
  deriving DecidableEq, Repr

/-! ## The whole part -/

/-- The state of the part and of the copy store behind it. `mem` lists the bytes that are not 0x00, by address
on the 32-bit bus (assumption 2). `free` is the model's own counter of free values (assumption 6), and
`pending` its queue of commands that wait, first in first out. -/
structure State where
  strap : BitVec 7
  bus : BusOut
  mem : List Host.Cell
  stories : Table Story
  baskets : Table Basket
  measure : MeasureUnit
  stations : StationUnit
  pages : PageUnit
  dispatch : DispatchUnit
  link : Link
  timebase : BitVec 32
  free : Nat
  pending : List Instr
  deriving DecidableEq, Repr

/-- What could stop the part itself: nothing in the manual does, so there is no reason to list. Every access ends with
an answer (R166) and every other command is an event the part takes. Safe: no run is cut short. -/
inductive Fault where
  deriving DecidableEq, Repr

/-- Why a command has no meaning. -/
inductive Refusal where
  /-- Raised by `exec` for a command not modelled yet; no arm uses it. Safe. -/
  | notModelled (mnemonic : String)
  /-- Raised by an access row whose address is not naturally aligned to its size: the copy bus carries no such access
  (R166). Safe. -/
  | misaligned
  deriving DecidableEq, Repr

/-- A ring with no notices (R107). -/
def emptyRing : Ring := { write := 0, read := 0, overrun := false }

/-- The link at power-on (R154), with the present input low. -/
def powerOnLink : Link where
  state := .down
  present := false
  mask := 0
  largest := 0
  agreed := 0
  outstanding := none
  waitHold := false
  trainingTimer := none
  replyTimer := none
  waitTimer := none
  gapTimer := none
  lost := false
  receiver := .hunting
  transmitter := []

/-- The part after power-on (R177 and the rules it gathers), with the strap inputs and the present input low
(assumption 7), nothing in memory but 0x00 (assumption 2) and no command waiting. Tables list nothing: every
story, basket, page, terminal and font holds its power-on value. -/
def State.reset : State where
  strap := 0
  bus := { answer := .noAnswer, data := none }
  mem := []
  stories := []
  baskets := []
  measure :=
    { queue := [], engine := .idle, fontWait := false, fontWaitTimer := none, standard := 120, fonts := [] }
  stations :=
    { terminals := [], system := { ring := emptyRing, lastRefusal := .none }, outgoing := [], ringWrite := none
      enables := 0xFF#8, groupLines := 0, systemLine := false }
  pages := { pages := [], edition := 1 }
  dispatch :=
    { queue := [], engine := .idle, holdWait := 120, holdWaitTimer := none, wanted := Vector.replicate 12 none }
  link := powerOnLink
  timebase := 0
  free := 0
  pending := []

end Sys2Proof.Machine
end

