-- ==== Sys2Proof/Machine/Operands.lean ====
section
/-! DEFINITION. The operands of commands: station codes, sizes, written values and the codes of
chapter 11, and clamping (00_scope.md section 5). -/

namespace Sys2Proof.Machine

/-- Clamping of a written value to a stated range (00_scope.md section 5). -/
def clamp (lo hi v : Nat) : Nat := max lo (min hi v)

/-- The station a code names; codes 120 to 126 name none (R167). -/
def stationOf (code : StationCode) : Option Station :=
  if h : code.toNat < 120 then some (.terminal ⟨code.toNat, h⟩)
  else if code = 127#7 then some .system else none

/-- The station code of a station (R167). -/
def stationCode : Station → Nat
  | .terminal t => t.val
  | .system => 127

/-- The number of bytes of an access (R166). -/
def sizeBytes : Size → Nat
  | .byte => 1
  | .half => 2
  | .word => 4
  | .burst => 16

/-- Natural alignment of an access (R166). -/
def aligned (at_ : Nat) (sz : Size) : Bool := at_ % sizeBytes sz == 0

/-- The low word of the bytes written. -/
def dataWord (data : Data) : Word := data.setWidth 32

/-- The first `n` bytes written, lowest address first. -/
def dataBytes (n : Nat) (data : Data) : List Byte :=
  (List.range n).map fun i => data.extractLsb' (8 * i) 8

/-- The bytes a read returns, packed lowest address first. -/
def packBytes : List Byte → Data
  | [] => 0
  | b :: bs => (packBytes bs <<< 8) ||| b.setWidth 128

/-- Byte `i` of a word, least significant byte at the lowest address (00_scope.md section 5). -/
def wordByte (w : Word) (i : Nat) : Byte := w.extractLsb' (8 * i) 8

/-- The NONE code of HOLD (section 11.2). -/
def noneCode : Word := 0xFF#32

/-- The BREAK code of HOLD (section 11.2). -/
def breakCode : Word := 0xFE#32

/-- The EMPTY code of STORY (section 11.6). -/
def emptyCode : Word := 0xFFFFFFFF#32

/-- The code of a priority (R2). -/
def prioCode : Priority → Nat
  | .flash => 0
  | .urgent => 1
  | .routine => 2
  | .deferred => 3

/-- The priority of a 2-bit field (section 11.2). -/
def prioOf (p : BitVec 2) : Priority :=
  match p.toNat with
  | 0 => .flash
  | 1 => .urgent
  | 2 => .routine
  | _ => .deferred

/-- What a ROUTE write asks for (R50), by its basket byte (section 11.2). -/
inductive RouteRequest where
  | basket (b : BasketId) (prio : Priority)
  | out
  | purge
  | bad
  deriving DecidableEq, Repr

/-- The request a value written to ROUTE carries (R50, R178). -/
def routeAsked (v : Word) : RouteRequest :=
  let part := (v.extractLsb' 0 8).toNat
  if h : part < 32 then .basket ⟨part, h⟩ (prioOf (v.extractLsb' 8 2))
  else if part = 0xFF then .out
  else if part = 0xFE then .purge
  else .bad

/-- The value a ROUTE write naming a basket and a priority carries (section 11.2). -/
def routeValue (b : BasketId) (prio : Priority) : Word := BitVec.ofNat 32 (b.val + 256 * prioCode prio)

/-- The story a value written to STORY names, if it names one (R124). -/
def storyOf (v : Word) : Option StoryId :=
  if h : v.toNat < 2048 then some ⟨v.toNat, h⟩ else none

/-- The group a value written to RIGHTS carries, unless its byte is above 7 (R173, R178). -/
def groupOf (v : Word) : Option Group :=
  if h : (v.extractLsb' 0 8).toNat < 8 then some ⟨(v.extractLsb' 0 8).toNat, h⟩ else none

/-- Whether `a` comes before `b` in a list ordered by class (R45). -/
def prioLe (a b : Priority) : Bool := prioCode a ≤ prioCode b

/-- Every terminal, by increasing station code. -/
def allTerminals : List TerminalId := List.finRange 120

/-- Every slot of a page, in increasing order. -/
def allSlots : List SlotId := List.finRange 12

end Sys2Proof.Machine
end

