-- ==== Sys2Proof/Machine/Table.lean ====
section
/-! DEFINITION. Sparse tables: a list of numbered entries by rising number, in which a number not listed
holds the default `d` of that number. Memory and the record tables are kept in this one form. -/

namespace Sys2Proof.Machine

variable {α : Type}

/-- The entry of number `k`. -/
def tableGet (d : Nat → α) : List (Nat × α) → Nat → α
  | [], k => d k
  | e :: t, k => if e.1 = k then e.2 else tableGet d t k

/-- The table without the entry of number `k`. -/
def tableErase : List (Nat × α) → Nat → List (Nat × α)
  | [], _ => []
  | e :: t, k => if e.1 = k then tableErase t k else e :: tableErase t k

/-- The table with an entry put in at its place by number. -/
def tableInsert : List (Nat × α) → Nat → α → List (Nat × α)
  | [], k, v => [(k, v)]
  | e :: t, k, v => if k < e.1 then (k, v) :: e :: t else e :: tableInsert t k v

/-- The table in which number `k` holds `v`; a number that holds its default is not listed. -/
def tableSet [DecidableEq α] (d : Nat → α) (t : List (Nat × α)) (k : Nat) (v : α) : List (Nat × α) :=
  if v = d k then tableErase t k else tableInsert (tableErase t k) k v

/-- The canonical form: numbers strictly rising from `lo` on, and no entry equal to its default. -/
def tableWfFrom [DecidableEq α] (d : Nat → α) : Nat → List (Nat × α) → Bool
  | _, [] => true
  | lo, e :: t => decide (lo ≤ e.1) && decide (e.2 ≠ d e.1) && tableWfFrom d (e.1 + 1) t

/-- The canonical form of a table: equal tables are then equal lists. -/
def tableWf [DecidableEq α] (d : Nat → α) (t : List (Nat × α)) : Bool := tableWfFrom d 0 t

end Sys2Proof.Machine
end

