-- ==== Sys2Proof/Machine/Records.lean ====
section
/-! DEFINITION. The power-on value of every record (R21, R46, R63, R119, R171), and the record each
station, story, basket, page and font has. -/

namespace Sys2Proof.Machine

/-- The depth record NONE with the NONE values (R9). -/
def noDepth : DepthRecord :=
  { status := .none, depth := 0, lines := 0, overflow := false, fonts := 0, overset := false }

/-- A story table entry's power-on value (R21). -/
def unusedStory : Story :=
  { phase := .unused, closing := false, holder := none, basket := none, prio := .flash, placement := none
    revision := 0, viewers := [], depth := noDepth }

/-- A basket's power-on value (R46). -/
def emptyBasket : Basket := { limit := 2048, watchers := 0, list := [] }

/-- A width table entry's power-on value (R63). -/
def powerOnWidth (c : Nat) : BitVec 6 := if c < 0x20 then 0 else if c = 0x20 then 9 else 18

/-- A font's power-on value (R63). -/
def powerOnFont : Font := { size := 40, leading := 48, widths := [] }

/-- A terminal record's power-on value (R171). -/
def offTerminal : Terminal :=
  { signedOn := false, group := 0, makeup := false, ring := emptyRing, lastRefusal := .none, holdCount := 0 }

/-- A page's power-on value (R119). -/
def emptyPage : Page :=
  { width := 120, gutter := 12, depth := 6048, slots := Vector.replicate 12 none, state := .resting .empty
    lastResult := .none, editionSent := 0 }

/-! ## Stories -/

/-- The story table entry of story `k` (R2). -/
def State.story (s : State) (k : StoryId) : Story := tableGet (fun _ => unusedStory) s.stories k.val

/-- The state with story `k`'s entry replaced. -/
def State.setStory (s : State) (k : StoryId) (v : Story) : State :=
  { s with stories := tableSet (fun _ => unusedStory) s.stories k.val v }

/-- The stories whose entry satisfies `p`, by increasing number; `p` fails of an UNUSED story at its power-on value. -/
def State.storiesWhere (s : State) (p : Story → Bool) : List StoryId :=
  s.stories.filterMap fun e =>
    if h : e.1 < 2048 then if p (s.story ⟨e.1, h⟩) then some ⟨e.1, h⟩ else none else none

/-! ## Baskets -/

/-- The record of basket `b` (R45). -/
def State.basket (s : State) (b : BasketId) : Basket := tableGet (fun _ => emptyBasket) s.baskets b.val

/-- The state with basket `b`'s record replaced. -/
def State.setBasket (s : State) (b : BasketId) (v : Basket) : State :=
  { s with baskets := tableSet (fun _ => emptyBasket) s.baskets b.val v }

/-- The count of a basket: the length of its list (R45). -/
def basketCount (b : Basket) : Nat := b.list.length

/-! ## Fonts -/

/-- The record of font `f` (R63). -/
def State.font (s : State) (f : FontId) : Font := tableGet (fun _ => powerOnFont) s.measure.fonts f.val

/-- The state with font `f`'s record replaced. -/
def State.setFont (s : State) (f : FontId) (v : Font) : State :=
  { s with measure := { s.measure with fonts := tableSet (fun _ => powerOnFont) s.measure.fonts f.val v } }

/-- The width of character code `c` in a font, in width units (R63). -/
def fontWidth (f : Font) (c : Nat) : BitVec 6 := tableGet powerOnWidth f.widths c

/-- A font with the width of character code `c` replaced. -/
def setFontWidth (f : Font) (c : Nat) (w : BitVec 6) : Font :=
  { f with widths := tableSet powerOnWidth f.widths c w }

/-! ## Pages -/

/-- The record of page `p` (R119). -/
def State.page (s : State) (p : PageId) : Page := tableGet (fun _ => emptyPage) s.pages.pages p.val

/-- The state with page `p`'s record replaced. -/
def State.setPage (s : State) (p : PageId) (v : Page) : State :=
  { s with pages := { s.pages with pages := tableSet (fun _ => emptyPage) s.pages.pages p.val v } }

/-- The occupied slots of a page in increasing order (R119). -/
def occupied (p : Page) : List (SlotId × Slot) :=
  allSlots.filterMap fun n => (p.slots[n.val]).map fun sl => (n, sl)

/-- A page with slot `n` replaced. -/
def setSlot (p : Page) (n : SlotId) (v : Option Slot) : Page := { p with slots := p.slots.set n.val v }

/-- A slot's measure in points: span × CW + (span − 1) × G (R68, R119). -/
def slotMeasure (p : Page) (sl : Slot) : Nat := sl.span * p.width + (sl.span - 1) * p.gutter

/-! ## Stations -/

/-- The record of terminal `t` (R171). -/
def State.terminal (s : State) (t : TerminalId) : Terminal := tableGet (fun _ => offTerminal) s.stations.terminals t.val

/-- The state with terminal `t`'s record replaced. -/
def State.setTerminal (s : State) (t : TerminalId) (v : Terminal) : State :=
  { s with
    stations := { s.stations with terminals := tableSet (fun _ => offTerminal) s.stations.terminals t.val v } }

/-- Whether a station is signed on; the system station always is (R167). -/
def State.signedOn (s : State) : Station → Bool
  | .terminal t => (s.terminal t).signedOn
  | .system => true

/-- A station's ring (R107). -/
def State.ring (s : State) : Station → Ring
  | .terminal t => (s.terminal t).ring
  | .system => s.stations.system.ring

/-- The state with a station's ring replaced. -/
def State.setRing (s : State) : Station → Ring → State
  | .terminal t, r => s.setTerminal t { s.terminal t with ring := r }
  | .system, r => { s with stations := { s.stations with system := { s.stations.system with ring := r } } }

/-- A station's last-refusal word (R170). -/
def State.lastRefusal (s : State) : Station → Reason
  | .terminal t => (s.terminal t).lastRefusal
  | .system => s.stations.system.lastRefusal

/-- The state with a station's last-refusal word replaced. -/
def State.setLastRefusal (s : State) : Station → Reason → State
  | .terminal t, r => s.setTerminal t { s.terminal t with lastRefusal := r }
  | .system, r => { s with stations := { s.stations with system := { s.stations.system with lastRefusal := r } } }

end Sys2Proof.Machine
end

