-- ==== Sys2Proof/Machine/Breaker.lean ====
section
/-! DEFINITION. Copyfit arithmetic: the line breaker (R70 to R75), the results of a pass (R76), the trim
computation (R80, R81) and the check (R82). A breaker function answers the run it leaves and the lines it closed. -/

namespace Sys2Proof.Machine

/-- The end of text (R15). -/
def endOfText : Byte := 0x03#8

/-- The paragraph end (R15). -/
def paragraphEnd : Byte := 0x0A#8

/-- Whether a byte is a set character: 0x0A, 0x10 to 0x17, 0x20 to 0xFF (R15). -/
def isSetChar (b : Byte) : Bool :=
  b == paragraphEnd || (decide (0x10 ≤ b.toNat) && decide (b.toNat ≤ 0x17)) || decide (0x20 ≤ b.toNat)

/-- The width of a character in fine units: its width table entry times the point size (R69). -/
def charWidth (f : Font) (b : Byte) : Nat := (fontWidth f b.toNat).toNat * f.size

/-- A run before its first byte: font 0 in effect and alone in the mask (R70). -/
def newRun : Breaker :=
  { font := 0, mask := 1, x := 0, content := false, leading := 0, gap := 0, gapLeading := 0, word := []
    seen := 0, placed := 0, lines := 0, depth := 0 }

/-- The current line closes and counts with a leading; the pending gap is discarded (R72, R74, R75). -/
def closeLine (r : Breaker) (leading mark : Nat) (paragraph : Bool) : Breaker × List Line :=
  ({ r with x := 0, content := false, leading := 0, gap := 0, gapLeading := 0
            lines := r.lines + 1, depth := r.depth + leading },
   [{ leading := leading, mark := mark, paragraph := paragraph }])

/-- The current line closes on a word or glyph that does not fit (R72, R73). -/
def closeFull (r : Breaker) : Breaker × List Line := closeLine r r.leading r.placed false

/-- A glyph is placed on the current line, which has `x` fine units on it afterwards. -/
def putGlyph (r : Breaker) (g : Glyph) (x : Nat) : Breaker :=
  { r with x := x, content := true, leading := max r.leading g.leading, placed := g.mark }

/-- One glyph of a word wider than the measure (R73). -/
def placeGlyph (m : Nat) (r : Breaker) (g : Glyph) : Breaker × List Line :=
  if r.x + g.width ≤ m then (putGlyph r g (r.x + g.width), [])
  else if r.content then ((putGlyph (closeFull r).1 g g.width), (closeFull r).2)
  else (putGlyph r g g.width, [])

/-- The glyphs of a word wider than the measure, one at a time (R73). -/
def placeGlyphs (m : Nat) (r : Breaker) : List Glyph → Breaker × List Line
  | [] => (r, [])
  | g :: gs =>
    let one := placeGlyph m r g
    let rest := placeGlyphs m one.1 gs
    (rest.1, one.2 ++ rest.2)

/-- The width of a word: the sum of its glyphs' widths (R71). -/
def wordWidth (gs : List Glyph) : Nat := (gs.map Glyph.width).sum

/-- The word is placed on the current line after `before` fine units. -/
def putWord (r : Breaker) (before : Nat) (gs : List Glyph) : Breaker :=
  { gs.foldl (fun t g => putGlyph t g t.x) r with x := before + wordWidth gs }

/-- A word fitted to a line with no content (R72). -/
def fitEmpty (m : Nat) (r : Breaker) (gs : List Glyph) : Breaker × List Line :=
  if wordWidth gs ≤ m then (putWord r 0 gs, []) else placeGlyphs m { r with x := 0 } gs

/-- A gathered word fitted to the current line (R72). -/
def fitGlyphs (m : Nat) (r : Breaker) (gs : List Glyph) : Breaker × List Line :=
  if r.content then
    if r.x + r.gap + wordWidth gs ≤ m then
      (putWord { r with leading := max r.leading r.gapLeading } (r.x + r.gap) gs, [])
    else
      let closed := closeFull r
      let fit := fitEmpty m closed.1 gs
      (fit.1, closed.2 ++ fit.2)
  else fitEmpty m r gs

/-- The word being gathered ends: it is fitted, and with its gap is no longer pending (R71, R72). -/
def fitWord (m : Nat) (r : Breaker) : Breaker × List Line :=
  match r.word with
  | [] => (r, [])
  | gs =>
    let fit := fitGlyphs m { r with word := [] } gs
    ({ fit.1 with gap := 0, gapLeading := 0 }, fit.2)

/-- A word space: it ends the word, and joins the pending gap unless the line has no content (R71). -/
def readSpace (m : Nat) (f : Font) (r : Breaker) : Breaker × List Line :=
  let fit := fitWord m r
  if fit.1.content then
    ({ fit.1 with gap := fit.1.gap + charWidth f 0x20#8, gapLeading := max fit.1.gapLeading f.leading }, fit.2)
  else fit

/-- A paragraph end: it ends the word and closes the line, or counts a blank line in the font in effect (R74, R75). -/
def readParagraph (m : Nat) (f : Font) (r : Breaker) : Breaker × List Line :=
  let fit := fitWord m r
  let closed := closeLine fit.1 (if fit.1.content then fit.1.leading else f.leading) fit.1.seen true
  (closed.1, fit.2 ++ closed.2)

/-- One byte of text before the end of text (R70); `fontAt` gives the font store. -/
def readByte (m : Nat) (fontAt : FontId → Font) (r : Breaker) (b : Byte) : Breaker × List Line :=
  if b = paragraphEnd then readParagraph m (fontAt r.font) { r with seen := r.seen + 1 }
  else if 0x10 ≤ b.toNat ∧ b.toNat ≤ 0x17 then
    ({ r with font := Fin.ofNat 8 (b.toNat - 0x10), mask := r.mask ||| BitVec.twoPow 8 (b.toNat - 0x10)
              seen := r.seen + 1 }, [])
  else if b.toNat = 0x20 then readSpace m (fontAt r.font) { r with seen := r.seen + 1 }
  else if 0x21 ≤ b.toNat then
    ({ r with
        word := r.word ++ [{ width := charWidth (fontAt r.font) b, leading := (fontAt r.font).leading, mark := r.seen + 1 }]
        seen := r.seen + 1 }, [])
  else (r, [])

/-- The end of text: the word is fitted and the line closes if it has content (R74). -/
def readEnd (m : Nat) (r : Breaker) : Breaker × List Line :=
  let fit := fitWord m r
  if fit.1.content then
    let closed := closeFull fit.1
    (closed.1, fit.2 ++ closed.2)
  else fit

/-- A run over bytes up to the end of text; whether it was met (R70). -/
def readBytes (m : Nat) (fontAt : FontId → Font) (r : Breaker) : List Byte → Breaker × Bool
  | [] => (r, false)
  | b :: bs => if b = endOfText then (r, true) else readBytes m fontAt (readByte m fontAt r b).1 bs

/-- The number of 16-byte blocks of a story's text (R89). -/
def textBlocks : Nat := 512

/-- The values a completed pass posts (R76), with status FRESH and the overset mark as it stands. -/
def postedDepth (r : Breaker) (overset : Bool) : DepthRecord :=
  { status := .fresh, depth := min r.depth 65535, lines := min r.lines 4095
    overflow := decide (65535 < r.depth) || decide (4095 < r.lines), fonts := r.mask, overset := overset }

/-! ## Trim (section 4.8) -/

/-- The trim computation before the first line. -/
def newTrim : Trim := { lines := 0, depth := 0, mark := 0, paragraph := true, cut := false }

/-- One line counted: sent if it is the first, or if the sum of leadings stays at most the allowance (R80). -/
def trimLine (allowance : Nat) (t : Trim) (l : Line) : Trim :=
  if t.cut then t
  else if t.lines = 0 ∨ t.depth + l.leading ≤ allowance then
    { lines := t.lines + 1, depth := t.depth + l.leading, mark := l.mark, paragraph := l.paragraph, cut := false }
  else { t with cut := true }

/-! ## Check arithmetic (section 4.10) -/

/-- One byte taken into the sums a and b (R82). -/
def checkByte (ab : Nat × Nat) (x : Byte) : Nat × Nat :=
  ((ab.1 + x.toNat) % 255, (ab.2 + (ab.1 + x.toNat) % 255) % 255)

/-- The sums a and b run on over bytes (R82). -/
def checkFrom (ab : Nat × Nat) (xs : List Byte) : Nat × Nat := xs.foldl checkByte ab

/-- The check of a sequence of bytes: b, then a (R82). -/
def checkOf (xs : List Byte) : List Byte :=
  [BitVec.ofNat 8 (checkFrom (0, 0) xs).2, BitVec.ofNat 8 (checkFrom (0, 0) xs).1]

end Sys2Proof.Machine
end

