-- ==== Sys2Proof/Machine/Flags.lean ====
section
/-! DEFINITION. Flags computed from the records: unread counts, the attention lines, the pending map, and the
codes in which live words show states and reasons (chapters 6 and 11). -/

namespace Sys2Proof.Machine

/-- A ring's unread count: (write index − read index) mod 64 (R107). -/
def unread (r : Ring) : Nat := (r.write - r.read).toNat

/-- Whether group `g`'s line is due: enabled, and some signed-on terminal of the group has unread notices (R115). -/
def State.groupDue (s : State) (g : Group) : Bool :=
  s.stations.enables.getLsbD g.val &&
    allTerminals.any fun t =>
      (s.terminal t).signedOn && (s.terminal t).group == g && decide (0 < unread (s.terminal t).ring)

/-- The eight group lines as their conditions stand (R115). -/
def State.groupsDue (s : State) : BitVec 8 :=
  (List.finRange 8).foldl (fun v g => if s.groupDue g then v ||| BitVec.twoPow 8 g.val else v) 0

/-- The attention lines follow their conditions (R115). -/
def State.refreshLines (s : State) : State :=
  { s with
    stations := { s.stations with
      groupLines := s.groupsDue
      systemLine := decide (0 < unread s.stations.system.ring) } }

/-- The flag of station code `c` in the pending map (R117). -/
def State.pendingFlag (s : State) (c : Nat) : Bool :=
  if h : c < 120 then decide (0 < unread (s.terminal ⟨c, h⟩).ring)
  else if c = 127 then decide (0 < unread s.stations.system.ring) else false

/-- Word `k` of the pending map: flag `j` for station 32 × k + j (R117). -/
def State.pendingWord (s : State) (k : Nat) : Word :=
  (List.range 32).foldl (fun v j => if s.pendingFlag (32 * k + j) then v ||| BitVec.twoPow 32 j else v) 0

/-- The code of a refusal reason (section 11.3). -/
def reasonCode : Reason → Nat
  | .none => 0
  | .notSignedOn => 1
  | .notHolder => 2
  | .heldByOther => 3
  | .noRight => 4
  | .frozen => 5
  | .closing => 6
  | .basketFull => 7
  | .holdLimit => 8
  | .readOnly => 9
  | .badSize => 10
  | .badValue => 11
  | .badState => 12
  | .fontsPinned => 13
  | .memoryFault => 14

/-- The code of a notice kind (section 11.4). -/
def kindCode : NoticeKind → Nat
  | .arrival => 1
  | .changed => 2
  | .viewDropped => 3
  | .holdBroken => 4
  | .holdWanted => 5
  | .overset => 6
  | .pageSent => 7
  | .pageFailed => 8
  | .pageChanged => 9
  | .link => 10
  | .measureFault => 11

/-- The code of a failure cause (section 11.4). -/
def causeCode : Cause → Nat
  | .held => 1
  | .timeout => 2
  | .font => 3
  | .overset => 4
  | .fault => 5
  | .link => 6
  | .stalled => 7
  | .check => 8
  | .typesetter => 9
  | .cancelled => 10

/-- The code of a phase (section 11.2). -/
def phaseCode : Phase → Nat
  | .unused => 0
  | .live => 1
  | .frozen => 2

/-- The code of a depth status (section 11.2). -/
def statusCode : DepthStatus → Nat
  | .none => 0
  | .stale => 1
  | .measuring => 2
  | .fresh => 3
  | .faulted => 4

/-- The code of a resting state (section 11.6). -/
def restingCode : Resting → Nat
  | .empty => 0
  | .made => 1
  | .sent => 2
  | .changed => 3

/-- The code of a page state (section 11.6). -/
def pageStateCode : PageState → Nat
  | .resting r => restingCode r
  | .queued _ => 4
  | .waiting _ => 5
  | .sending _ => 6

/-- The resting state field, absent while the state is resting (R119). -/
def restingField : PageState → Option Resting
  | .resting _ => none
  | .queued r => some r
  | .waiting r => some r
  | .sending r => some r

/-- The code of a last result: 0x00 NONE, 0x01 SENT, 0x80 plus the cause for FAILED (section 11.6). -/
def lastResultCode : LastResult → Nat
  | .none => 0
  | .sent => 1
  | .failed c => 0x80 + causeCode c

/-- The code of a policy (section 11.6). -/
def policyCode : Policy → Nat
  | .hold => 0
  | .trim => 1

/-- The code of a link state (section 11.8). -/
def linkStateCode : LinkState → Nat
  | .down => 0
  | .training => 1
  | .up => 2

/-- The code of a measure engine state (section 11.8). -/
def engineCode : Engine → Nat
  | .idle => 0
  | .measuring _ => 1
  | .held => 2

/-- The code of a dispatch engine state (section 11.8). -/
def dispatchCode : DispatchEngine → Nat
  | .idle => 0
  | .waiting => 1
  | .sending _ => 2
  | .aborting => 3

/-- A byte field: its value, or 0xFF for none (chapter 11). -/
def byteField (v : Option Nat) : Nat := v.getD 0xFF

/-- A flag as a number. -/
def flag (b : Bool) : Nat := if b then 1 else 0

end Sys2Proof.Machine
end

