-- ==== Sys2Proof/Config.lean ====
section
/-! DEFINITION. The free values: what the manual leaves open and the machine goes on without.
Each is an opaque constant applied to the model's own counter, so nothing can be proved of it. -/

namespace Sys2Proof.Config

/-- UNVERIFIED, free value (assumption 3): the byte memory leaves where a write met a data fault
("the bytes in memory are those the memory left", R16, R37, R109, R169). Safe: it may be any byte. -/
opaque faultedByte : Nat → Byte

/-- UNVERIFIED, free value (assumption 4): whether memory performs a station's write to a ring slot after
the part's ring write to the same slot ("leaves the bytes as memory performs the two writes", R112).
Safe: it may be either. -/
opaque stationWriteLast : Nat → Bool

/-- UNVERIFIED, free value (assumption 5): whether a read of a ring slot that the part is writing finds the
new byte ("It takes time", R109). Safe: it may find either. -/
opaque ringWriteSeen : Nat → Bool

end Sys2Proof.Config
end

