-- ==== Sys2Proof/Machine/Ops.lean ====
section
/-! DEFINITION. The shared operations: the answer of an access, the window base, and memory. -/

namespace Sys2Proof.Machine

/-! ## Answers (R166, R170) -/

/-- The state with what the copy bus shows replaced. -/
def State.answer (s : State) (a : Answer) (data : Option Data) : State :=
  { s with bus := { answer := a, data := data } }

/-- The access is answered DONE. -/
def State.done (s : State) : State := s.answer .done none

/-- The read is answered DONE and returns its bytes. -/
def State.doneRead (s : State) (d : Data) : State := s.answer .done (some d)

/-- The access is answered RETRY, which records nothing (R166). -/
def State.retry (s : State) : State := s.answer .retry none

/-- The access of a station with a record is refused, and the reason recorded (R170). -/
def State.refuse (s : State) (st : Station) (r : Reason) : State :=
  (s.setLastRefusal st r).answer .refuse none

/-- An access of code 120 to 126 is refused and recorded nowhere (R167). -/
def State.refuseUnknown (s : State) : State := s.answer .refuse none

/-- The station-code test of the window decoder, made before any other test inside the window (R167). -/
def asStation (code : StationCode) (s : State) (op : Station → State) : State :=
  match stationOf code with
  | some st => op st
  | none => s.refuseUnknown

/-- The tests of a live word's entry in order: the first condition met gives the refusal, and otherwise the
request is taken. -/
def testing (st : Station) (tests : List (Bool × Reason)) (s : State) (taken : State) : State :=
  match tests.find? (fun t => t.1) with
  | some t => s.refuse st t.2
  | none => taken

/-- The size test of a live word: a single 4-byte write (R168). -/
def badSize (sz : Size) : Bool := sz != .word

/-- Whether a station is a terminal (the NO-RIGHT test of the system station's words). -/
def isTerminal : Station → Bool
  | .terminal _ => true
  | .system => false

/-! ## The window -/

/-- The size of the window, 32 MiB (R165). -/
def windowBytes : Nat := 0x2000000

/-- The window base: the strapped value times 32 MiB (R165). -/
def State.base (s : State) : Nat := s.strap.toNat * windowBytes

/-- Whether a bus address lies inside the window (R165). -/
def State.inWindow (s : State) (a : Nat) : Bool := decide (s.base ≤ a) && decide (a < s.base + windowBytes)

/-- The bus address of byte `pos` of story `k`'s text (R1). -/
def State.textAddr (s : State) (k : StoryId) (pos : Nat) : Nat := s.base + k.val * 8192 + pos

/-- The bus address of byte `off` of story `k`'s header (R1). -/
def State.headerAddr (s : State) (k : StoryId) (off : Nat) : Nat := s.base + 0x1000000 + k.val * 64 + off

/-- The bus address of byte `off` of a station's ring (section 6.3). -/
def State.ringAddr (s : State) (st : Station) (off : Nat) : Nat :=
  s.base + 0x1020000 + 1024 * stationCode st + off

/-! ## Memory -/

/-- What an address no cell lists reads as. DESIGN CHOICE, unsafe (assumption 2). -/
def unwritten : Nat → Byte := fun _ => 0

/-- The byte of memory at an address. -/
def State.memByte (s : State) (a : Nat) : Byte := tableGet unwritten s.mem a

/-- Memory with bytes stored from an address on. -/
def storeBytes (m : List Host.Cell) (a : Nat) : List Byte → List Host.Cell
  | [] => m
  | b :: bs => storeBytes (tableSet unwritten m a b) (a + 1) bs

/-- The state with bytes stored in memory from an address on. -/
def State.store (s : State) (a : Nat) (bs : List Byte) : State := { s with mem := storeBytes s.mem a bs }

/-- The state after memory reports a data fault on a write of `n` bytes: the bytes are those memory left, each a
free value (R169; assumption 3). -/
def State.storeFaulted (s : State) (a n : Nat) : State :=
  { s.store a ((List.range n).map fun i => Config.faultedByte (s.free + i)) with free := s.free + n }

/-- The bytes memory holds from an address on. -/
def State.load (s : State) (a n : Nat) : List Byte := (List.range n).map fun i => s.memByte (a + i)

/-- Memory's part of a plain write that is admitted: the bytes reach memory, or memory reports a data fault (R169). -/
def State.plainStore (s : State) (a n : Nat) (data : Data) (fault : Bool) : State :=
  if fault then s.storeFaulted a n else s.store a (dataBytes n data)

/-- The answer of an admitted plain write inside the window (R169). -/
def State.plainAnswer (s : State) (st : Station) (fault : Bool) : State :=
  if fault then s.refuse st .memoryFault else s.done

end Sys2Proof.Machine
end

