-- ==== Sys2Proof/Machine/Notices.lean ====
section
/-! DEFINITION. Notices and rings (chapter 6): forming a notice, handing it to the station unit, writing it to a
ring, and what a sign-off or a bus reset does to notices under way. -/

namespace Sys2Proof.Machine

/-- A 16-bit number as its two bytes, least significant first (section 11.4). -/
def bytes16 (n : Nat) : List Byte := [BitVec.ofNat 8 n, BitVec.ofNat 8 (n / 256)]

/-- The 16-byte notice record as it stands in a ring slot (section 11.4). -/
def noticeBytes (n : Notice) : List Byte :=
  [BitVec.ofNat 8 (kindCode n.kind), n.detail] ++
  bytes16 ((n.story.map Fin.val).getD 0xFFFF) ++
  [BitVec.ofNat 8 (byteField (n.page.map Fin.val)), BitVec.ofNat 8 (byteField (n.slot.map Fin.val)),
   BitVec.ofNat 8 (byteField (n.basket.map Fin.val)), BitVec.ofNat 8 (byteField (n.cause.map stationCode)),
   BitVec.ofNat 8 n.edition, BitVec.ofNat 8 (prioCode n.prio + 128 * flag n.urgent)] ++
  bytes16 n.depth ++
  [wordByte n.time 0, wordByte n.time 1, wordByte n.time 2, wordByte n.time 3]

/-- A notice naming no story, with the values of R106. -/
def State.plainNotice (s : State) (kind : NoticeKind) (detail : Byte) : Notice :=
  { kind := kind, detail := detail, story := none, page := none, slot := none, basket := none, cause := none
    edition := s.pages.edition, prio := .flash, urgent := false, depth := 0, time := s.timebase }

/-- A notice naming a story, with the values of R106. -/
def State.storyNotice (s : State) (kind : NoticeKind) (detail : Byte) (k : StoryId) : Notice :=
  { s.plainNotice kind detail with
    story := some k
    page := (s.story k).placement.map Prod.fst
    slot := (s.story k).placement.map Prod.snd
    basket := (s.story k).basket
    prio := (s.story k).prio
    depth := (s.story k).depth.depth }

/-- The notice of a rule that names a story only in some cases. -/
def State.maybeStoryNotice (s : State) (kind : NoticeKind) (detail : Byte) : Option StoryId → Notice
  | some k => s.storyNotice kind detail k
  | none => s.plainNotice kind detail

/-- The places of the outgoing notice queue (R108). -/
def outgoingPlaces : Nat := 256

/-- The overrun flag of a station is set (R110). -/
def State.setOverrun (s : State) (st : Station) : State := s.setRing st { s.ring st with overrun := true }

/-- A notice handed to the station unit joins the outgoing queue, or is discarded (R108). -/
def State.raise (s : State) (st : Station) (n : Notice) : State :=
  if s.signedOn st then
    if s.stations.outgoing.length < outgoingPlaces then
      { s with stations := { s.stations with outgoing := s.stations.outgoing ++ [{ recipient := st, notice := n }] } }
    else s.setOverrun st
  else s

/-- Notices handed over one after another (R108). -/
def State.raiseAll (s : State) (ns : List Outgoing) : State :=
  ns.foldl (fun t o => t.raise o.recipient o.notice) s

/-- The state with the ring write in flight replaced. -/
def State.setRingWrite (s : State) (w : Option RingWrite) : State :=
  { s with stations := { s.stations with ringWrite := w } }

/-- The head notice leaves the outgoing queue. -/
def State.dropHead (s : State) : State :=
  { s with stations := { s.stations with outgoing := s.stations.outgoing.tail } }

/-- The head notice is tested against its recipient, and written or discarded (R109). Nothing happens while a ring
write is in flight or the queue is empty. -/
def State.ringWriteStart (s : State) : State :=
  match s.stations.ringWrite, s.stations.outgoing with
  | none, o :: _ =>
    if s.signedOn o.recipient then
      if unread (s.ring o.recipient) < 32 then
        s.setRingWrite (some
          { recipient := o.recipient, notice := o.notice, slot := (s.ring o.recipient).write.toNat % 32
            voided := false, contested := [] })
      else (s.dropHead).setOverrun o.recipient
    else s.dropHead
  | _, _ => s

/-- Whether byte `i` of the slot keeps a station's write made while the ring write was in flight (R112; assumption 4). -/
def State.stationByteStays (s : State) (w : RingWrite) (i : Nat) : Bool :=
  w.contested.contains i && Config.stationWriteLast (s.free + i)

/-- The bytes the slot holds when memory completes the ring write (R109, R112). -/
def State.ringWriteBytes (s : State) (w : RingWrite) : List Byte :=
  (noticeBytes w.notice).mapIdx fun i b =>
    if s.stationByteStays w i then s.memByte (s.ringAddr w.recipient (16 * w.slot) + i) else b

/-- Memory's part of the end of a ring write: the record stands in the slot, or the slot holds what memory left. -/
def State.ringWriteStored (s : State) (w : RingWrite) (fault : Bool) : State :=
  if fault then s.storeFaulted (s.ringAddr w.recipient (16 * w.slot)) 16
  else { s.store (s.ringAddr w.recipient (16 * w.slot)) (s.ringWriteBytes w) with free := s.free + 16 }

/-- The write index advances by one, modulo 64 (R109). -/
def State.advanceRing (s : State) (st : Station) : State :=
  s.setRing st { s.ring st with write := (s.ring st).write + 1 }

/-- The ring write in flight ends: memory completes it, or reports a data fault on it (R109). One voided by a
sign-off or a bus reset advances no index and sets no flag (R113, R107). -/
def State.ringWriteComplete (s : State) (fault : Bool) : State :=
  match s.stations.ringWrite with
  | none => s
  | some w =>
    if w.voided then (s.ringWriteStored w fault).setRingWrite none
    else if fault then (((s.ringWriteStored w fault).setRingWrite none).dropHead).setOverrun w.recipient
    else ((((s.ringWriteStored w fault).setRingWrite none).dropHead).advanceRing w.recipient).refreshLines

/-- A station's write reaches bytes of a ring slot that the part is writing at the same time (R112). -/
def State.noteContested (s : State) (owner : Station) (off n : Nat) : State :=
  match s.stations.ringWrite with
  | some w =>
    if w.recipient = owner ∧ 16 * w.slot ≤ off ∧ off < 16 * w.slot + 16 then
      s.setRingWrite (some { w with contested := w.contested ++ (List.range n).map (fun i => off - 16 * w.slot + i) })
    else s
  | none => s

/-- Every notice for a station under way is discarded: those queued leave the queue, and a ring write in flight
finishes in memory only (R113). -/
def State.discardNotices (s : State) (st : Station) : State :=
  { s with
    stations := { s.stations with
      outgoing := s.stations.outgoing.filter fun o => o.recipient != st
      ringWrite := s.stations.ringWrite.map fun w => if w.recipient = st then { w with voided := true } else w } }

/-- 1 while a ring write for the station is in flight, a voided one too (R111; assumption 14). -/
def State.inFlight (s : State) (st : Station) : Nat :=
  match s.stations.ringWrite with
  | some w => if w.recipient = st then 1 else 0
  | none => 0

/-- The read index a write of `v` leaves, by the three cases of R111. -/
def clampedRead (write v : BitVec 6) (f : Nat) : BitVec 6 :=
  if (write - v).toNat ≤ 32 - f then v
  else if (write - v).toNat ≤ 32 then write - 32#6 + BitVec.ofNat 6 f
  else write

/-- A write of NOTICE READ INDEX that passes its tests (R111). The read index of a terminal that is not signed on
becomes equal to its write index. -/
def State.setReadIndex (s : State) (owner : Station) (v : Word) : State :=
  let r := s.ring owner
  let read := if s.signedOn owner then clampedRead r.write (v.setWidth 6) (s.inFlight owner) else r.write
  (s.setRing owner { r with read := read, overrun := r.overrun && decide (r.write - read ≠ 0) }).refreshLines

end Sys2Proof.Machine
end

