-- ==== Sys2Proof/Machine/LinkPort.lean ====
section
/-! DEFINITION. The link as the dispatch engine uses it (chapter 9): the frames and their bytes, the transmitter,
handing over a frame of a send or an ABORT, and settling the outstanding frame. -/

namespace Sys2Proof.Machine

/-- A 16-bit field of a frame, most significant byte first (R151). -/
def wide (n : Nat) : List Byte := [BitVec.ofNat 8 (n / 256), BitVec.ofNat 8 n]

/-- A one-byte field of a frame. -/
def narrow (n : Nat) : List Byte := [BitVec.ofNat 8 n]

/-- The kind code of a frame (R152). -/
def frameKind : Frame → Byte
  | .pageBegin .. => 0x42
  | .slot .. => 0x43
  | .text _ => 0x44
  | .pageEnd .. => 0x45
  | .abort _ => 0x46
  | .slotEnd .. => 0x47

/-- The payload of a frame (R152, section 11.9). -/
def framePayload : Frame → List Byte
  | .pageBegin p e w g d n => narrow p.val ++ narrow e ++ wide w ++ narrow g ++ wide d ++ narrow n
  | .slot n sp k rev a pol => narrow n.val ++ narrow sp ++ wide k.val ++ [rev] ++ wide a ++ narrow (policyCode pol)
  | .text xs => xs
  | .slotEnd n d l cut => narrow n.val ++ wide d ++ wide l ++ narrow (flag cut)
  | .pageEnd p b a => narrow p.val ++ narrow b ++ narrow a
  | .abort p => narrow p.val

/-- The envelope of a frame: 0xA5, kind, length, payload, and the check b then a (R151). -/
def envelope (kind : Byte) (payload : List Byte) : List Byte :=
  let body := kind :: BitVec.ofNat 8 payload.length :: payload
  0xA5#8 :: (body ++ checkOf body)

/-- The bytes of the part's ABILITY: version 1, largest payload 240, font set 0xFF (R152). -/
def abilityBytes : List Byte := envelope 0x41#8 [1#8, 240#8, 0xFF#8]

/-- The bytes that go out on the line for a frame handed to the transmitter (R151). -/
def transmissionBytes : Transmission → List Byte
  | .ability => abilityBytes
  | .attempt f _ => envelope (frameKind f) (framePayload f)

/-- The reply timer's period in milliseconds (R154). -/
def replyPeriod : Nat := 400

/-- The WAIT timer's period in milliseconds (R154). -/
def waitPeriod : Nat := 30000

/-- The training timer's period in milliseconds (R154). -/
def trainingPeriod : Nat := 1000

/-- The gap timer's period in milliseconds (R154). -/
def gapPeriod : Nat := 20

/-- The largest TEXT payload of the part (R152, R156). -/
def largestText : Nat := 240

/-- Whether a frame is an ABORT. -/
def isAbort : Frame → Bool
  | .abort _ => true
  | _ => false

/-- Whether a frame is a PAGE-END. -/
def isPageEnd : Frame → Bool
  | .pageEnd .. => true
  | _ => false

/-- A frame handed to the transmitter goes out behind those already there (R151; assumption 16). -/
def transmit (l : Link) (t : Transmission) : Link := { l with transmitter := l.transmitter ++ [t] }

/-- A transmission no longer belongs to the outstanding frame. -/
def orphan : Transmission → Transmission
  | .ability => .ability
  | .attempt f _ => .attempt f false

/-- The outstanding frame is done, ended, abandoned or discarded, and its reply timer stopped (R157 to R159). Its tries handed
to the transmitter still go out, whole and in their order (R151), and no reply timer starts for them (R159). -/
def settle (l : Link) : Link :=
  { l with outstanding := none, replyTimer := none, transmitter := l.transmitter.map orphan }

/-- A frame of a send handed over becomes outstanding with try count 1; its first try goes out at once unless the
WAIT hold is set (R159, R160). -/
def handFrame (l : Link) (f : Frame) : Link :=
  let l1 := { l with outstanding := some { frame := f, tries := 1 } }
  if l.waitHold then l1 else transmit l1 (.attempt f true)

/-- The WAIT hold is cleared and the WAIT timer stopped (R160). -/
def clearWait (l : Link) : Link := { l with waitHold := false, waitTimer := none }

/-- An ABORT handed over: the WAIT hold ends, any frame outstanding is abandoned, and the ABORT goes out (R147, R160). -/
def handAbort (l : Link) (p : PageId) : Link := handFrame (clearWait (settle l)) (.abort p)

/-- The state with the link replaced. -/
def State.setLink (s : State) (l : Link) : State := { s with link := l }

end Sys2Proof.Machine
end

