-- ==== Sys2Proof/Machine/Measure.lean ====
section
/-! DEFINITION. The measure queue and engine (chapter 5): staling, abandonment, promotion, and the overset
evaluation (section 4.7). The events of a pass that concern the dispatch engine stand in Pass.lean. -/

namespace Sys2Proof.Machine

/-- The state with the measure queue replaced. -/
def State.setQueue (s : State) (q : List StoryId) : State := { s with measure := { s.measure with queue := q } }

/-- The state with the measure engine replaced. -/
def State.setEngine (s : State) (e : Engine) : State := { s with measure := { s.measure with engine := e } }

/-- The state with story `k`'s depth status replaced. -/
def State.setStatus (s : State) (k : StoryId) (st : DepthStatus) : State :=
  s.setStory k { s.story k with depth := { (s.story k).depth with status := st } }

/-- The period of the font-wait timer in milliseconds (R95). -/
def fontWaitPeriod : Nat := 5

/-- The engine leaves MEASURING: for HELD with the font-wait timer started when the font-wait mark is set, and for
IDLE otherwise (R88, R95). -/
def State.leaveMeasuring (s : State) : State :=
  if s.measure.fontWait then
    { s with measure := { s.measure with engine := .held, fontWaitTimer := some fontWaitPeriod } }
  else s.setEngine .idle

/-- The font-wait hold ends: the mark is cleared, the timer stopped and the engine IDLE (R95). -/
def State.endFontWait (s : State) : State :=
  { s with measure := { s.measure with engine := .idle, fontWait := false, fontWaitTimer := none } }

/-- Whether a pass of story `k` is in flight. -/
def State.inPass (s : State) (k : StoryId) : Bool :=
  match s.measure.engine with
  | .measuring p => p.story == k
  | _ => false

/-- The pass in flight is abandoned if it is story `k`'s (R92). -/
def State.abandonPass (s : State) (k : StoryId) : State := if s.inPass k then s.leaveMeasuring else s

/-- The story becomes STALE at the tail of the measure queue (R86). -/
def State.queueStale (s : State) (k : StoryId) : State :=
  let t := s.setStatus k .stale
  t.setQueue (t.measure.queue ++ [k])

/-- A staling cause applied to one story (R86). A story that is NONE is reached by creation alone, which uses
`queueStale`. -/
def State.stale (s : State) (k : StoryId) : State :=
  match (s.story k).depth.status with
  | .none => s
  | .stale => s
  | .fresh => s.queueStale k
  | .faulted => s.queueStale k
  | .measuring => (s.abandonPass k).queueStale k

/-- A staling cause applied to several stories in the order given (R87). -/
def State.staleAll (s : State) (ks : List StoryId) : State := ks.foldl State.stale s

/-- A font write stales every story whose fonts-used mask contains the font (R67, R85). -/
def State.staleFont (s : State) (f : FontId) : State :=
  s.staleAll (s.storiesWhere fun v => v.depth.fonts.getLsbD f.val)

/-- The measure of a story in points: its slot's if it is placed, and otherwise S (R68). -/
def State.measurePoints (s : State) (k : StoryId) : Nat :=
  match (s.story k).placement with
  | some (p, n) =>
    match (s.page p).slots[n.val] with
    | some sl => slotMeasure (s.page p) sl
    | none => s.measure.standard
  | none => s.measure.standard

/-- Fine units in a point (section 4.1). -/
def finePerPoint : Nat := 144

/-- The IDLE engine takes the head of a non-empty queue (R88, R89). Nothing happens otherwise. -/
def State.takePass (s : State) : State :=
  match s.measure.engine, s.measure.queue with
  | .idle, k :: q =>
    ((s.setQueue q).setStatus k .measuring).setEngine
      (.measuring { story := k, measure := s.measurePoints k * finePerPoint, block := 0, breaker := newRun })
  | _, _ => s

/-- The 16 bytes of block `i` of story `k`'s text (R89). -/
def State.textBlock (s : State) (k : StoryId) (i : Nat) : List Byte := s.load (s.textAddr k (16 * i)) 16

/-- Whether block `i` of story `k`'s text is the last the engine reads: it holds the first 0x03, or it ends at byte
8191 (R89). -/
def State.lastBlock (s : State) (k : StoryId) (i : Nat) : Bool :=
  decide (textBlocks ≤ i + 1) || (s.textBlock k i).contains endOfText

/-- A block before the last arrives, and the line breaker runs over it (R89). Nothing happens when no pass is in
flight or the block to come is the last, which completes the pass. -/
def State.measureBlock (s : State) : State :=
  match s.measure.engine with
  | .measuring p =>
    if s.lastBlock p.story p.block then s
    else s.setEngine (.measuring
      { p with block := p.block + 1, breaker := (readBytes p.measure s.font p.breaker (s.textBlock p.story p.block)).1 })
  | _ => s

/-- The run over `n` blocks from block `i` on, up to the end of text. -/
def State.runBlocks (s : State) (k : StoryId) (m : Nat) : Nat → Nat → Breaker → Breaker
  | 0, _, r => r
  | n + 1, i, r =>
    if s.lastBlock k i then (readBytes m s.font r (s.textBlock k i)).1
    else s.runBlocks k m n (i + 1) (readBytes m s.font r (s.textBlock k i)).1

/-- The run of a pass to its end: the blocks still to be read, and the end of text (R89, R90; assumption 9). -/
def State.finishPass (s : State) (p : Pass) : Breaker :=
  (readEnd p.measure (s.runBlocks p.story p.measure (textBlocks - p.block) p.block p.breaker)).1

/-! ## Overset (section 4.7) -/

/-- The allowance of the slot that holds a story, if it is placed (R77). -/
def State.allowanceOf (s : State) (k : StoryId) : Option Nat :=
  (s.story k).placement.bind fun pn => ((s.page pn.1).slots[pn.2.val]).map Slot.allowance

/-- The result of an overset evaluation (R77). -/
def State.oversetNow (s : State) (k : StoryId) : Bool :=
  match s.allowanceOf k with
  | some a => (s.story k).depth.overflow || decide (a < (s.story k).depth.depth)
  | none => false

/-- The stations told of a story's overset or fault: the system station, then a terminal holder (R78, R91). -/
def State.toldOf (s : State) (k : StoryId) : List Station :=
  .system :: match (s.story k).holder with
    | some (.terminal t) => [.terminal t]
    | _ => []

/-- Details of OVERSET: 1 OVER, 2 FITS (section 11.4). -/
def oversetDetail (isOver : Bool) : Byte := if isOver then 1 else 2

/-- The story is evaluated for overset, and OVERSET is raised if its mark changes (R77, R78). -/
def State.evaluateOverset (s : State) (k : StoryId) (cause : Option Station) : State :=
  let now := s.oversetNow k
  let t := s.setStory k { s.story k with depth := { (s.story k).depth with overset := now } }
  if (s.story k).depth.overset = now then t
  else t.raiseAll ((t.toldOf k).map fun st =>
    { recipient := st, notice := { t.storyNotice .overset (oversetDetail now) k with cause := cause } })

/-- An allowance change handed to the measure unit: evaluated when the status is FRESH (R77). -/
def State.allowanceChanged (s : State) (k : StoryId) (writer : Station) : State :=
  if (s.story k).depth.status = .fresh then s.evaluateOverset k (some writer) else s

/-! ## Promotion (R93) -/

/-- The page's STALE stories move to the front of the queue in increasing slot order (R93). -/
def State.promote (s : State) (p : PageId) : State :=
  let front := ((occupied (s.page p)).map fun e => e.2.story).filter fun k => (s.story k).depth.status == .stale
  s.setQueue (front ++ s.measure.queue.filter fun k => !front.contains k)

end Sys2Proof.Machine
end

