-- ==== Sys2Proof/Machine/Send.lean ====
section
/-! DEFINITION. The dispatch engine (chapter 8): the queue, waiting, evaluation, sending, completion and failure. -/

namespace Sys2Proof.Machine

/-! ## The queue and the page at its head -/

/-- The state with the dispatch engine's state replaced. -/
def State.setDispatchEngine (s : State) (e : DispatchEngine) : State :=
  { s with dispatch := { s.dispatch with engine := e } }

/-- The state with the hold-wait timer replaced. -/
def State.setHoldTimer (s : State) (t : Option Nat) : State :=
  { s with dispatch := { s.dispatch with holdWaitTimer := t } }

/-- The state with page `p`'s state replaced. -/
def State.setPageState (s : State) (p : PageId) (st : PageState) : State :=
  s.setPage p { s.page p with state := st }

/-- Whether a page state is QUEUED. -/
def isQueued : PageState → Bool
  | .queued _ => true
  | _ => false

/-- Whether a page state is WAITING. -/
def isWaiting : PageState → Bool
  | .waiting _ => true
  | _ => false

/-- Whether a page state is SENDING. -/
def isSending : PageState → Bool
  | .sending _ => true
  | _ => false

/-- The resting state a page returns to when it leaves the queue (R119, R120). -/
def restingOf : PageState → Resting
  | .resting r => r
  | .queued r => r
  | .waiting r => r
  | .sending r => r

/-- The page at the head of the queue while it is WAITING. -/
def State.waitingHead (s : State) : Option Queued :=
  match s.dispatch.queue with
  | e :: _ => if isWaiting (s.page e.page).state then some e else none
  | [] => none

/-- The page at the head of the queue while it is SENDING (R94). -/
def State.sendingHead (s : State) : Option Queued :=
  match s.dispatch.queue with
  | e :: _ => if isSending (s.page e.page).state then some e else none
  | [] => none

/-- An empty wanted record (R137). -/
def noneWanted : Vector (Option Station) 12 := Vector.replicate 12 none

/-- The stories in a page's occupied slots, in increasing slot order. -/
def State.pageStories (s : State) (p : PageId) : List StoryId := (occupied (s.page p)).map fun e => e.2.story

/-- The closing marker of a story is set or cleared (R4). -/
def State.setClosing (s : State) (k : StoryId) (b : Bool) : State := s.setStory k { s.story k with closing := b }

/-- The closing markers of a page's stories are set or cleared (R4). -/
def State.markClosing (s : State) (p : PageId) (b : Bool) : State :=
  (s.pageStories p).foldl (fun t k => t.setClosing k b) s

/-! ## Evaluation (R138) -/

/-- What an evaluation decides. -/
inductive Verdict where
  | fails (cause : Cause) (slot : SlotId) (story : StoryId)
  | waits
  | passes
  deriving DecidableEq, Repr

/-- The failure a slot's story meets, FONT before OVERSET (R138). -/
def State.slotFailure (s : State) (sl : Slot) : Option Cause :=
  let d := (s.story sl.story).depth
  match d.status with
  | .faulted => some .fault
  | .fresh =>
    if d.fonts &&& ~~~ s.link.mask ≠ 0 then some .font
    else if sl.policy = .hold ∧ d.overset = true then some .overset else none
  | _ => none

/-- Whether a slot's story makes the page wait (R138). -/
def State.slotWaits (s : State) (sl : Slot) : Bool :=
  (s.story sl.story).holder.isSome ||
    (s.story sl.story).depth.status == .stale || (s.story sl.story).depth.status == .measuring

/-- The outcome of the evaluation of page `p` as it stands (R138). -/
def State.verdict (s : State) (p : PageId) : Verdict :=
  match (occupied (s.page p)).findSome? fun e => (s.slotFailure e.2).map fun c => (c, e.1, e.2.story) with
  | some (c, n, k) => .fails c n k
  | none => if (occupied (s.page p)).any fun e => s.slotWaits e.2 then .waits else .passes

/-! ## Sending (R142 to R144) -/

/-- The fewest characters that are certain to be sent: for a trimmed story those of the lines sent so far, and
otherwise all that have been read (R81, R143). -/
def certain (r : Reader) : Nat :=
  match r.trim with
  | some t => if r.finished then r.chars.length else t.mark - r.framed
  | none => r.chars.length

/-- A story's reading before its first block (R142, R143); trimmed when its slot's policy is TRIM and its overset
mark is set. -/
def State.newReader (s : State) (sl : Slot) : Reader :=
  { block := 0, breaker := newRun
    trim := if sl.policy = .trim ∧ (s.story sl.story).depth.overset = true then some newTrim else none
    chars := [], framed := 0, finished := false }

/-- The reading stops at the first line not sent: the characters sent end with the last line sent (R81). -/
def cutReader (r : Reader) (t : Trim) : Reader :=
  { r with trim := some t, finished := true
           chars := r.chars.take (t.mark - r.framed) ++ if t.paragraph then [] else [paragraphEnd] }

/-- Lines the breaker has closed are taken into the trim computation (R80). -/
def readLines (allowance : Nat) (r : Reader) (ls : List Line) : Reader :=
  match r.trim with
  | none => r
  | some t =>
    let t1 := ls.foldl (trimLine allowance) t
    if t1.cut then cutReader r t1 else { r with trim := some t1 }

/-- The end of text is met: the last line closes, and every character read is sent unless a line is not (R80, R81). -/
def readTextEnd (m allowance : Nat) (r : Reader) : Reader :=
  let e := readEnd m r.breaker
  let r1 := readLines allowance { r with breaker := e.1 } e.2
  { r1 with finished := true }

/-- One byte of text read for a send (R143). -/
def readSendByte (m : Nat) (fontAt : FontId → Font) (allowance : Nat) (r : Reader) (x : Byte) : Reader :=
  if r.finished then r
  else if x = endOfText then readTextEnd m allowance r
  else
    let step := readByte m fontAt r.breaker x
    readLines allowance
      { r with breaker := step.1, chars := if isSetChar x then r.chars ++ [x] else r.chars } step.2

/-- The block just read for a send, and the end of text after the last block (R143). -/
def readSendBlock (m : Nat) (fontAt : FontId → Font) (allowance : Nat) (r : Reader) (xs : List Byte) : Reader :=
  let r1 := xs.foldl (readSendByte m fontAt allowance) { r with block := r.block + 1 }
  if r1.finished then r1
  else if textBlocks ≤ r1.block then readTextEnd m allowance r1 else r1

/-- The state with the send state replaced. -/
def State.setSend (s : State) (x : SendState) : State := s.setDispatchEngine (.sending x)

/-- A frame of the send is handed to the link (R142, R159). -/
def State.handOver (s : State) (f : Frame) : State := s.setLink (handFrame s.link f)

/-- The slot record of slot `n` of page `p`, if the slot is occupied. -/
def State.slotOf (s : State) (p : PageId) (n : SlotId) : Option Slot := (s.page p).slots[n.val]

/-- The SLOT frame of an occupied slot (R142). -/
def State.slotFrame (s : State) (n : SlotId) (sl : Slot) : Frame :=
  .slot n sl.span sl.story (s.story sl.story).revision sl.allowance sl.policy

/-- The SLOT-END frame of a story whose reading has stopped (R143). -/
def slotEndFrame (n : SlotId) (r : Reader) : Frame :=
  match r.trim with
  | some t => .slotEnd n t.depth t.lines t.cut
  | none => .slotEnd n r.breaker.depth r.breaker.lines false

/-- A TEXT frame of the next characters: its payload is counted in the page check as it is formed (R143, R83). -/
def State.handText (s : State) (x : SendState) (n : Nat) : State :=
  let payload := x.reader.chars.take n
  let ab := checkFrom (x.a, x.b) payload
  (s.setSend { x with
    stage := .text, a := ab.1, b := ab.2
    reader := { x.reader with chars := x.reader.chars.drop n, framed := x.reader.framed + payload.length } }).handOver
      (.text payload)

/-- The next frame of the story in progress: a full TEXT frame, the last TEXT frame, or SLOT-END; none while reading
has yet to settle it (R142, R143). -/
def State.pumpText (s : State) (x : SendState) : State :=
  if 0 < s.link.agreed ∧ s.link.agreed ≤ certain x.reader then s.handText x s.link.agreed
  else if x.reader.finished then
    if x.reader.chars = [] then
      (s.setSend { x with stage := .slotEnd }).handOver (slotEndFrame x.slot x.reader)
    else s.handText x x.reader.chars.length
  else s.setSend { x with stage := .text }

/-- The SLOT frame of slot `n`, whose story's reading begins (R142). -/
def State.handSlot (s : State) (p : PageId) (x : SendState) (n : SlotId) : State :=
  match s.slotOf p n with
  | some sl =>
    (s.setSend { x with slot := n, stage := .slot, reader := if n = x.slot then x.reader else s.newReader sl }).handOver
      (s.slotFrame n sl)
  | none => s

/-- The occupied slot after slot `n`, if any (R142). -/
def State.nextSlot (s : State) (p : PageId) (n : SlotId) : Option SlotId :=
  ((occupied (s.page p)).map Prod.fst).find? fun k => decide (n < k)

/-! ## Completion and failure (R145, R146) -/

/-- A story is frozen and its closing marker cleared (R39). -/
def State.freeze (s : State) (k : StoryId) : State :=
  s.setStory k { s.story k with
    phase := if (s.story k).phase = .live then .frozen else (s.story k).phase
    closing := false }

/-- The page leaves the dispatch queue, and the wanted record is emptied if it was the head (R137). -/
def State.leaveQueue (s : State) (p : PageId) : State :=
  { s with
    dispatch := { s.dispatch with
      queue := s.dispatch.queue.filter fun e => e.page != p
      wanted := if (s.dispatch.queue.head?.map Queued.page) = some p then noneWanted else s.dispatch.wanted } }

/-- Steps 1 to 5 of the completion of the head page's dispatch (R145). -/
def State.completePage (s : State) (e : Queued) : State :=
  let s1 := (s.pageStories e.page).foldl State.freeze s
  let s2 := s1.setPage e.page
    { s1.page e.page with state := .resting .sent, lastResult := .sent, editionSent := e.stamp }
  let s3 := s2.raise .system { s2.plainNotice .pageSent 0 with page := some e.page, edition := e.stamp }
  (s3.leaveQueue e.page).setDispatchEngine .idle

/-- What a failure names (R146): its cause, the slot and story the cause names, and the cause station. -/
structure Failing where
  cause : Cause
  named : Option (SlotId × StoryId)
  station : Option Station
  deriving DecidableEq, Repr

/-- The PAGE-FAILED of a failure (R146). -/
def State.failedNotice (s : State) (e : Queued) (f : Failing) : Notice :=
  { s.maybeStoryNotice .pageFailed (BitVec.ofNat 8 (causeCode f.cause)) (f.named.map Prod.snd) with
    page := some e.page
    slot := f.named.map Prod.fst
    cause := f.station
    edition := e.stamp }

/-- Steps 1 to 5 of a failure (R146). The hold-wait timer, which runs for a WAITING page, is stopped when the page
that fails is WAITING (R140; assumption 21). -/
def State.failRecord (s : State) (e : Queued) (f : Failing) : State :=
  let st := (s.page e.page).state
  let s1 := if isWaiting st || isSending st then s.markClosing e.page false else s
  let s2 := if isWaiting st then s1.setHoldTimer none else s1
  let s3 := s2.setPage e.page
    { s2.page e.page with state := .resting (restingOf st), lastResult := .failed f.cause }
  let s4 := s3.raise .system (s3.failedNotice e f)
  s4.leaveQueue e.page

/-- Step 6 of a failure but for the advance: an ABORT follows a send that fails with the link UP; otherwise the engine
enters IDLE if the page was the head and the engine is not ABORTING (R146, R147). -/
def State.failEngine (s : State) (p : PageId) (wasHead wasSending : Bool) : State :=
  if wasSending && s.link.state == .up then
    (s.setDispatchEngine .aborting).setLink (handAbort s.link p)
  else if wasHead && s.dispatch.engine != .aborting then s.setDispatchEngine .idle
  else s

/-- A failure of a page's dispatch, but for the advance of the next head (R146). -/
def State.failPage (s : State) (e : Queued) (f : Failing) : State :=
  let wasHead := decide ((s.dispatch.queue.head?.map Queued.page) = some e.page)
  (s.failRecord e f).failEngine e.page wasHead (isSending (s.page e.page).state)

/-! ## Waiting (R135 to R141) -/

/-- HOLD-WANTED for slot `n`, unless its story is unheld or the wanted record names its holder already (R137). -/
def State.wantHold (s : State) (e : Queued) (ns : SlotId × Slot) : State :=
  match (s.story ns.2.story).holder with
  | some st =>
    if s.dispatch.wanted[ns.1.val] = some st then s
    else
      let t : State := { s with dispatch := { s.dispatch with wanted := s.dispatch.wanted.set ns.1.val (some st) } }
      t.raise st
        { s.storyNotice .holdWanted 0 ns.2.story with
          page := some e.page, slot := some ns.1, cause := some .system, edition := e.stamp, urgent := true }
  | none => s

/-- Steps 1 to 5 of the head page's entry into WAITING (R136). -/
def State.enterWaiting (s : State) (e : Queued) : State :=
  let s1 := (s.setPageState e.page (.waiting (restingOf (s.page e.page).state))).setDispatchEngine .waiting
  let s2 := s1.markClosing e.page true
  let s3 := s2.setHoldTimer (some (s2.dispatch.holdWait * 1000))
  let s4 := s3.promote e.page
  (occupied (s4.page e.page)).foldl (fun t ns => t.wantHold e ns) s4

/-- The PAGE-BEGIN frame (R142). -/
def State.pageBeginFrame (s : State) (e : Queued) : Frame :=
  let pg := s.page e.page
  .pageBegin e.page e.stamp pg.width pg.gutter pg.depth (occupied pg).length

/-- The head page enters SENDING (R142). -/
def State.enterSending (s : State) (e : Queued) : State :=
  match (occupied (s.page e.page)).head? with
  | some (n, sl) =>
    let s1 := s.setPageState e.page (.sending (restingOf (s.page e.page).state))
    let s2 := s1.setSend { slot := n, stage := .pageBegin, reader := s1.newReader sl, a := 0, b := 0 }
    let s3 := s2.setHoldTimer none
    s3.handOver (s3.pageBeginFrame e)
  | none => s

/-- The failure an evaluation finds (R138). -/
def evaluationFailure (c : Cause) (n : SlotId) (k : StoryId) : Failing :=
  { cause := c, named := some (n, k), station := none }

/-- The head of the queue advances from QUEUED while the engine is IDLE and the link is UP (R135): it enters WAITING
and is evaluated; a page that fails gives way to the next. `n` bounds the pages taken. -/
def State.advanceUpTo : Nat → State → State
  | 0, s => s
  | n + 1, s =>
    match s.dispatch.queue, s.dispatch.engine, s.link.state with
    | e :: _, .idle, .up =>
      if isQueued (s.page e.page).state then
        let w := s.enterWaiting e
        match w.verdict e.page with
        | .fails c sl k => State.advanceUpTo n (w.failPage e (evaluationFailure c sl k))
        | .waits => w
        | .passes => w.enterSending e
      else s
    | _, _, _ => s

/-- The head of the queue advances if it may (R135); each page of the queue is taken at most once. -/
def State.advance (s : State) : State := State.advanceUpTo s.dispatch.queue.length s

/-- A failure of a page's dispatch, and the advance of the next head (R146). -/
def State.fail (s : State) (e : Queued) (f : Failing) : State := (s.failPage e f).advance

/-- The WAITING head page is evaluated (R138, R139). Nothing happens when no page is WAITING at the head. -/
def State.evaluate (s : State) : State :=
  match s.waitingHead with
  | some e =>
    match s.verdict e.page with
    | .fails c n k => s.fail e (evaluationFailure c n k)
    | .waits => s
    | .passes => s.enterSending e
  | none => s

/-- An event of story `k` is handed to the dispatch engine when the story is closing and the head page is WAITING
(R29, R31, R58, R90, R91, R139). -/
def State.handEvent (s : State) (k : StoryId) : State := if (s.story k).closing then s.evaluate else s

/-- The dispatch completes, and the next head advances (R145). -/
def State.complete (s : State) (e : Queued) : State := (s.completePage e).advance

/-- The frame of a send is done, by ACK or WAIT, and the engine forms and hands over the next one, or completes the
dispatch after PAGE-END (R142, R144). -/
def State.nextFrame (s : State) : State :=
  match s.dispatch.queue, s.dispatch.engine with
  | e :: _, .sending x =>
    match x.stage with
    | .pageBegin => s.handSlot e.page x x.slot
    | .slot => s.pumpText x
    | .text => s.pumpText x
    | .slotEnd =>
      match s.nextSlot e.page x.slot with
      | some n => s.handSlot e.page x n
      | none => (s.setSend { x with stage := .pageEnd }).handOver (.pageEnd e.page x.b x.a)
    | .pageEnd => s.complete e
  | _, _ => s

/-- The send of the head page fails with a cause that names no slot (R144, R146). -/
def State.failSend (s : State) (c : Cause) : State :=
  match s.dispatch.queue, s.dispatch.engine with
  | e :: _, .sending _ => s.fail e { cause := c, named := none, station := none }
  | _, _ => s

/-- The ABORT ends: the engine enters IDLE and the head of the queue advances if it may (R147). -/
def State.abortEnd (s : State) : State :=
  match s.dispatch.engine with
  | .aborting => (s.setDispatchEngine .idle).advance
  | _ => s

/-- The WAITING head page returns to QUEUED (R141). -/
def State.returnToQueued (s : State) : State :=
  match s.waitingHead with
  | some e =>
    (((s.setPageState e.page (.queued (restingOf (s.page e.page).state))).markClosing e.page false).setHoldTimer
      none).setDispatchEngine .idle
  | none => s

/-- The loss of the link is handed to the dispatch engine (R158). -/
def State.linkLost (s : State) : State :=
  match s.dispatch.engine with
  | .sending _ => s.failSend .link
  | .waiting => s.returnToQueued
  | .aborting => s.abortEnd
  | .idle => s

/-- The slot the hold-wait timer's expiry names: with HELD the lowest-numbered slot whose story is held, and with
TIMEOUT the lowest-numbered whose story is STALE or MEASURING (R140). -/
def State.expiryFailure (s : State) (p : PageId) : Failing :=
  match (occupied (s.page p)).find? fun e => (s.story e.2.story).holder.isSome with
  | some (n, sl) => { cause := .held, named := some (n, sl.story), station := none }
  | none =>
    { cause := .timeout, station := none
      named := ((occupied (s.page p)).find? fun e =>
        (s.story e.2.story).depth.status == .stale || (s.story e.2.story).depth.status == .measuring).map
          fun e => (e.1, e.2.story) }

/-- Expiry of the hold-wait timer (R140). Nothing happens while the timer is stopped. -/
def State.holdWaitExpiry (s : State) : State :=
  match s.dispatch.holdWaitTimer, s.waitingHead with
  | some _, some e => s.fail e (s.expiryFailure e.page)
  | _, _ => s

/-- The story and measure of the slot in progress (R68, R143). -/
def State.sendSlot (s : State) (p : PageId) (x : SendState) : Option (Slot × Nat) :=
  (s.slotOf p x.slot).map fun sl => (sl, slotMeasure (s.page p) sl * finePerPoint)

/-- A block of text read for a send arrives, or memory reports a data fault on it (R143; assumption 18). Nothing happens when no
send is reading: the data or fault is disregarded. -/
def State.sendTextRead (s : State) (fault : Bool) : State :=
  match s.dispatch.queue, s.dispatch.engine with
  | e :: _, .sending x =>
    if x.reader.finished then s
    else
      match s.sendSlot e.page x with
      | some (sl, m) =>
        if fault then s.fail e { cause := .fault, named := some (x.slot, sl.story), station := none }
        else
          let x1 := { x with
            reader := readSendBlock m s.font sl.allowance x.reader (s.textBlock sl.story x.reader.block) }
          if x.stage = .text ∧ s.link.outstanding = none then s.pumpText x1 else s.setSend x1
      | none => s
  | _, _ => s

/-! ## Commands (R133, R134) -/

/-- The entry of a page in the dispatch queue, if it is there. -/
def State.queueEntry (s : State) (p : PageId) : Option Queued := s.dispatch.queue.find? fun e => e.page == p

/-- CANCEL of a page, by a station (R134): a page in the queue fails with CANCELLED. -/
def State.cancelPage (s : State) (p : PageId) (st : Station) : State :=
  match s.queueEntry p with
  | some e => s.fail e { cause := .cancelled, named := none, station := some st }
  | none => s

/-- A page joins the tail of the dispatch queue with the current edition as its stamp, and advances if it may (R133). -/
def State.queuePage (s : State) (p : PageId) (r : Resting) : State :=
  let t := s.setPageState p (.queued r)
  let u : State :=
    { t with dispatch := { t.dispatch with
        queue := t.dispatch.queue ++ [{ page := p, stamp := t.pages.edition }] } }
  u.advance

end Sys2Proof.Machine
end

