-- ==== Sys2Proof/Machine/LinkEvents.lean ====
section
/-! DEFINITION. The events of the typesetter link (chapter 9): the present input, training, replies, WAIT and READY,
the timers, the transmitter and the receiver. -/

namespace Sys2Proof.Machine

/-! ## Entering DOWN and TRAINING (R154 to R156) -/

/-- The link enters DOWN: the transmitter sends nothing more, and the receiver abandons a partial frame (R154, R155). -/
def enterDown (l : Link) : Link :=
  { l with state := .down, trainingTimer := none, transmitter := [], receiver := .hunting, gapTimer := none }

/-- The part's ABILITY is handed to the transmitter and the training timer starts (R156). -/
def announce (l : Link) : Link := { transmit l .ability with trainingTimer := some trainingPeriod }

/-- The link enters TRAINING (R156). -/
def enterTraining (l : Link) : Link := announce { l with state := .training }

/-! ## Leaving UP (R158) -/

/-- The link's own part of leaving UP, for DOWN or TRAINING (R158, steps 1 to 4). -/
def leftUp (l : Link) (toTraining : Bool) : Link :=
  let l1 := clearWait (settle l)
  { (if toTraining then enterTraining l1 else enterDown l1) with lost := true }

/-- Details of LINK: 1 UP, 2 DOWN (section 11.4). -/
def linkDetail (isUp : Bool) : Byte := if isUp then 1 else 2

/-- LINK is raised to the system station (R163). -/
def State.raiseLink (s : State) (isUp : Bool) : State := s.raise .system (s.plainNotice .link (linkDetail isUp))

/-- The link leaves UP, and the loss is handed to the dispatch engine (R158). -/
def State.leaveUp (s : State) (toTraining : Bool) : State :=
  ((s.setLink (leftUp s.link toTraining)).raiseLink false).linkLost

/-! ## The present input (R155) -/

/-- The typesetter-present input goes high (R155). -/
def State.presentHigh (s : State) : State :=
  let l := { s.link with present := true }
  match s.link.state with
  | .down => s.setLink (enterTraining l)
  | _ => s.setLink l

/-- The typesetter-present input goes low (R155). -/
def State.presentLow (s : State) : State :=
  let t := s.setLink { s.link with present := false }
  match s.link.state with
  | .down => t
  | .training => t.setLink (enterDown t.link)
  | .up => t.leaveUp false

/-- Expiry of the training timer while the link is TRAINING (R156). Nothing happens while the timer is stopped. -/
def State.trainingExpiry (s : State) : State :=
  match s.link.state, s.link.trainingTimer with
  | .training, some _ => s.setLink (announce s.link)
  | _, _ => s

/-! ## ABILITY from the typesetter (R156, R157) -/

/-- The ability record and the agreed text length (R156, steps 1 and 2). -/
def recordAbility (l : Link) (mask largest : Byte) : Link :=
  let recorded := clamp 16 240 largest.toNat
  { l with mask := mask, largest := recorded, agreed := min largestText recorded }

/-- A valid ABILITY taken while TRAINING brings the link UP (R156). -/
def State.trained (s : State) (mask largest : Byte) : State :=
  ((s.setLink { recordAbility s.link mask largest with trainingTimer := none, state := .up }).raiseLink true).advance

/-- A valid ABILITY taken while UP is a retraining (R157). -/
def State.retrained (s : State) (mask largest : Byte) : State :=
  let t := s.setLink (transmit (clearWait (recordAbility s.link mask largest)) .ability)
  match t.dispatch.engine with
  | .sending _ => (t.setLink (settle t.link)).failSend .link
  | _ => t

/-- A valid ABILITY from the typesetter, by the link's state (R153, R156, R157). -/
def State.takeAbility (s : State) (mask largest : Byte) : State :=
  match s.link.state with
  | .down => s
  | .training => s.trained mask largest
  | .up => s.retrained mask largest

/-! ## Replies (R159 to R161) -/

/-- The most tries of a frame (R159). -/
def mostTries : Nat := 3

/-- The outstanding frame goes out again as a new try. A try of it still going out finishes, and no reply timer starts
for that one (R159; assumption 22). -/
def tryAgain (l : Link) (o : Outstanding) : Link :=
  transmit
    { l with
      outstanding := some { o with tries := o.tries + 1 }, replyTimer := none
      transmitter := l.transmitter.map orphan }
    (.attempt o.frame true)

/-- A failed try of the outstanding frame: it goes out again, or the tries are exhausted and the link leaves UP for
TRAINING (R159). -/
def State.failedTry (s : State) (o : Outstanding) : State :=
  if o.tries < mostTries then s.setLink (tryAgain s.link o) else s.leaveUp true

/-- The outstanding frame is done or ended (R159). -/
def State.settled (s : State) : State := s.setLink (settle s.link)

/-- A WAIT taken for the outstanding frame sets the WAIT hold and starts the WAIT timer (R160). -/
def State.waitSet (s : State) : State :=
  s.setLink { settle s.link with waitHold := true, waitTimer := some waitPeriod }

/-- The frame is done by ACK or WAIT: an ABORT ends, and a frame of the send lets the next go (R144, R147). -/
def State.frameDone (s : State) (f : Frame) : State := if isAbort f then s.abortEnd else s.nextFrame

/-- The frame is ended by NAK (PAGE) or NAK (REFUSED): an ABORT ends, and a send fails (R144, R147). -/
def State.frameEnded (s : State) (f : Frame) (c : Cause) : State := if isAbort f then s.abortEnd else s.failSend c

/-- The outstanding frame a reply counts against: none unless the link is UP and the frame has gone out (R156, R161). -/
def State.replyFrame (s : State) : Option Outstanding :=
  if s.link.state = .up ∧ s.link.waitHold = false then s.link.outstanding else none

/-- A valid ACK (R159); unsolicited ones are dropped (R161). -/
def State.takeAck (s : State) : State :=
  match s.replyFrame with
  | some o => s.settled.frameDone o.frame
  | none => s

/-- A valid WAIT (R159, R160); unsolicited ones are dropped (R161). -/
def State.takeWait (s : State) : State :=
  match s.replyFrame with
  | some o => s.waitSet.frameDone o.frame
  | none => s

/-- A valid NAK (R159); unsolicited ones are dropped (R161). -/
def State.takeNak (s : State) (r : NakReason) : State :=
  match s.replyFrame with
  | some o =>
    match r with
    | .frame => s.failedTry o
    | .page =>
      if isAbort o.frame || isPageEnd o.frame then s.settled.frameEnded o.frame .check else s.failedTry o
    | .refused => s.settled.frameEnded o.frame .typesetter
  | none => s

/-- A valid READY ends the WAIT hold, and a frame held goes out (R160); unsolicited ones are dropped (R161). -/
def State.takeReady (s : State) : State :=
  if s.link.state = .up ∧ s.link.waitHold = true then
    match s.link.outstanding with
    | some o => s.setLink (transmit (clearWait s.link) (.attempt o.frame true))
    | none => s.setLink (clearWait s.link)
  else s

/-- Expiry of the WAIT timer (R160): the hold ends, a frame held is discarded, and a send fails with STALLED. Nothing
happens while the timer is stopped. -/
def State.waitExpiry (s : State) : State :=
  match s.link.waitTimer with
  | some _ => (s.setLink (settle (clearWait s.link))).failSend .stalled
  | none => s

/-- Expiry of the reply timer is a failed try (R159). Nothing happens while the timer is stopped. -/
def State.replyExpiry (s : State) : State :=
  match s.link.replyTimer, s.link.outstanding with
  | some _, some o => s.failedTry o
  | _, _ => s

/-! ## The transmitter (R151) -/

/-- The last check byte of a try goes out, and the reply timer starts if its frame is still outstanding (R151, R159; assumption 15).
Nothing happens unless a try is going out. -/
def State.tryEnd (s : State) : State :=
  match s.link.transmitter with
  | .attempt _ current :: rest =>
    s.setLink { s.link with
      transmitter := rest
      replyTimer := if current then some replyPeriod else s.link.replyTimer }
  | _ => s

/-- The last byte of the part's ABILITY goes out, and the frame behind it starts (R151). Nothing happens unless the
ABILITY is going out. -/
def State.abilityEnd (s : State) : State :=
  match s.link.transmitter with
  | .ability :: rest => s.setLink { s.link with transmitter := rest }
  | _ => s

/-! ## The receiver (R153) -/

/-- A valid frame from the typesetter (R153). -/
inductive Incoming where
  | ability (mask largest : Byte)
  | ack
  | nak (reason : NakReason)
  | wait
  | ready
  deriving DecidableEq, Repr

/-- The valid frame a kind and a payload make, if they make one (R153). -/
def incomingOf (kind : Byte) (payload : List Byte) : Option Incoming :=
  match kind.toNat, payload with
  | 0x61, [m, l] => some (.ability m l)
  | 0x62, [] => some .ack
  | 0x63, [r] =>
    match r.toNat with
    | 1 => some (.nak .frame)
    | 2 => some (.nak .page)
    | 3 => some (.nak .refused)
    | _ => none
  | 0x64, [] => some .wait
  | 0x65, [] => some .ready
  | _, _ => none

/-- The valid frame gathered bytes make, if they make one: kind, length, payload and a check that matches (R153). -/
def validFrame : List Byte → Option Incoming
  | kind :: len :: rest =>
    let payload := rest.take len.toNat
    if rest.drop len.toNat = checkOf (kind :: len :: payload) then incomingOf kind payload else none
  | _ => none

/-- Whether gathered bytes are a complete frame: kind, length, payload and two check bytes (R153). -/
def frameComplete : List Byte → Bool
  | _ :: len :: rest => decide (len.toNat + 2 ≤ rest.length)
  | _ => false

/-- The largest length byte the receiver accepts (R153). -/
def largestLength : Nat := 240

/-- Whether gathered bytes end with a length byte above 240 (R153). -/
def badLength : List Byte → Bool
  | [_, len] => decide (largestLength < len.toNat)
  | _ => false

/-- The receiver returns to hunting, and the gap timer is stopped (R153). -/
def hunt (l : Link) : Link := { l with receiver := .hunting, gapTimer := none }

/-- A valid frame is taken by the rules for its kind and the link's state (R153). -/
def State.takeIncoming (s : State) : Incoming → State
  | .ability m l => s.takeAbility m l
  | .ack => s.takeAck
  | .nak r => s.takeNak r
  | .wait => s.takeWait
  | .ready => s.takeReady

/-- A whole valid frame arrives, its last check byte with this command: the receiver hunts, and the frame is taken.
While the link is DOWN the receiver discards every byte (R153; assumption 17). -/
def State.frameArrives (s : State) (f : Incoming) : State :=
  match s.link.state with
  | .down => s
  | _ => (s.setLink (hunt s.link)).takeIncoming f

/-- A byte within a frame (R153). -/
def State.byteWithin (s : State) (bytes : List Byte) : State :=
  if badLength bytes then s.setLink (hunt s.link)
  else if frameComplete bytes then
    match validFrame bytes with
    | some f => (s.setLink (hunt s.link)).takeIncoming f
    | none => s.setLink (hunt s.link)
  else s.setLink { s.link with receiver := .within bytes, gapTimer := some gapPeriod }

/-- A byte arrives at the receiver (R153). -/
def State.byteArrives (s : State) (b : Byte) : State :=
  match s.link.state, s.link.receiver with
  | .down, _ => s
  | _, .hunting =>
    if b = 0xA5#8 then s.setLink { s.link with receiver := .within [], gapTimer := some gapPeriod } else s
  | _, .within bytes => s.byteWithin (bytes ++ [b])

/-- A gap of more than 20 ms abandons a partial frame (R153). Nothing happens while the gap timer is stopped. -/
def State.gapExpiry (s : State) : State :=
  match s.link.gapTimer with
  | some _ => s.setLink (hunt s.link)
  | none => s

/-! ## The rows -/

/-- TYPESETTER_PRESENT_HIGH (R155). -/
def execTypesetterPresentHigh (s : State) : Host.Outcome State Fault Refusal := .next s.presentHigh

/-- TYPESETTER_PRESENT_LOW (R155). -/
def execTypesetterPresentLow (s : State) : Host.Outcome State Fault Refusal := .next s.presentLow

/-- TRAINING_TIMER_EXPIRY (R156). -/
def execTrainingTimerExpiry (s : State) : Host.Outcome State Fault Refusal := .next s.trainingExpiry

/-- TYPESETTER_ABILITY (R156, R157). -/
def execTypesetterAbility (mask largest : Byte) (s : State) : Host.Outcome State Fault Refusal :=
  .next (s.frameArrives (.ability mask largest))

/-- ACK (R159). -/
def execAck (s : State) : Host.Outcome State Fault Refusal := .next (s.frameArrives .ack)

/-- NAK (R159). -/
def execNak (r : NakReason) (s : State) : Host.Outcome State Fault Refusal := .next (s.frameArrives (.nak r))

/-- WAIT (R160). -/
def execWait (s : State) : Host.Outcome State Fault Refusal := .next (s.frameArrives .wait)

/-- READY (R160). -/
def execReady (s : State) : Host.Outcome State Fault Refusal := .next (s.frameArrives .ready)

/-- WAIT_TIMER_EXPIRY (R160). -/
def execWaitTimerExpiry (s : State) : Host.Outcome State Fault Refusal := .next s.waitExpiry

/-- REPLY_TIMER_EXPIRY (R159). -/
def execReplyTimerExpiry (s : State) : Host.Outcome State Fault Refusal := .next s.replyExpiry

/-- TRY_END (R151). -/
def execTryEnd (s : State) : Host.Outcome State Fault Refusal := .next s.tryEnd

/-- PART_ABILITY_END (R151). -/
def execPartAbilityEnd (s : State) : Host.Outcome State Fault Refusal := .next s.abilityEnd

/-- RECEIVER_GAP_EXPIRY (R153). -/
def execReceiverGapExpiry (s : State) : Host.Outcome State Fault Refusal := .next s.gapExpiry

/-- INCOMING_BYTE (R153). -/
def execIncomingByte (b : Byte) (s : State) : Host.Outcome State Fault Refusal := .next (s.byteArrives b)

end Sys2Proof.Machine
end

