-- ==== Sys2Proof/Machine/Pass.lean ====
section
/-! DEFINITION. The end of a measure pass (R90, R91) and the events of the measure engine, one meaning for each. -/

namespace Sys2Proof.Machine

/-- The depth record takes the values of a completed pass (R90). -/
def State.postDepth (s : State) (k : StoryId) (r : Breaker) : State :=
  s.setStory k { s.story k with depth := postedDepth r (s.story k).depth.overset }

/-- The pass in flight reads its last block and completes (R90). Nothing happens when no pass is in flight. -/
def State.completePass (s : State) : State :=
  match s.measure.engine with
  | .measuring p =>
    (((s.postDepth p.story (s.finishPass p)).evaluateOverset p.story none).handEvent p.story).leaveMeasuring
  | _ => s

/-- Memory reports a data fault on a block of the pass in flight (R91). Nothing happens when no pass is in flight: a
fault on a read of an abandoned pass is disregarded (R92). -/
def State.faultPass (s : State) : State :=
  match s.measure.engine with
  | .measuring p =>
    let s1 := s.setStatus p.story .faulted
    let s2 := s1.raiseAll ((s1.toldOf p.story).map fun st =>
      { recipient := st, notice := s1.storyNotice .measureFault 0 p.story })
    (s2.handEvent p.story).leaveMeasuring
  | _ => s

/-- MEASURE_PASS_TAKEN (R88). -/
def execMeasurePassTaken (s : State) : Host.Outcome State Fault Refusal := .next s.takePass

/-- MEASURE_TEXT_READ (R89). -/
def execMeasureTextRead (s : State) : Host.Outcome State Fault Refusal := .next s.measureBlock

/-- MEASURE_PASS_COMPLETION (R90). -/
def execMeasurePassCompletion (s : State) : Host.Outcome State Fault Refusal := .next s.completePass

/-- MEASURE_FAULT (R91). -/
def execMeasureFault (s : State) : Host.Outcome State Fault Refusal := .next s.faultPass

/-- Expiry of the font-wait timer (R95). Nothing happens while the timer is stopped. -/
def State.fontWaitExpiry (s : State) : State :=
  match s.measure.fontWaitTimer with
  | some _ => s.endFontWait
  | none => s

/-- FONT_WAIT_EXPIRY (R95). -/
def execFontWaitExpiry (s : State) : Host.Outcome State Fault Refusal := .next s.fontWaitExpiry

/-- HOLD_WAIT_EXPIRY (R140). -/
def execHoldWaitExpiry (s : State) : Host.Outcome State Fault Refusal := .next s.holdWaitExpiry

/-- SEND_TEXT_READ (R143). -/
def execSendTextRead (fault : Bool) (s : State) : Host.Outcome State Fault Refusal := .next (s.sendTextRead fault)

/-- RING_WRITE_START (R109). -/
def execRingWriteStart (s : State) : Host.Outcome State Fault Refusal := .next s.ringWriteStart

/-- RING_WRITE_COMPLETE (R109). -/
def execRingWriteComplete (fault : Bool) (s : State) : Host.Outcome State Fault Refusal :=
  .next (s.ringWriteComplete fault)

/-- TIMEBASE_TICK (R106): the millisecond count wraps from 4,294,967,295 to 0. -/
def execTimebaseTick (s : State) : Host.Outcome State Fault Refusal := .next { s with timebase := s.timebase + 1 }

end Sys2Proof.Machine
end

