-- ==== Sys2Proof/Machine/Hold.lean ====
section
/-! DEFINITION. The guard (chapter 2): HOLD and STATE, write admission, viewers, and the meanings of claims,
releases, breaks and REOPEN. -/

namespace Sys2Proof.Machine

/-! ## The hold count (R23) -/

/-- A terminal's hold count is changed; the system station has none (R23). -/
def State.countHold (s : State) (st : Station) (f : Nat → Nat) : State :=
  match st with
  | .terminal t => s.setTerminal t { s.terminal t with holdCount := f (s.terminal t).holdCount }
  | .system => s

/-- A station becomes a story's holder (R23). -/
def State.gainHold (s : State) (k : StoryId) (st : Station) : State :=
  (s.setStory k { s.story k with holder := some st }).countHold st (· + 1)

/-- A story's hold ends (R23). -/
def State.loseHold (s : State) (k : StoryId) : State :=
  match (s.story k).holder with
  | some st => (s.setStory k { s.story k with holder := none }).countHold st (· - 1)
  | none => s

/-- The effects of a release (R29). -/
def State.releaseHold (s : State) (k : StoryId) : State := (s.loseHold k).handEvent k

/-- The stories a station holds, by increasing number (R33). -/
def State.heldBy (s : State) (st : Station) : List StoryId := s.storiesWhere fun v => v.holder == some st

/-- The greatest number of stories a terminal holds (R23). -/
def holdLimit : Nat := 16

/-- Whether a station is a terminal that holds 16 stories (R11, R24). -/
def State.atHoldLimit (s : State) : Station → Bool
  | .terminal t => decide (holdLimit ≤ (s.terminal t).holdCount)
  | .system => false

/-! ## Viewers (R99 to R103) -/

/-- A terminal is removed from a story's viewer list (R25, R103). -/
def State.dropViewer (s : State) (k : StoryId) (t : TerminalId) : State :=
  s.setStory k { s.story k with viewers := (s.story k).viewers.filter fun v => v.terminal != t }

/-- A station's entry, if it has one, is removed from a story's viewer list (R25). -/
def State.dropViewerOf (s : State) (k : StoryId) : Station → State
  | .terminal t => s.dropViewer k t
  | .system => s

/-- Places in a viewer list (R8). -/
def viewerPlaces : Nat := 4

/-- A view of a story by a terminal is registered (R100, R101). -/
def State.registerView (s : State) (k : StoryId) (t : TerminalId) : State :=
  let others := (s.story k).viewers.filter fun v => v.terminal != t
  let s1 := s.setStory k { s.story k with viewers := { terminal := t, stale := false } :: others.take (viewerPlaces - 1) }
  s1.raiseAll ((others.drop (viewerPlaces - 1)).map fun v =>
    { recipient := .terminal v.terminal
      notice := { s.storyNotice .viewDropped 1 k with cause := some (.terminal t) } })

/-- An admitted text write marks each VALID viewer STALE and tells it (R102). -/
def State.markViewers (s : State) (k : StoryId) (writer : Station) : State :=
  let valid := (s.story k).viewers.filter fun v => !v.stale
  let s1 := s.setStory k { s.story k with viewers := (s.story k).viewers.map fun v => { v with stale := true } }
  s1.raiseAll (valid.map fun v =>
    { recipient := .terminal v.terminal, notice := { s1.storyNotice .changed 0 k with cause := some writer } })

/-! ## Write admission (R35, R36) -/

/-- The admission test of a write to story text or a header plain word, in the order of R36. -/
def State.admission (s : State) (st : Station) (k : StoryId) : List (Bool × Reason) :=
  let v := s.story k
  [(!s.signedOn st, .notSignedOn),
   (v.phase == .unused, .badState),
   (v.phase == .frozen, .frozen),
   (v.closing, .closing),
   (isTerminal st && v.holder.isNone, .notHolder),
   (v.holder.isSome && v.holder != some st, .heldByOther)]

/-! ## Claim (R24, R25, R11) -/

/-- A claim of an UNUSED story creates it (R11). -/
def State.createByClaim (s : State) (st : Station) (k : StoryId) : State :=
  (((s.setStory k { unusedStory with phase := .live }).gainHold k st).queueStale k).done

/-- Whether a terminal lacks the watcher right of a story's basket (R24, R26, R52). -/
def State.lacksBasketRight (s : State) (st : Station) (k : StoryId) : Bool :=
  match st, (s.story k).basket with
  | .terminal t, some b => !(s.basket b).watchers.getLsbD t.val
  | _, _ => false

/-- The effects of a granted claim (R25). -/
def State.grantClaim (s : State) (st : Station) (k : StoryId) : State :=
  ((s.gainHold k st).dropViewerOf k st).done

/-- A claim of a LIVE or FROZEN story (R24). -/
def State.claimUsed (s : State) (st : Station) (k : StoryId) : State :=
  let v := s.story k
  testing st [(v.phase == .frozen, .frozen), (v.closing, .closing)] s <|
    if v.holder = some st then s.done
    else
      testing st
        [(v.holder.isSome, .heldByOther), (s.atHoldLimit st, .holdLimit), (s.lacksBasketRight st k, .noRight)] s
        (s.grantClaim st k)

/-- A claim, after the tests of R22 (R11, R24). -/
def State.claimRequest (s : State) (st : Station) (k : StoryId) : State :=
  if (s.story k).phase = .unused then testing st [(s.atHoldLimit st, .holdLimit)] s (s.createByClaim st k)
  else s.claimUsed st k

/-- A release, after the tests of R22 (R29). -/
def State.releaseRequest (s : State) (st : Station) (k : StoryId) : State :=
  if (s.story k).holder = some st then (s.releaseHold k).done else s.refuse st .notHolder

/-- The effects of a break (R31): the hold ends, the old holder receives HOLD-BROKEN, and the dispatch engine is told. -/
def State.breakTaken (s : State) (k : StoryId) (old : Station) : State :=
  (((s.loseHold k).raise old { s.storyNotice .holdBroken 0 k with cause := some .system }).handEvent k).done

/-- A break, after the tests of R22 (R31). -/
def State.breakRequest (s : State) (st : Station) (k : StoryId) : State :=
  testing st [(isTerminal st, .noRight)] s <|
    match (s.story k).holder with
    | none => s.done
    | some old => s.breakTaken k old

/-- A write to HOLD (R22): the tests every such write meets, and then those of its request. -/
def State.writeHold (s : State) (st : Station) (k : StoryId) (sz : Size) (v : Word) : State :=
  testing st [(badSize sz, .badSize), (!s.signedOn st, .notSignedOn)] s <|
    if v.toNat = stationCode st then s.claimRequest st k
    else if v = noneCode then s.releaseRequest st k
    else if v = breakCode then s.breakRequest st k
    else s.refuse st .badValue

/-! ## REOPEN (R18, R41, R42) -/

/-- The page of a reopened story: SENT becomes CHANGED with PAGE-CHANGED; a QUEUED page's resting state of SENT
becomes CHANGED (R42). -/
def State.reopenPage (s : State) (k : StoryId) : State :=
  match (s.story k).placement with
  | some (p, n) =>
    match (s.page p).state with
    | .resting .sent =>
      let t := s.setPageState p (.resting .changed)
      t.raise .system { t.storyNotice .pageChanged 0 k with page := some p, slot := some n, cause := some .system }
    | .queued .sent => s.setPageState p (.queued .changed)
    | _ => s
  | none => s

/-- A FROZEN story returns to LIVE, and its revision rises by one (R7, R41, R125). -/
def State.unfreeze (s : State) (k : StoryId) : State :=
  if (s.story k).phase = .frozen then
    s.setStory k { s.story k with phase := .live, revision := (s.story k).revision + 1 }
  else s

/-- The REOPEN code (section 11.2). -/
def reopenCode : Word := 1#32

/-- A write to STATE (R18, R41). -/
def State.writeState (s : State) (st : Station) (k : StoryId) (sz : Size) (v : Word) : State :=
  testing st
    [(badSize sz, .badSize), (isTerminal st, .noRight), (v != reopenCode, .badValue),
     ((s.story k).phase == .unused, .badState), ((s.story k).closing, .closing)] s <|
    if (s.story k).phase = .frozen then ((s.unfreeze k).reopenPage k).done else s.done

/-- The word a claim writes: the writer's own station code (R24). -/
def claimValue (st : Station) : Word := BitVec.ofNat 32 (stationCode st)

/-- CLAIM (R24). -/
def execClaim (code : StationCode) (k : StoryId) (sz : Size) (s : State) : Host.Outcome State Fault Refusal :=
  .next (asStation code s fun st => s.writeHold st k sz (claimValue st))

/-- RELEASE (R29). -/
def execRelease (code : StationCode) (k : StoryId) (sz : Size) (s : State) : Host.Outcome State Fault Refusal :=
  .next (asStation code s fun st => s.writeHold st k sz noneCode)

/-- BREAK (R31). -/
def execBreakHold (code : StationCode) (k : StoryId) (sz : Size) (s : State) : Host.Outcome State Fault Refusal :=
  .next (asStation code s fun st => s.writeHold st k sz breakCode)

/-- REOPEN (R41). -/
def execReopen (code : StationCode) (k : StoryId) (sz : Size) (s : State) : Host.Outcome State Fault Refusal :=
  .next (asStation code s fun st => s.writeState st k sz reopenCode)

end Sys2Proof.Machine
end

