-- ==== Sys2Proof/Machine/Station.lean ====
section
/-! DEFINITION. Station records (chapter 10): CONTROL, RIGHTS, NOTICE READ INDEX, and the desk system words of the
station unit, the page unit and the dispatch engine. -/

namespace Sys2Proof.Machine

/-- The SIGN-ON code (section 11.3). -/
def signOnCode : Word := 1#32

/-- The SIGN-OFF code (section 11.3). -/
def signOffCode : Word := 2#32

/-- Sign-on taken (R172, R113). -/
def State.signOnTaken (s : State) (t : TerminalId) : State :=
  (s.setTerminal t { s.terminal t with signedOn := true, ring := emptyRing }).refreshLines

/-- Every story a station holds is released, by increasing number, each with its evaluation (R33). -/
def State.releaseAll (s : State) (st : Station) : State := (s.heldBy st).foldl State.releaseHold s

/-- The stories whose viewer list names a terminal. -/
def State.viewedBy (s : State) (t : TerminalId) : List StoryId :=
  s.storiesWhere fun v => v.viewers.any fun x => x.terminal == t

/-- A terminal is removed from every viewer list without notice (R103). -/
def State.dropViews (s : State) (t : TerminalId) : State := (s.viewedBy t).foldl (fun u k => u.dropViewer k t) s

/-- Sign-off taken (R172): releases, viewer lists, notices and ring, sign state, in this order. -/
def State.signOffTaken (s : State) (t : TerminalId) : State :=
  let s1 := ((s.releaseAll (.terminal t)).dropViews t).discardNotices (.terminal t)
  (s1.setTerminal t { s1.terminal t with signedOn := false, ring := emptyRing }).refreshLines

/-- A sign-on or sign-off of a terminal that passes the tests of CONTROL (R172, orders 5 and 6). -/
def State.signTaken (s : State) (t : TerminalId) (isOn : Bool) : State :=
  if (s.terminal t).signedOn = isOn then s.done
  else if isOn then (s.signOnTaken t).done
  else (s.signOffTaken t).done

/-- A write to the CONTROL word of a station's record (R172). -/
def State.writeControl (s : State) (st owner : Station) (sz : Size) (v : Word) : State :=
  testing st [(badSize sz, .badSize), (isTerminal st && st != owner, .noRight)] s <|
    match owner with
    | .system => s.refuse st .badState
    | .terminal t =>
      if v = signOnCode then s.signTaken t true
      else if v = signOffCode then s.signTaken t false
      else s.refuse st .badValue

/-- SIGN_ON (R172). -/
def execSignOn (code : StationCode) (owner : Station) (sz : Size) (s : State) : Host.Outcome State Fault Refusal :=
  .next (asStation code s fun st => s.writeControl st owner sz signOnCode)

/-- SIGN_OFF (R172). -/
def execSignOff (code : StationCode) (owner : Station) (sz : Size) (s : State) : Host.Outcome State Fault Refusal :=
  .next (asStation code s fun st => s.writeControl st owner sz signOffCode)

/-- A write to the RIGHTS word of a station's record (R173): group in byte 0, makeup right in bit 8. -/
def State.writeRights (s : State) (st owner : Station) (sz : Size) (v : Word) : State :=
  testing st [(badSize sz, .badSize), (isTerminal st, .noRight)] s <|
    match owner with
    | .system => s.refuse st .badState
    | .terminal t =>
      match groupOf v with
      | none => s.refuse st .badValue
      | some g => (s.setTerminal t { s.terminal t with group := g, makeup := v.getLsbD 8 }).refreshLines.done

/-- RIGHTS_WRITE (R173). -/
def execRightsWrite (code : StationCode) (owner : Station) (sz : Size) (v : Word) (s : State) :
    Host.Outcome State Fault Refusal :=
  .next (asStation code s fun st => s.writeRights st owner sz v)

/-- A write to the NOTICE READ INDEX of a station's record (R111). -/
def State.writeReadIndex (s : State) (st owner : Station) (sz : Size) (v : Word) : State :=
  testing st
    [(badSize sz, .badSize), (!s.signedOn st, .notSignedOn), (isTerminal st && st != owner, .noRight)] s
    (s.setReadIndex owner v).done

/-- NOTICE_READ_INDEX_WRITE (R111). -/
def execNoticeReadIndexWrite (code : StationCode) (owner : Station) (sz : Size) (v : Word) (s : State) :
    Host.Outcome State Fault Refusal :=
  .next (asStation code s fun st => s.writeReadIndex st owner sz v)

/-- A write to ATTENTION ENABLE (R116). -/
def State.writeEnables (s : State) (st : Station) (sz : Size) (v : Word) : State :=
  let t : State := { s with stations := { s.stations with enables := v.setWidth 8 } }
  testing st [(badSize sz, .badSize), (isTerminal st, .noRight)] s t.refreshLines.done

/-- ATTENTION_ENABLE_WRITE (R116). -/
def execAttentionEnableWrite (code : StationCode) (sz : Size) (v : Word) (s : State) :
    Host.Outcome State Fault Refusal :=
  .next (asStation code s fun st => s.writeEnables st sz v)

/-- A write to EDITION (R129). -/
def State.writeEdition (s : State) (st : Station) (sz : Size) (v : Word) : State :=
  let t : State := { s with pages := { s.pages with edition := clamp 1 15 v.toNat } }
  testing st [(badSize sz, .badSize), (isTerminal st, .noRight)] s t.done

/-- EDITION_WRITE (R129). -/
def execEditionWrite (code : StationCode) (sz : Size) (v : Word) (s : State) : Host.Outcome State Fault Refusal :=
  .next (asStation code s fun st => s.writeEdition st sz v)

/-- A write to HOLD WAIT (R149). -/
def State.writeHoldWait (s : State) (st : Station) (sz : Size) (v : Word) : State :=
  let t : State := { s with dispatch := { s.dispatch with holdWait := clamp 1 600 v.toNat } }
  testing st [(badSize sz, .badSize), (isTerminal st, .noRight)] s t.done

/-- HOLD_WAIT_WRITE (R149). -/
def execHoldWaitWrite (code : StationCode) (sz : Size) (v : Word) (s : State) : Host.Outcome State Fault Refusal :=
  .next (asStation code s fun st => s.writeHoldWait st sz v)

end Sys2Proof.Machine
end

