-- ==== Sys2Proof/Machine/Resets.lean ====
section
/-! DEFINITION. Bus reset and power-on (R176, R177). -/

namespace Sys2Proof.Machine

/-- A terminal's record after a bus reset: OFF, indices 0, overrun clear, hold count 0
(R171, R176). -/
def State.resetTerminal (s : State) (t : TerminalId) : State :=
  s.setTerminal t { s.terminal t with signedOn := false, ring := emptyRing, holdCount := 0 }

/-- The station unit's part of a bus reset (R107, R113). A ring write in flight finishes in memory only. -/
def State.resetStations (s : State) : State :=
  let t := (allTerminals.foldl State.resetTerminal s).setRing .system emptyRing
  { t with
    stations := { t.stations with
      outgoing := []
      ringWrite := t.stations.ringWrite.map fun w => { w with voided := true } } }

/-- A story's viewer list is emptied (R21). -/
def State.emptyViewers (s : State) (k : StoryId) : State := s.setStory k { s.story k with viewers := [] }

/-- Every viewer list is emptied without notice (R21, R99). -/
def State.emptyAllViewers (s : State) : State :=
  (s.storiesWhere fun v => v.viewers != []).foldl State.emptyViewers s

/-- The measure unit's part of a bus reset: the font-wait mark is cleared, the timer stopped and a HELD engine
released (R95). -/
def State.resetFontWait (s : State) : State :=
  { s with measure := { s.measure with
      engine := if s.measure.engine = .held then .idle else s.measure.engine
      fontWait := false, fontWaitTimer := none } }

/-- Every hold is released, by increasing story number, each with its evaluation (R34). -/
def State.releaseEvery (s : State) : State :=
  (s.storiesWhere fun v => v.holder.isSome).foldl State.releaseHold s

/-- A bus reset (R176): the station unit's part comes before the story table's releases (R107). -/
def State.busReset (s : State) : State :=
  (s.resetStations.emptyAllViewers.resetFontWait.releaseEvery).refreshLines

/-- Power-on (R177): every record takes its power-on value, the strap is read, and the link enters TRAINING at once if
the present input is high. Memory is neither read nor changed (assumption 24). -/
def State.powerOn (s : State) (strap : BitVec 7) (present : Bool) : State :=
  let l := { powerOnLink with present := present }
  { State.reset with
    strap := strap
    mem := s.mem
    link := if present then enterTraining l else l
    free := s.free
    pending := s.pending }

/-- BUS_RESET (R176). -/
def execBusReset (s : State) : Host.Outcome State Fault Refusal := .next s.busReset

/-- POWER_ON (R177). -/
def execPowerOn (strap : BitVec 7) (present : Bool) (s : State) : Host.Outcome State Fault Refusal :=
  .next (s.powerOn strap present)

end Sys2Proof.Machine
end

