-- ==== Sys2Proof/Machine/Basket.lean ====
section
/-! DEFINITION. The basket unit (chapter 3): the list, LIMIT and WATCHERS, ROUTE with its four kinds, creation by
route, ARRIVAL, and purge. -/

namespace Sys2Proof.Machine

/-! ## The list (R45) -/

/-- A story joins the tail of its class (R45): before the first story of a later class. -/
def joinClass (e : Filed) : List Filed → List Filed
  | [] => [e]
  | x :: xs => if prioLe x.prio e.prio then x :: joinClass e xs else e :: x :: xs

/-- A story leaves a list from wherever it stands (R45). -/
def leaveList (k : StoryId) (l : List Filed) : List Filed := l.filter fun e => e.story != k

/-- A story joins basket `b`'s list at a priority, and its entry says so (R10, R56). -/
def State.file (s : State) (k : StoryId) (b : BasketId) (p : Priority) : State :=
  let s1 := s.setBasket b { s.basket b with list := joinClass { story := k, prio := p } (s.basket b).list }
  s1.setStory k { s1.story k with basket := some b, prio := p }

/-- A story leaves the list of the basket it is in, if any, and its basket field becomes absent (R57). -/
def State.unfile (s : State) (k : StoryId) : State :=
  match (s.story k).basket with
  | some b =>
    (s.setBasket b { s.basket b with list := leaveList k (s.basket b).list }).setStory k
      { s.story k with basket := none }
  | none => s

/-- Whether a basket is full (R52). -/
def State.basketFull (s : State) (b : BasketId) : Bool := decide ((s.basket b).limit ≤ basketCount (s.basket b))

/-! ## ARRIVAL (R59) -/

/-- The watchers of a basket other than the writer, by increasing station code (R59). -/
def State.arrivals (s : State) (b : BasketId) (writer : Station) : List TerminalId :=
  allTerminals.filter fun t => (s.basket b).watchers.getLsbD t.val && Station.terminal t != writer

/-- ARRIVAL to every watcher of basket `b` but the writer, with the basket the story came from (R59). -/
def State.raiseArrivals (s : State) (k : StoryId) (b : BasketId) (source : Option BasketId) (writer : Station) : State :=
  s.raiseAll ((s.arrivals b writer).map fun t =>
    { recipient := .terminal t
      notice :=
        { s.storyNotice .arrival (BitVec.ofNat 8 (byteField (source.map Fin.val))) k with
          cause := some writer, urgent := (s.story k).prio == .flash } })

/-! ## Routes (R50 to R58) -/

/-- The creation of a story by a route write (R10). -/
def State.createByRoute (s : State) (st : Station) (k : StoryId) (b : BasketId) (p : Priority) : State :=
  ((((s.setStory k { unusedStory with phase := .live }).file k b p).queueStale k).raiseArrivals k b none st).done

/-- A route taken by the story's holder ends the hold with the effects of a release (R58). -/
def State.endHoldByRoute (s : State) (st : Station) (k : StoryId) : State :=
  if (s.story k).holder = some st then s.releaseHold k else s

/-- The writer's right to route a LIVE or FROZEN story (R52, orders 1 and 2). -/
def State.routeRight (s : State) (st : Station) (k : StoryId) : List (Bool × Reason) :=
  let v := s.story k
  [(isTerminal st && v.holder.isSome && v.holder != some st, .heldByOther),
   (v.holder.isNone && s.lacksBasketRight st k, .noRight)]

/-- What a route to a basket does: in place (R54), reclass (R55) or move (R56). -/
def State.routeIn (s : State) (st : Station) (k : StoryId) (b : BasketId) (p : Priority) : State :=
  if (s.story k).basket = some b then
    if (s.story k).prio = p then s else (s.unfile k).file k b p
  else ((s.unfile k).file k b p).raiseArrivals k b (s.story k).basket st

/-- A route of a LIVE or FROZEN story to a basket (R52). -/
def State.routeTo (s : State) (st : Station) (k : StoryId) (b : BasketId) (p : Priority) : State :=
  testing st
    (s.routeRight st k ++ [(decide ((s.story k).basket ≠ some b) && s.basketFull b, .basketFull)]) s
    ((s.routeIn st k b p).endHoldByRoute st k).done

/-- A route of a LIVE or FROZEN story to NONE (R52, R57). -/
def State.routeOut (s : State) (st : Station) (k : StoryId) : State :=
  testing st (s.routeRight st k) s ((s.unfile k).endHoldByRoute st k).done

/-! ## Purge (R12, R13) -/

/-- The story leaves the measure queue, or its pass is abandoned (R13, step 1). -/
def State.forgetMeasure (s : State) (k : StoryId) : State :=
  let t := s.abandonPass k
  t.setQueue (t.measure.queue.filter fun j => j != k)

/-- VIEW-DROPPED (GONE) to each viewer in list order (R13 step 4, R103). -/
def State.raiseGone (s : State) (k : StoryId) (writer : Station) : State :=
  s.raiseAll ((s.story k).viewers.map fun v =>
    { recipient := .terminal v.terminal
      notice := { s.plainNotice .viewDropped 2 with
        story := some k, cause := some writer, depth := (s.story k).depth.depth } })

/-- The effects of a purge (R13). -/
def State.purgeTaken (s : State) (k : StoryId) (writer : Station) : State :=
  ((((((s.forgetMeasure k).unfile k).loseHold k).raiseGone k writer)).setStory k unusedStory).done

/-- A purge, after the tests of R51 (R12). -/
def State.purgeRequest (s : State) (st : Station) (k : StoryId) : State :=
  let v := s.story k
  testing st
    [(v.phase == .unused, .badState), (v.phase == .frozen, .frozen), (v.closing, .closing),
     (isTerminal st && v.holder.isSome && v.holder != some st, .heldByOther),
     (isTerminal st && v.holder.isNone, .notHolder), (v.placement.isSome, .badState)] s
    (s.purgeTaken k st)

/-! ## ROUTE (R51) -/

/-- The request of a ROUTE write that has passed the first tests of R51. -/
def State.routeRequest (s : State) (st : Station) (k : StoryId) (q : RouteRequest) : State :=
  match q with
  | .bad => s.refuse st .badValue
  | .purge => s.purgeRequest st k
  | .out => if (s.story k).phase = .unused then s.refuse st .badState else s.routeOut st k
  | .basket b p =>
    if (s.story k).phase = .unused then testing st [(s.basketFull b, .basketFull)] s (s.createByRoute st k b p)
    else s.routeTo st k b p

/-- A write to ROUTE (R10, R51). -/
def State.writeRoute (s : State) (st : Station) (k : StoryId) (sz : Size) (q : RouteRequest) : State :=
  testing st [(badSize sz, .badSize), (!s.signedOn st, .notSignedOn)] s (s.routeRequest st k q)

/-- ROUTE_TO_BASKET (R52). -/
def execRouteToBasket (code : StationCode) (k : StoryId) (sz : Size) (b : BasketId) (p : Priority) (s : State) :
    Host.Outcome State Fault Refusal :=
  .next (asStation code s fun st => s.writeRoute st k sz (.basket b p))

/-- ROUTE_TO_NONE (R57). -/
def execRouteToNone (code : StationCode) (k : StoryId) (sz : Size) (s : State) : Host.Outcome State Fault Refusal :=
  .next (asStation code s fun st => s.writeRoute st k sz .out)

/-- PURGE (R13). -/
def execPurge (code : StationCode) (k : StoryId) (sz : Size) (s : State) : Host.Outcome State Fault Refusal :=
  .next (asStation code s fun st => s.writeRoute st k sz .purge)

/-! ## LIMIT and WATCHERS (R47, R49) -/

/-- A write to LIMIT (R47). -/
def State.writeLimit (s : State) (st : Station) (b : BasketId) (sz : Size) (v : Word) : State :=
  testing st [(badSize sz, .badSize), (isTerminal st, .noRight)] s
    (s.setBasket b { s.basket b with limit := clamp (max 1 (basketCount (s.basket b))) 2048 v.toNat }).done

/-- A watcher set with the part of WATCHERS `k` replaced; flags for stations 120 to 127 are ignored (R49). -/
def setWatchers (w : BitVec 120) (k : Fin 4) (v : Word) : BitVec 120 :=
  let field : BitVec 128 := (BitVec.setWidth 128 (BitVec.allOnes 32)) <<< (32 * k.val)
  ((w.setWidth 128 &&& ~~~ field) ||| (v.setWidth 128 <<< (32 * k.val))).setWidth 120

/-- A write to WATCHERS `k` (R49). -/
def State.writeWatchers (s : State) (st : Station) (b : BasketId) (k : Fin 4) (sz : Size) (v : Word) : State :=
  testing st [(badSize sz, .badSize), (isTerminal st, .noRight)] s
    (s.setBasket b { s.basket b with watchers := setWatchers (s.basket b).watchers k v }).done

/-- LIMIT_WRITE (R47). -/
def execLimitWrite (code : StationCode) (b : BasketId) (sz : Size) (v : Word) (s : State) :
    Host.Outcome State Fault Refusal :=
  .next (asStation code s fun st => s.writeLimit st b sz v)

/-- WATCHERS_WRITE (R49). -/
def execWatchersWrite (code : StationCode) (b : BasketId) (k : Fin 4) (sz : Size) (v : Word) (s : State) :
    Host.Outcome State Fault Refusal :=
  .next (asStation code s fun st => s.writeWatchers st b k sz v)

end Sys2Proof.Machine
end

