-- ==== Sys2Proof/Machine/Font.lean ====
section
/-! DEFINITION. Font writes (R62 to R67, R94, R95) and STANDARD MEASURE (R96). -/

namespace Sys2Proof.Machine

/-- What a font write asks for (R64 to R66): a point size, a leading, or the widths from one character code on. -/
inductive FontWrite where
  | size (v : Word)
  | leading (v : Word)
  | widths (c : Fin 256) (v : Word)
  deriving DecidableEq, Repr

/-- The size test of a font write (R67, order 1): SIZE and LEADING take single 4-byte writes, the width table single
writes of 1, 2 or 4 bytes. -/
def fontBadSize (sz : Size) : FontWrite → Bool
  | .size _ => badSize sz
  | .leading _ => badSize sz
  | .widths _ _ => sz == .burst

/-- Entries of the width table take the bytes written, modulo 64, one after another (R66). -/
def setWidths (f : Font) (c : Nat) : List Byte → Font
  | [] => f
  | b :: bs => setWidths (setFontWidth f c (b.setWidth 6)) (c + 1) bs

/-- The bytes a single write of a size up to 4 carries. -/
def valueBytes (sz : Size) (v : Word) : List Byte := (List.range (min 4 (sizeBytes sz))).map fun i => wordByte v i

/-- A font record after a font write (R64, R65, R66). -/
def fontAfter (f : Font) (sz : Size) : FontWrite → Font
  | .size v =>
    let p := clamp 16 288 v.toNat
    { f with size := p, leading := max f.leading p }
  | .leading v => { f with leading := clamp f.size 576 v.toNat }
  | .widths c v => setWidths f c.val (valueBytes sz v)

/-- A font write that passes the size and right tests ends the hold of a HELD engine (R95). -/
def State.releaseHeld (s : State) : State := if s.measure.engine = .held then s.endFontWait else s

/-- Whether a pass is in flight (R67, order 4). -/
def State.measuring (s : State) : Bool :=
  match s.measure.engine with
  | .measuring _ => true
  | _ => false

/-- A font write answered RETRY sets the font-wait mark (R94, R95). -/
def State.retryFont (s : State) : State := { s with measure := { s.measure with fontWait := true } }.retry

/-- A font write taken: the record is set and the stories that use the font are staled (R67). -/
def State.fontTaken (s : State) (f : FontId) (sz : Size) (w : FontWrite) : State :=
  ((s.setFont f (fontAfter (s.font f) sz w)).staleFont f).done

/-- A font write (R67; assumption 25). -/
def State.writeFont (s : State) (st : Station) (f : FontId) (sz : Size) (w : FontWrite) : State :=
  testing st [(fontBadSize sz w, .badSize), (isTerminal st, .noRight)] s <|
    if s.sendingHead.isSome then s.releaseHeld.refuse st .fontsPinned
    else if s.measuring then s.retryFont
    else s.releaseHeld.fontTaken f sz w

/-- SIZE_WRITE (R64). -/
def execSizeWrite (code : StationCode) (f : FontId) (sz : Size) (v : Word) (s : State) :
    Host.Outcome State Fault Refusal :=
  .next (asStation code s fun st => s.writeFont st f sz (.size v))

/-- LEADING_WRITE (R65). -/
def execLeadingWrite (code : StationCode) (f : FontId) (sz : Size) (v : Word) (s : State) :
    Host.Outcome State Fault Refusal :=
  .next (asStation code s fun st => s.writeFont st f sz (.leading v))

/-- WIDTH_TABLE_WRITE (R66). An entry not aligned to the write's size is no access of the copy bus (R166). -/
def execWidthTableWrite (code : StationCode) (f : FontId) (c : Fin 256) (sz : Size) (v : Word) (s : State) :
    Host.Outcome State Fault Refusal :=
  if aligned c.val sz then .next (asStation code s fun st => s.writeFont st f sz (.widths c v)) else .refused .misaligned

/-- A write to STANDARD MEASURE (R96): every LIVE story that is unplaced is staled when S changes. -/
def State.writeStandard (s : State) (st : Station) (sz : Size) (v : Word) : State :=
  testing st [(badSize sz, .badSize), (isTerminal st, .noRight)] s <|
    let m := clamp 60 4092 v.toNat
    if m = s.measure.standard then s.done
    else
      let s1 : State := { s with measure := { s.measure with standard := m } }
      (s1.staleAll (s1.storiesWhere fun x => x.phase == .live && x.placement.isNone)).done

/-- STANDARD_MEASURE_WRITE (R96). -/
def execStandardMeasureWrite (code : StationCode) (sz : Size) (v : Word) (s : State) :
    Host.Outcome State Fault Refusal :=
  .next (asStation code s fun st => s.writeStandard st sz v)

end Sys2Proof.Machine
end

