-- ==== Sys2Proof/Machine/Plan.lean ====
section
/-! DEFINITION. Page plans (chapter 7): geometry and slot writes, what an edit does to the page, and PAGE COMMAND
(R132 to R134). -/

namespace Sys2Proof.Machine

/-- Whether a page has an occupied slot. -/
def anyOccupied (p : Page) : Bool := !(occupied p).isEmpty

/-- Whether a station is a terminal without the makeup right (R122). -/
def State.lacksMakeup (s : State) : Station → Bool
  | .terminal t => !(s.terminal t).makeup
  | .system => false

/-- The tests of every geometry and slot write (R122). -/
def State.planTests (s : State) (st : Station) (p : PageId) (sz : Size) : List (Bool × Reason) :=
  [(badSize sz, .badSize), (!s.signedOn st, .notSignedOn), (s.lacksMakeup st, .noRight),
   (isWaiting (s.page p).state || isSending (s.page p).state, .closing)]

/-! ## What an edit does to the page (R127, R128) -/

/-- The resting state an edit leaves, by whether a slot is still occupied (R127). -/
def editResting (r : Resting) (occ : Bool) : Resting :=
  if occ then
    match r with
    | .empty => .made
    | .made => .made
    | .sent => .changed
    | .changed => .changed
  else .empty

/-- An edit has been taken on page `p`: of slot `n`, which held story `before`, or of the geometry (R127, R128;
assumption 20). -/
def State.edited (s : State) (p : PageId) (n : Option SlotId) (before : Option StoryId) (writer : Station) : State :=
  let occ := anyOccupied (s.page p)
  match (s.page p).state with
  | .resting r =>
    let t := s.setPageState p (.resting (editResting r occ))
    if r = .sent then
      t.raise .system { t.maybeStoryNotice .pageChanged 0 before with page := some p, slot := n, cause := some writer }
    else t
  | .queued r =>
    let t := s.setPageState p (.queued (editResting r occ))
    if occ then t else t.cancelPage p writer
  | _ => s

/-! ## Geometry (R123) -/

/-- The stories on page `p` whose slot measure differs between the plan `old` and the plan as it stands, by
increasing number (R85, R87). -/
def State.remeasured (s : State) (p : PageId) (old : Page) : List StoryId :=
  s.storiesWhere fun v =>
    match v.placement with
    | some (q, n) =>
      q == p &&
        decide ((old.slots[n.val]).map (slotMeasure old) ≠ ((s.page p).slots[n.val]).map (slotMeasure (s.page p)))
    | none => false

/-- A page plan with new geometry: the stories whose slot measure changes are staled (R123, R85). -/
def State.regeometry (s : State) (st : Station) (p : PageId) (new : Page) : State :=
  if new = s.page p then s.done
  else
    let t := s.setPage p new
    ((t.staleAll (t.remeasured p (s.page p))).edited p none none st).done

/-- A write to COLUMN WIDTH (R123). -/
def State.writeWidth (s : State) (st : Station) (p : PageId) (sz : Size) (v : Word) : State :=
  testing st (s.planTests st p sz) s
    (s.regeometry st p { s.page p with width := clamp 60 480 v.toNat })

/-- A write to GUTTER (R123). -/
def State.writeGutter (s : State) (st : Station) (p : PageId) (sz : Size) (v : Word) : State :=
  testing st (s.planTests st p sz) s
    (s.regeometry st p { s.page p with gutter := clamp 0 36 v.toNat })

/-- A slot whose allowance is lowered to a column depth (R123). -/
def lowerSlot (d : Nat) (sl : Slot) : Slot := { sl with allowance := min sl.allowance d }

/-- A page with a new column depth, its allowances lowered to it where they are greater (R123). -/
def lowerPage (p : Page) (d : Nat) : Page := { p with depth := d, slots := p.slots.map fun x => x.map (lowerSlot d) }

/-- The stories of slots whose allowance is above a column depth, in increasing slot order (R123). -/
def loweredStories (p : Page) (d : Nat) : List StoryId :=
  ((occupied p).filter fun e => decide (d < e.2.allowance)).map fun e => e.2.story

/-- A write to COLUMN DEPTH (R123): allowances above the new depth become it, and their stories are evaluated. -/
def State.writeColumnDepth (s : State) (st : Station) (p : PageId) (sz : Size) (v : Word) : State :=
  testing st (s.planTests st p sz) s <|
    let d := clamp 400 8000 v.toNat
    if d = (s.page p).depth then s.done
    else
      let t := (loweredStories (s.page p) d).foldl (fun u k => u.allowanceChanged k st)
        (s.setPage p (lowerPage (s.page p) d))
      (t.edited p none none st).done

/-! ## Slots (R124 to R126) -/

/-- Story `k` loses its placement, and is unfrozen if FROZEN (R124, R125). -/
def State.unplace (s : State) (k : StoryId) : State :=
  let t := s.unfreeze k
  t.setStory k { t.story k with placement := none }

/-- Story `k` gains a placement (R124). -/
def State.placeIn (s : State) (k : StoryId) (p : PageId) (n : SlotId) : State :=
  s.setStory k { s.story k with placement := some (p, n) }

/-- A slot of page `p` is set (R119). -/
def State.putSlot (s : State) (p : PageId) (n : SlotId) (v : Option Slot) : State := s.setPage p (setSlot (s.page p) n v)

/-- The two stories of a replace, by increasing number (R87). -/
def inOrder (a b : StoryId) : List StoryId := if a ≤ b then [a, b] else [b, a]

/-- A story placed in an empty slot: span 1, allowance D, policy HOLD (R119, R124). -/
def State.placeTaken (s : State) (st : Station) (p : PageId) (n : SlotId) (k : StoryId) : State :=
  let t := (s.placeIn k p n).putSlot p n
    (some { story := k, span := 1, allowance := (s.page p).depth, policy := .hold })
  ((t.stale k).edited p (some n) none st).done

/-- A story replaced in its slot, which keeps its terms for the new one (R124). -/
def State.replaceTaken (s : State) (st : Station) (p : PageId) (n : SlotId) (sl : Slot) (k : StoryId) : State :=
  let t := ((s.unplace sl.story).placeIn k p n).putSlot p n (some { sl with story := k })
  ((t.staleAll (inOrder sl.story k)).edited p (some n) (some sl.story) st).done

/-- A story removed from its slot (R124). -/
def State.removeTaken (s : State) (st : Station) (p : PageId) (n : SlotId) (sl : Slot) : State :=
  let t := (s.unplace sl.story).putSlot p n none
  ((t.stale sl.story).edited p (some n) (some sl.story) st).done

/-- A STORY write of the EMPTY code, after the tests of R122 (R124). -/
def State.removeRequest (s : State) (st : Station) (p : PageId) (n : SlotId) : State :=
  match s.slotOf p n with
  | none => s.done
  | some sl => s.removeTaken st p n sl

/-- A STORY write naming a story, after the tests of R122 (R124). -/
def State.placeRequest (s : State) (st : Station) (p : PageId) (n : SlotId) (k : StoryId) : State :=
  if (s.slotOf p n).map Slot.story = some k then s.done
  else
    testing st
      [((s.story k).phase == .unused, .badState), ((s.story k).placement.isSome, .badState)] s <|
      match s.slotOf p n with
      | none => s.placeTaken st p n k
      | some sl => s.replaceTaken st p n sl k

/-- A write to STORY (R124). -/
def State.writeStory (s : State) (st : Station) (p : PageId) (n : SlotId) (sz : Size) (v : Word) : State :=
  testing st (s.planTests st p sz) s <|
    if v = emptyCode then s.removeRequest st p n
    else
      match storyOf v with
      | some k => s.placeRequest st p n k
      | none => s.refuse st .badValue

/-- A write to SPAN (R126): a change stales the slot's story. -/
def State.writeSpan (s : State) (st : Station) (p : PageId) (n : SlotId) (sz : Size) (v : Word) : State :=
  testing st (s.planTests st p sz) s <|
    match s.slotOf p n with
    | none => s.refuse st .badState
    | some sl =>
      let w := clamp 1 8 v.toNat
      if w = sl.span then s.done
      else
        (((s.putSlot p n (some { sl with span := w })).stale sl.story).edited p (some n) (some sl.story) st).done

/-- A write to ALLOWANCE (R126): a change is handed to the measure unit. -/
def State.writeAllowance (s : State) (st : Station) (p : PageId) (n : SlotId) (sz : Size) (v : Word) : State :=
  testing st (s.planTests st p sz) s <|
    match s.slotOf p n with
    | none => s.refuse st .badState
    | some sl =>
      let a := clamp 1 (s.page p).depth v.toNat
      if a = sl.allowance then s.done
      else
        (((s.putSlot p n (some { sl with allowance := a })).allowanceChanged sl.story st).edited p (some n)
          (some sl.story) st).done

/-- The policy a value written to POLICY names: 0 HOLD, 1 TRIM (section 11.6). -/
def policyOf (v : Word) : Option Policy := if v = 0#32 then some .hold else if v = 1#32 then some .trim else none

/-- A write to POLICY (R126). -/
def State.writePolicy (s : State) (st : Station) (p : PageId) (n : SlotId) (sz : Size) (v : Word) : State :=
  testing st (s.planTests st p sz) s <|
    match policyOf v with
    | none => s.refuse st .badValue
    | some pol =>
      match s.slotOf p n with
      | none => s.refuse st .badState
      | some sl =>
        if pol = sl.policy then s.done
        else ((s.putSlot p n (some { sl with policy := pol })).edited p (some n) (some sl.story) st).done

/-- COLUMN_WIDTH_WRITE (R123). -/
def execColumnWidthWrite (code : StationCode) (p : PageId) (sz : Size) (v : Word) (s : State) :
    Host.Outcome State Fault Refusal :=
  .next (asStation code s fun st => s.writeWidth st p sz v)

/-- GUTTER_WRITE (R123). -/
def execGutterWrite (code : StationCode) (p : PageId) (sz : Size) (v : Word) (s : State) :
    Host.Outcome State Fault Refusal :=
  .next (asStation code s fun st => s.writeGutter st p sz v)

/-- COLUMN_DEPTH_WRITE (R123). -/
def execColumnDepthWrite (code : StationCode) (p : PageId) (sz : Size) (v : Word) (s : State) :
    Host.Outcome State Fault Refusal :=
  .next (asStation code s fun st => s.writeColumnDepth st p sz v)

/-- PLACE (R124). -/
def execPlace (code : StationCode) (p : PageId) (n : SlotId) (sz : Size) (k : StoryId) (s : State) :
    Host.Outcome State Fault Refusal :=
  .next (asStation code s fun st => s.writeStory st p n sz (BitVec.ofNat 32 k.val))

/-- REMOVE (R124). -/
def execRemove (code : StationCode) (p : PageId) (n : SlotId) (sz : Size) (s : State) :
    Host.Outcome State Fault Refusal :=
  .next (asStation code s fun st => s.writeStory st p n sz emptyCode)

/-- SPAN_WRITE (R126). -/
def execSpanWrite (code : StationCode) (p : PageId) (n : SlotId) (sz : Size) (v : Word) (s : State) :
    Host.Outcome State Fault Refusal :=
  .next (asStation code s fun st => s.writeSpan st p n sz v)

/-- ALLOWANCE_WRITE (R126). -/
def execAllowanceWrite (code : StationCode) (p : PageId) (n : SlotId) (sz : Size) (v : Word) (s : State) :
    Host.Outcome State Fault Refusal :=
  .next (asStation code s fun st => s.writeAllowance st p n sz v)

/-- POLICY_WRITE (R126). -/
def execPolicyWrite (code : StationCode) (p : PageId) (n : SlotId) (sz : Size) (v : Word) (s : State) :
    Host.Outcome State Fault Refusal :=
  .next (asStation code s fun st => s.writePolicy st p n sz v)

/-! ## PAGE COMMAND (R132 to R134) -/

/-- The DISPATCH code (section 11.6). -/
def dispatchWord : Word := 1#32

/-- The CANCEL code (section 11.6). -/
def cancelWord : Word := 2#32

/-- DISPATCH of a page (R133). -/
def State.dispatchRequest (s : State) (st : Station) (p : PageId) : State :=
  match (s.page p).state with
  | .resting .empty => s.refuse st .badState
  | .resting r => (s.queuePage p r).done
  | _ => s.done

/-- CANCEL of a page (R134). -/
def State.cancelRequest (s : State) (st : Station) (p : PageId) : State :=
  match (s.page p).state with
  | .resting _ => s.done
  | _ => (s.cancelPage p st).done

/-- A write to PAGE COMMAND (R132). -/
def State.writeCommand (s : State) (st : Station) (p : PageId) (sz : Size) (v : Word) : State :=
  testing st [(badSize sz, .badSize), (isTerminal st, .noRight)] s <|
    if v = dispatchWord then s.dispatchRequest st p
    else if v = cancelWord then s.cancelRequest st p
    else s.refuse st .badValue

/-- DISPATCH (R133). -/
def execDispatch (code : StationCode) (p : PageId) (sz : Size) (s : State) : Host.Outcome State Fault Refusal :=
  .next (asStation code s fun st => s.writeCommand st p sz dispatchWord)

/-- CANCEL (R134). -/
def execCancel (code : StationCode) (p : PageId) (sz : Size) (s : State) : Host.Outcome State Fault Refusal :=
  .next (asStation code s fun st => s.writeCommand st p sz cancelWord)

end Sys2Proof.Machine
end

