-- ==== Sys2Proof/Machine/Text.lean ====
section
/-! DEFINITION. Accesses to plain words that carry a test or an effect: story text (R16, R37), header plain words
(R17) and ring slots (R112); and accesses outside the window (R165). -/

namespace Sys2Proof.Machine

/-- A view is registered by a text read answered DONE when the story is LIVE or FROZEN and the reader is a signed-on
terminal that is not the holder (R100). -/
def State.viewBy (s : State) (st : Station) (k : StoryId) : State :=
  match st with
  | .terminal t =>
    if (s.story k).phase ≠ .unused ∧ (s.terminal t).signedOn = true ∧ (s.story k).holder ≠ some st then
      s.registerView k t
    else s
  | .system => s

/-- A read of story text (R16). -/
def State.readText (s : State) (st : Station) (k : StoryId) (pos : Nat) (sz : Size) (fault : Bool) : State :=
  if fault then s.refuse st .memoryFault
  else (s.viewBy st k).doneRead (packBytes (s.load (s.textAddr k pos) (sizeBytes sz)))

/-- The effects of an admitted write to story text (R37). -/
def State.textAdmitted (s : State) (st : Station) (k : StoryId) (pos : Nat) (sz : Size) (data : Data) (fault : Bool) :
    State :=
  (((s.plainStore (s.textAddr k pos) (sizeBytes sz) data fault).stale k).markViewers k st).plainAnswer st fault

/-- A write to story text (R16, R36, R37). -/
def State.writeText (s : State) (st : Station) (k : StoryId) (pos : Nat) (sz : Size) (data : Data) (fault : Bool) :
    State :=
  testing st (s.admission st k) s (s.textAdmitted st k pos sz data fault)

/-- A write to the plain part of a story header (R17, R36, R37). -/
def State.writeHeaderPlain (s : State) (st : Station) (k : StoryId) (off : Nat) (sz : Size) (data : Data)
    (fault : Bool) : State :=
  testing st (s.admission st k) s
    ((s.plainStore (s.headerAddr k off) (sizeBytes sz) data fault).plainAnswer st fault)

/-- A write to a ring slot (R112). -/
def State.writeRing (s : State) (st owner : Station) (off : Nat) (sz : Size) (data : Data) (fault : Bool) : State :=
  testing st [(!s.signedOn st, .notSignedOn), (isTerminal st && st != owner, .noRight)] s
    (((s.plainStore (s.ringAddr owner off) (sizeBytes sz) data fault).noteContested owner off (sizeBytes sz)).plainAnswer
      st fault)

/-- A write to a plain word with no test (R168). -/
def State.writePlain (s : State) (st : Station) (a : Nat) (sz : Size) (data : Data) (fault : Bool) : State :=
  (s.plainStore a (sizeBytes sz) data fault).plainAnswer st fault

/-- An access outside the window (R165): memory's own outcome, recorded nowhere. -/
def State.outside (s : State) (write : Bool) (a : Nat) (sz : Size) (data : Data) (fault : Bool) : State :=
  if write then
    if fault then (s.plainStore a (sizeBytes sz) data fault).refuseUnknown
    else (s.plainStore a (sizeBytes sz) data fault).done
  else if fault then s.refuseUnknown
  else s.doneRead (packBytes (s.load a (sizeBytes sz)))

/-- TEXT_READ (R16). -/
def execTextRead (code : StationCode) (k : StoryId) (pos : Fin 8192) (sz : Size) (fault : Bool) (s : State) :
    Host.Outcome State Fault Refusal :=
  if aligned pos.val sz then .next (asStation code s fun st => s.readText st k pos.val sz fault)
  else .refused .misaligned

/-- TEXT_WRITE (R37). -/
def execTextWrite (code : StationCode) (k : StoryId) (pos : Fin 8192) (sz : Size) (data : Data) (fault : Bool)
    (s : State) : Host.Outcome State Fault Refusal :=
  if aligned pos.val sz then .next (asStation code s fun st => s.writeText st k pos.val sz data fault)
  else .refused .misaligned

/-- RING_SLOT_WRITE (R112). -/
def execRingSlotWrite (code : StationCode) (owner : Station) (off : Fin 512) (sz : Size) (data : Data) (fault : Bool)
    (s : State) : Host.Outcome State Fault Refusal :=
  if aligned off.val sz then .next (asStation code s fun st => s.writeRing st owner off.val sz data fault)
  else .refused .misaligned

end Sys2Proof.Machine
end

