-- ==== Sys2Proof/Machine/Window.lean ====
section
/-! DEFINITION. The window decoder (chapter 10): what each offset of the window names (R1, R44, R62, R118, R165,
R171, R174, chapter 11), what each live word shows, and accesses by bus address. -/

namespace Sys2Proof.Machine

/-- The live words of the window (chapter 11). -/
inductive LiveWord where
  | hold (k : StoryId)
  | route (k : StoryId)
  | state (k : StoryId)
  | placement (k : StoryId)
  | depthLow (k : StoryId)
  | depthHigh (k : StoryId)
  | viewers (k : StoryId)
  | control (st : Station)
  | rights (st : Station)
  | stationStatus (st : Station)
  | lastRefusal (st : Station)
  | writeIndex (st : Station)
  | readIndex (st : Station)
  | limit (b : BasketId)
  | count (b : BasketId)
  | watchers (b : BasketId) (k : Fin 4)
  | listEntry (b : BasketId) (i : Nat)
  | columnWidth (p : PageId)
  | gutter (p : PageId)
  | columnDepth (p : PageId)
  | pageState (p : PageId)
  | pageCommand (p : PageId)
  | slotStory (p : PageId) (n : SlotId)
  | span (p : PageId) (n : SlotId)
  | allowance (p : PageId) (n : SlotId)
  | policy (p : PageId) (n : SlotId)
  | fontSize (f : FontId)
  | fontLeading (f : FontId)
  | widths (f : FontId) (c : Fin 256)
  | edition
  | standardMeasure
  | holdWait
  | attentionEnable
  | linkStatus
  | measureStatus
  | dispatchStatus
  | pending (k : Fin 4)
  deriving DecidableEq, Repr

/-- What a byte of the window belongs to (R165, R168). -/
inductive Place where
  | text (k : StoryId) (pos : Nat)
  | headerPlain (k : StoryId) (off : Nat)
  | ring (st : Station) (off : Nat)
  | plain
  | live (w : LiveWord)
  deriving DecidableEq, Repr

/-- The place of byte `h` of a story header (section 11.2). -/
def headerPlace (k : StoryId) (h : Nat) : Place :=
  match h / 4 with
  | 0 => .live (.hold k)
  | 1 => .live (.route k)
  | 2 => .live (.state k)
  | 3 => .live (.placement k)
  | 4 => .live (.depthLow k)
  | 5 => .live (.depthHigh k)
  | 6 => .live (.viewers k)
  | _ => .headerPlain k h

/-- The place of byte `h` of a station's block (section 11.3). -/
def stationPlace (st : Station) (h : Nat) : Place :=
  if h < 0x200 then .ring st h
  else
    match (h - 0x200) / 4 with
    | 0 => .live (.control st)
    | 1 => .live (.rights st)
    | 2 => .live (.stationStatus st)
    | 3 => .live (.lastRefusal st)
    | 4 => .live (.writeIndex st)
    | 5 => .live (.readIndex st)
    | _ => .plain

/-- The place of byte `h` of a basket's block (R44, section 11.5). -/
def basketPlace (b : BasketId) (h : Nat) : Place :=
  if h < 0x18 then
    match h / 4 with
    | 0 => .live (.limit b)
    | 1 => .live (.count b)
    | i => .live (.watchers b (Fin.ofNat 4 (i - 2)))
  else if h < 0x2000 then .plain
  else .live (.listEntry b ((h - 0x2000) / 4))

/-- The place of byte `h` of a page's block (R118, section 11.6). -/
def pagePlace (p : PageId) (h : Nat) : Place :=
  if h < 0x40 then
    match h / 4 with
    | 0 => .live (.columnWidth p)
    | 1 => .live (.gutter p)
    | 2 => .live (.columnDepth p)
    | 3 => .live (.pageState p)
    | 4 => .live (.pageCommand p)
    | _ => .plain
  else
    let n : SlotId := Fin.ofNat 12 ((h - 0x40) / 16)
    match (h - 0x40) / 4 % 4 with
    | 0 => .live (.slotStory p n)
    | 1 => .live (.span p n)
    | 2 => .live (.allowance p n)
    | _ => .live (.policy p n)

/-- The place of byte `h` of a font's block (R62, section 11.7). -/
def fontPlace (f : FontId) (h : Nat) : Place :=
  if h < 0x100 then
    match h / 4 with
    | 0 => .live (.fontSize f)
    | 1 => .live (.fontLeading f)
    | _ => .plain
  else .live (.widths f (Fin.ofNat 256 (h - 0x100)))

/-- The place of byte `h` of the desk system words (section 11.8). -/
def deskPlace (h : Nat) : Place :=
  match h / 4 with
  | 0 => .live .edition
  | 1 => .live .standardMeasure
  | 2 => .live .holdWait
  | 3 => .live .attentionEnable
  | 4 => .live .linkStatus
  | 5 => .live .measureStatus
  | 6 => .live .dispatchStatus
  | 8 => .live (.pending 0)
  | 9 => .live (.pending 1)
  | 10 => .live (.pending 2)
  | 11 => .live (.pending 3)
  | _ => .plain

/-- The place of an offset of the window (R165). -/
def placeOf (off : Nat) : Place :=
  if off < 0x1000000 then .text (Fin.ofNat 2048 (off / 8192)) (off % 8192)
  else if off < 0x1020000 then headerPlace (Fin.ofNat 2048 ((off - 0x1000000) / 64)) ((off - 0x1000000) % 64)
  else if off < 0x1040000 then
    match stationOf (BitVec.ofNat 7 ((off - 0x1020000) / 1024)) with
    | some st => stationPlace st ((off - 0x1020000) % 1024)
    | none => .plain
  else if off < 0x10C0000 then basketPlace (Fin.ofNat 32 ((off - 0x1040000) / 16384)) ((off - 0x1040000) % 16384)
  else if off < 0x10C6000 then pagePlace (Fin.ofNat 96 ((off - 0x10C0000) / 256)) ((off - 0x10C0000) % 256)
  else if off < 0x10D0000 then .plain
  else if off < 0x10D1000 then fontPlace (Fin.ofNat 8 ((off - 0x10D0000) / 512)) ((off - 0x10D0000) % 512)
  else if off < 0x10E0000 then .plain
  else if off < 0x10E0040 then deskPlace (off - 0x10E0000)
  else .plain

/-- Whether a place is live (R168). -/
def isLive : Place → Bool
  | .live _ => true
  | _ => false

/-! ## What live words show (chapter 11) -/

/-- A word from its number. -/
def wordOf (n : Nat) : Word := BitVec.ofNat 32 n

/-- "None" in a whole word (chapter 11). -/
def noneWord : Word := 0xFFFFFFFF#32

/-- A byte field naming a station (section 11.2). -/
def holderByte (h : Option Station) : Nat := byteField (h.map stationCode)

/-- STATE (section 11.2, R18). -/
def stateWord (v : Story) : Word :=
  wordOf (phaseCode v.phase + 16 * prioCode v.prio + 128 * flag v.closing + 0x100 * holderByte v.holder
    + 0x10000 * byteField (v.basket.map Fin.val) + 0x1000000 * v.revision.toNat)

/-- VIEWERS (section 11.2, R20): byte `i` is position `i`. -/
def viewersWord (v : Story) : Word :=
  (List.range 4).foldl (fun w i => w ||| (wordOf (byteField ((v.viewers[i]?).map fun x =>
    x.terminal.val + 128 * flag x.stale)) <<< (8 * i))) 0

/-- STATION STATUS (section 11.3, R171). -/
def State.stationStatusWord (s : State) : Station → Word
  | .terminal t =>
    let v := s.terminal t
    wordOf (flag v.signedOn + 2 * v.group.val + 16 * flag v.makeup + 32 * flag v.ring.overrun + 256 * unread v.ring)
  | .system => wordOf (1 + 32 * flag s.stations.system.ring.overrun + 256 * unread s.stations.system.ring)

/-- RIGHTS (section 11.3, R173). -/
def State.rightsWord (s : State) : Station → Word
  | .terminal t => wordOf ((s.terminal t).group.val + 256 * flag (s.terminal t).makeup)
  | .system => 0

/-- Entry `i` of the list window (section 11.5, R60). -/
def State.listWord (s : State) (b : BasketId) (i : Nat) : Word :=
  match (s.basket b).list[i]? with
  | some e =>
    let h := (s.story e.story).holder
    wordOf (e.story.val + 0x10000 * prioCode e.prio + 0x800000 * flag h.isSome + 0x1000000 * holderByte h)
  | none => noneWord

/-- PAGE STATE (section 11.6, R121). -/
def pageStateWord (p : Page) : Word :=
  wordOf (pageStateCode p.state + 0x100 * byteField ((restingField p.state).map restingCode)
    + 0x10000 * lastResultCode p.lastResult + 0x1000000 * (p.editionSent + 16 * (occupied p).length))

/-- A page's position in the dispatch queue, 0 for the head, or 0xFF (R132, section 11.6). -/
def State.commandWord (s : State) (p : PageId) : Word :=
  wordOf (byteField (s.dispatch.queue.findIdx? fun e => e.page == p))

/-- A term of a slot, or none when it is empty (R126, section 11.6). -/
def State.slotWord (s : State) (p : PageId) (n : SlotId) (f : Slot → Nat) : Word :=
  match s.slotOf p n with
  | some sl => wordOf (f sl)
  | none => noneWord

/-- Four widths from the aligned entry on (section 11.7, R66). -/
def State.widthsWord (s : State) (f : FontId) (c : Nat) : Word :=
  (List.range 4).foldl (fun w i => w ||| (wordOf (fontWidth (s.font f) (c / 4 * 4 + i)).toNat <<< (8 * i))) 0

/-- LINK STATUS (section 11.8, R162). -/
def linkWord (l : Link) : Word :=
  wordOf (linkStateCode l.state + 256 * flag l.lost + 512 * flag l.waitHold + 0x10000 * l.agreed
    + 0x1000000 * l.mask.toNat)

/-- The story in flight (R97). -/
def storyInFlight : Engine → Option StoryId
  | .measuring p => some p.story
  | _ => none

/-- MEASURE STATUS (section 11.8, R97). -/
def measureWord (m : MeasureUnit) : Word :=
  wordOf (m.queue.length + 0x1000 * engineCode m.engine + 0x8000 * flag m.fontWait
    + 0x10000 * ((storyInFlight m.engine).map Fin.val).getD 0xFFFF)

/-- The slot in progress while SENDING (R150; assumption 19). -/
def slotInProgress : DispatchEngine → Option SlotId
  | .sending x => some x.slot
  | _ => none

/-- DISPATCH STATUS (section 11.8, R150). -/
def dispatchStatusWord (d : DispatchUnit) : Word :=
  wordOf (d.queue.length + 0x100 * byteField (d.queue.head?.map fun e => e.page.val)
    + 0x10000 * dispatchCode d.engine + 0x1000000 * byteField ((slotInProgress d.engine).map Fin.val))

/-- The value a live word shows (chapter 11). -/
def State.liveWord (s : State) : LiveWord → Word
  | .hold k => wordOf (holderByte (s.story k).holder)
  | .route k => wordOf (byteField ((s.story k).basket.map Fin.val) + 256 * prioCode (s.story k).prio)
  | .state k => stateWord (s.story k)
  | .placement k =>
    wordOf (byteField ((s.story k).placement.map fun pn => pn.1.val)
      + 256 * byteField ((s.story k).placement.map fun pn => pn.2.val))
  | .depthLow k =>
    wordOf ((s.story k).depth.depth + 0x10000 * (s.story k).depth.lines
      + 0x10000000 * statusCode (s.story k).depth.status)
  | .depthHigh k =>
    wordOf ((s.story k).depth.fonts.toNat + 256 * flag (s.story k).depth.overflow
      + 512 * flag (s.story k).depth.overset)
  | .viewers k => viewersWord (s.story k)
  | .control st => wordOf (flag (s.signedOn st))
  | .rights st => s.rightsWord st
  | .stationStatus st => s.stationStatusWord st
  | .lastRefusal st => wordOf (reasonCode (s.lastRefusal st))
  | .writeIndex st => wordOf (s.ring st).write.toNat
  | .readIndex st => wordOf (s.ring st).read.toNat
  | .limit b => wordOf (s.basket b).limit
  | .count b => wordOf (basketCount (s.basket b))
  | .watchers b k => (((s.basket b).watchers.setWidth 128) >>> (32 * k.val)).setWidth 32
  | .listEntry b i => s.listWord b i
  | .columnWidth p => wordOf (s.page p).width
  | .gutter p => wordOf (s.page p).gutter
  | .columnDepth p => wordOf (s.page p).depth
  | .pageState p => pageStateWord (s.page p)
  | .pageCommand p => s.commandWord p
  | .slotStory p n => s.slotWord p n fun sl => sl.story.val
  | .span p n => s.slotWord p n Slot.span
  | .allowance p n => s.slotWord p n Slot.allowance
  | .policy p n => s.slotWord p n fun sl => policyCode sl.policy
  | .fontSize f => wordOf (s.font f).size
  | .fontLeading f => wordOf (s.font f).leading
  | .widths f c => s.widthsWord f c.val
  | .edition => wordOf s.pages.edition
  | .standardMeasure => wordOf s.measure.standard
  | .holdWait => wordOf s.dispatch.holdWait
  | .attentionEnable => s.stations.enables.setWidth 32
  | .linkStatus => linkWord s.link
  | .measureStatus => measureWord s.measure
  | .dispatchStatus => dispatchStatusWord s.dispatch
  | .pending k => s.pendingWord k.val

/-! ## Reads -/

/-- Whether byte `off` of the window lies in the slot of the ring write in flight (R109). -/
def State.beingWritten (s : State) (off : Nat) : Option Byte :=
  match s.stations.ringWrite, placeOf off with
  | some w, .ring st h =>
    if w.recipient = st ∧ 16 * w.slot ≤ h then (noticeBytes w.notice)[h - 16 * w.slot]? else none
  | _, _ => none

/-- Byte `i` of a read from offset `off` on: of the live value, or from memory (R168). A byte of a ring slot that the
part is writing may be read old or new (assumption 5). -/
def State.readByteAt (s : State) (off i : Nat) : Byte :=
  match placeOf (off + i) with
  | .live w => wordByte (s.liveWord w) ((off + i) % 4)
  | _ =>
    match s.beingWritten (off + i) with
    | some b => if Config.ringWriteSeen (s.free + i) then b else s.memByte (s.base + (off + i))
    | none => s.memByte (s.base + (off + i))

/-- The offsets of an access's bytes. -/
def accessOffsets (off : Nat) (sz : Size) : List Nat := (List.range (sizeBytes sz)).map (off + ·)

/-- Whether an access touches a live byte (R168). -/
def touchesLive (off : Nat) (sz : Size) : Bool := (accessOffsets off sz).any fun a => isLive (placeOf a)

/-- Whether an access touches a plain byte, and so reaches memory (R168). -/
def touchesPlain (off : Nat) (sz : Size) : Bool := (accessOffsets off sz).any fun a => !isLive (placeOf a)

/-- Whether a read takes in a byte of LINK STATUS (R162). -/
def touchesLinkStatus (off : Nat) (sz : Size) : Bool :=
  (accessOffsets off sz).any fun a => placeOf a == .live .linkStatus

/-- A read by the system station clears the link-lost latch when it takes in LINK STATUS (R162). -/
def State.clearLatch (s : State) (st : Station) (off : Nat) (sz : Size) : State :=
  if touchesLinkStatus off sz && !isTerminal st then s.setLink { s.link with lost := false } else s

/-- The free values a read has used. -/
def State.readFree (s : State) (off : Nat) (sz : Size) : State :=
  if (accessOffsets off sz).any fun a => (s.beingWritten a).isSome then { s with free := s.free + sizeBytes sz } else s

/-- A read inside the window other than of story text (R168, R169). A burst that memory faults has taken LINK STATUS all the
same (assumption 13). -/
def State.readWords (s : State) (st : Station) (off : Nat) (sz : Size) (fault : Bool) : State :=
  let t := s.clearLatch st off sz
  if fault && touchesPlain off sz then t.refuse st .memoryFault
  else
    (t.readFree off sz).doneRead (packBytes ((List.range (sizeBytes sz)).map (s.readByteAt off)))

/-- A read inside the window (R16, R168). -/
def State.readWindow (s : State) (st : Station) (off : Nat) (sz : Size) (fault : Bool) : State :=
  match placeOf off with
  | .text k pos => s.readText st k pos sz fault
  | _ => s.readWords st off sz fault

/-! ## Writes -/

/-- A write to a live word that has no behaviour of its own (R168). -/
def State.writeReadOnly (s : State) (st : Station) (sz : Size) : State :=
  testing st [(badSize sz, .badSize)] s (s.refuse st .readOnly)

/-- A write to a live word (R168), by the word's own entry. -/
def State.writeLive (s : State) (st : Station) (sz : Size) (v : Word) : LiveWord → State
  | .hold k => s.writeHold st k sz v
  | .route k => s.writeRoute st k sz (routeAsked v)
  | .state k => s.writeState st k sz v
  | .control o => s.writeControl st o sz v
  | .rights o => s.writeRights st o sz v
  | .readIndex o => s.writeReadIndex st o sz v
  | .limit b => s.writeLimit st b sz v
  | .watchers b k => s.writeWatchers st b k sz v
  | .columnWidth p => s.writeWidth st p sz v
  | .gutter p => s.writeGutter st p sz v
  | .columnDepth p => s.writeColumnDepth st p sz v
  | .pageCommand p => s.writeCommand st p sz v
  | .slotStory p n => s.writeStory st p n sz v
  | .span p n => s.writeSpan st p n sz v
  | .allowance p n => s.writeAllowance st p n sz v
  | .policy p n => s.writePolicy st p n sz v
  | .fontSize f => s.writeFont st f sz (.size v)
  | .fontLeading f => s.writeFont st f sz (.leading v)
  | .widths f c => s.writeFont st f sz (.widths c v)
  | .edition => s.writeEdition st sz v
  | .standardMeasure => s.writeStandard st sz v
  | .holdWait => s.writeHoldWait st sz v
  | .attentionEnable => s.writeEnables st sz v
  | .placement _ => s.writeReadOnly st sz
  | .depthLow _ => s.writeReadOnly st sz
  | .depthHigh _ => s.writeReadOnly st sz
  | .viewers _ => s.writeReadOnly st sz
  | .stationStatus _ => s.writeReadOnly st sz
  | .lastRefusal _ => s.writeReadOnly st sz
  | .writeIndex _ => s.writeReadOnly st sz
  | .count _ => s.writeReadOnly st sz
  | .listEntry _ _ => s.writeReadOnly st sz
  | .pageState _ => s.writeReadOnly st sz
  | .linkStatus => s.writeReadOnly st sz
  | .measureStatus => s.writeReadOnly st sz
  | .dispatchStatus => s.writeReadOnly st sz
  | .pending _ => s.writeReadOnly st sz

/-- A write inside the window (R168): a burst that touches a live byte is refused whole. -/
def State.writeWindow (s : State) (st : Station) (off : Nat) (sz : Size) (data : Data) (fault : Bool) : State :=
  if sz == .burst && touchesLive off sz then s.refuse st .badSize
  else
    match placeOf off with
    | .text k pos => s.writeText st k pos sz data fault
    | .headerPlain k h => s.writeHeaderPlain st k h sz data fault
    | .ring o h => s.writeRing st o h sz data fault
    | .plain => s.writePlain st (s.base + off) sz data fault
    | .live w => s.writeLive st sz (dataWord data) w

/-- An access by bus address (R165 to R169). -/
def State.access (s : State) (code : StationCode) (write : Bool) (addr : Word) (sz : Size) (data : Data)
    (fault : Bool) : State :=
  if s.inWindow addr.toNat then
    asStation code s fun st =>
      if write then s.writeWindow st (addr.toNat - s.base) sz data fault
      else s.readWindow st (addr.toNat - s.base) sz fault
  else s.outside write addr.toNat sz data fault

/-- PLAIN_PASS_THROUGH (R168); a read of a live word comes by this row as well (assumption 10). -/
def execPlainPassThrough (code : StationCode) (write : Bool) (addr : Word) (sz : Size) (data : Data) (fault : Bool)
    (s : State) : Host.Outcome State Fault Refusal :=
  if aligned addr.toNat sz then .next (s.access code write addr sz data fault) else .refused .misaligned

/-- ACCESS_OUTSIDE_WINDOW (R165). -/
def execAccessOutsideWindow (code : StationCode) (write : Bool) (addr : Word) (sz : Size) (data : Data) (fault : Bool)
    (s : State) : Host.Outcome State Fault Refusal :=
  if aligned addr.toNat sz then .next (s.access code write addr sz data fault) else .refused .misaligned

/-- LIVE_WORD_WRITE (R168): any write by bus address (assumption 10). -/
def execLiveWordWrite (code : StationCode) (addr : Word) (sz : Size) (data : Data) (fault : Bool) (s : State) :
    Host.Outcome State Fault Refusal :=
  if aligned addr.toNat sz then .next (s.access code true addr sz data fault) else .refused .misaligned

/-- HEADER_PLAIN_WRITE (R17): a write at byte `off` of a story header; one that touches the live block is answered by
R17's rule for live writes. -/
def execHeaderPlainWrite (code : StationCode) (k : StoryId) (off : Fin 64) (sz : Size) (data : Data) (fault : Bool)
    (s : State) : Host.Outcome State Fault Refusal :=
  if aligned off.val sz then
    .next (asStation code s fun st => s.writeWindow st (0x1000000 + k.val * 64 + off.val) sz data fault)
  else .refused .misaligned

/-- The offset of LINK STATUS (section 11.8). -/
def linkStatusOffset : Nat := 0x10E0010

/-- LINK_STATUS_READ (R162). -/
def execLinkStatusRead (code : StationCode) (off : Fin 4) (sz : Size) (fault : Bool) (s : State) :
    Host.Outcome State Fault Refusal :=
  if aligned (linkStatusOffset + off.val) sz then
    .next (asStation code s fun st => s.readWords st (linkStatusOffset + off.val) sz fault)
  else .refused .misaligned

end Sys2Proof.Machine
end

