-- ==== Sys2Proof/Machine/Dispatch.lean ====
section
/-! DEFINITION. The meaning of every command, one arm per row of spec/opcode_table.json. -/

namespace Sys2Proof.Machine

def exec (i : Instr) (s : State) : Host.Outcome State Fault Refusal :=
  match i with
  | .textRead code story pos sz fault => Sys2Proof.Machine.execTextRead code story pos sz fault s
  | .textWrite code story pos sz data fault => Sys2Proof.Machine.execTextWrite code story pos sz data fault s
  | .headerPlainWrite code story off sz data fault => Sys2Proof.Machine.execHeaderPlainWrite code story off sz data fault s
  | .plainPassThrough code write addr sz data fault => Sys2Proof.Machine.execPlainPassThrough code write addr sz data fault s
  | .accessOutsideWindow code write addr sz data fault => Sys2Proof.Machine.execAccessOutsideWindow code write addr sz data fault s
  | .ringSlotWrite code owner off sz data fault => Sys2Proof.Machine.execRingSlotWrite code owner off sz data fault s
  | .liveWordWrite code addr sz data fault => Sys2Proof.Machine.execLiveWordWrite code addr sz data fault s
  | .claim code story sz => Sys2Proof.Machine.execClaim code story sz s
  | .release code story sz => Sys2Proof.Machine.execRelease code story sz s
  | .breakHold code story sz => Sys2Proof.Machine.execBreakHold code story sz s
  | .routeToBasket code story sz basket prio => Sys2Proof.Machine.execRouteToBasket code story sz basket prio s
  | .routeToNone code story sz => Sys2Proof.Machine.execRouteToNone code story sz s
  | .purge code story sz => Sys2Proof.Machine.execPurge code story sz s
  | .reopen code story sz => Sys2Proof.Machine.execReopen code story sz s
  | .limitWrite code basket sz value => Sys2Proof.Machine.execLimitWrite code basket sz value s
  | .watchersWrite code basket k sz value => Sys2Proof.Machine.execWatchersWrite code basket k sz value s
  | .sizeWrite code font sz value => Sys2Proof.Machine.execSizeWrite code font sz value s
  | .leadingWrite code font sz value => Sys2Proof.Machine.execLeadingWrite code font sz value s
  | .widthTableWrite code font c sz value => Sys2Proof.Machine.execWidthTableWrite code font c sz value s
  | .standardMeasureWrite code sz value => Sys2Proof.Machine.execStandardMeasureWrite code sz value s
  | .editionWrite code sz value => Sys2Proof.Machine.execEditionWrite code sz value s
  | .holdWaitWrite code sz value => Sys2Proof.Machine.execHoldWaitWrite code sz value s
  | .attentionEnableWrite code sz value => Sys2Proof.Machine.execAttentionEnableWrite code sz value s
  | .noticeReadIndexWrite code owner sz value => Sys2Proof.Machine.execNoticeReadIndexWrite code owner sz value s
  | .signOn code owner sz => Sys2Proof.Machine.execSignOn code owner sz s
  | .signOff code owner sz => Sys2Proof.Machine.execSignOff code owner sz s
  | .rightsWrite code owner sz value => Sys2Proof.Machine.execRightsWrite code owner sz value s
  | .columnWidthWrite code page sz value => Sys2Proof.Machine.execColumnWidthWrite code page sz value s
  | .gutterWrite code page sz value => Sys2Proof.Machine.execGutterWrite code page sz value s
  | .columnDepthWrite code page sz value => Sys2Proof.Machine.execColumnDepthWrite code page sz value s
  | .place code page slot sz story => Sys2Proof.Machine.execPlace code page slot sz story s
  | .remove code page slot sz => Sys2Proof.Machine.execRemove code page slot sz s
  | .spanWrite code page slot sz value => Sys2Proof.Machine.execSpanWrite code page slot sz value s
  | .allowanceWrite code page slot sz value => Sys2Proof.Machine.execAllowanceWrite code page slot sz value s
  | .policyWrite code page slot sz value => Sys2Proof.Machine.execPolicyWrite code page slot sz value s
  | .dispatch code page sz => Sys2Proof.Machine.execDispatch code page sz s
  | .cancel code page sz => Sys2Proof.Machine.execCancel code page sz s
  | .linkStatusRead code off sz fault => Sys2Proof.Machine.execLinkStatusRead code off sz fault s
  | .measurePassTaken => Sys2Proof.Machine.execMeasurePassTaken s
  | .measurePassCompletion => Sys2Proof.Machine.execMeasurePassCompletion s
  | .measureFault => Sys2Proof.Machine.execMeasureFault s
  | .fontWaitExpiry => Sys2Proof.Machine.execFontWaitExpiry s
  | .holdWaitExpiry => Sys2Proof.Machine.execHoldWaitExpiry s
  | .sendTextRead fault => Sys2Proof.Machine.execSendTextRead fault s
  | .ringWriteStart => Sys2Proof.Machine.execRingWriteStart s
  | .ringWriteComplete fault => Sys2Proof.Machine.execRingWriteComplete fault s
  | .typesetterPresentHigh => Sys2Proof.Machine.execTypesetterPresentHigh s
  | .typesetterPresentLow => Sys2Proof.Machine.execTypesetterPresentLow s
  | .trainingTimerExpiry => Sys2Proof.Machine.execTrainingTimerExpiry s
  | .typesetterAbility mask largest => Sys2Proof.Machine.execTypesetterAbility mask largest s
  | .ack => Sys2Proof.Machine.execAck s
  | .nak reason => Sys2Proof.Machine.execNak reason s
  | .wait => Sys2Proof.Machine.execWait s
  | .ready => Sys2Proof.Machine.execReady s
  | .waitTimerExpiry => Sys2Proof.Machine.execWaitTimerExpiry s
  | .replyTimerExpiry => Sys2Proof.Machine.execReplyTimerExpiry s
  | .tryEnd => Sys2Proof.Machine.execTryEnd s
  | .receiverGapExpiry => Sys2Proof.Machine.execReceiverGapExpiry s
  | .busReset => Sys2Proof.Machine.execBusReset s
  | .powerOn strap present => Sys2Proof.Machine.execPowerOn strap present s
  | .incomingByte b => Sys2Proof.Machine.execIncomingByte b s
  | .measureTextRead => Sys2Proof.Machine.execMeasureTextRead s
  | .timebaseTick => Sys2Proof.Machine.execTimebaseTick s
  | .partAbilityEnd => Sys2Proof.Machine.execPartAbilityEnd s

end Sys2Proof.Machine
end

