-- ==== Sys2Proof/WellFormed.lean ====
section
/-! DEFINITION. Well-formed commands: those the copy bus can carry and whose operands are those the row of the
table names. Every other check of a command is made by the part itself, and is in the command's meaning. -/

namespace Sys2Proof

open Machine (aligned)

/-- The first offset of the plain part of a story header (section 11.2). -/
def headerPlainStart : Nat := 0x1C

/-- Whether a command is well formed: an access is naturally aligned to its size (R166), and a header plain write
names a plain byte of the header (R17). -/
def Instr.wellFormed : Instr → Bool
  | .textRead _ _ pos sz _ => aligned pos.val sz
  | .textWrite _ _ pos sz _ _ => aligned pos.val sz
  | .headerPlainWrite _ _ off sz _ _ => aligned off.val sz && decide (headerPlainStart ≤ off.val)
  | .plainPassThrough _ _ addr sz _ _ => aligned addr.toNat sz
  | .accessOutsideWindow _ _ addr sz _ _ => aligned addr.toNat sz
  | .ringSlotWrite _ _ off sz _ _ => aligned off.val sz
  | .liveWordWrite _ addr sz _ _ => aligned addr.toNat sz
  | .claim _ _ _ => true
  | .release _ _ _ => true
  | .breakHold _ _ _ => true
  | .routeToBasket _ _ _ _ _ => true
  | .routeToNone _ _ _ => true
  | .purge _ _ _ => true
  | .reopen _ _ _ => true
  | .limitWrite _ _ _ _ => true
  | .watchersWrite _ _ _ _ _ => true
  | .sizeWrite _ _ _ _ => true
  | .leadingWrite _ _ _ _ => true
  | .widthTableWrite _ _ c sz _ => aligned c.val sz
  | .standardMeasureWrite _ _ _ => true
  | .editionWrite _ _ _ => true
  | .holdWaitWrite _ _ _ => true
  | .attentionEnableWrite _ _ _ => true
  | .noticeReadIndexWrite _ _ _ _ => true
  | .signOn _ _ _ => true
  | .signOff _ _ _ => true
  | .rightsWrite _ _ _ _ => true
  | .columnWidthWrite _ _ _ _ => true
  | .gutterWrite _ _ _ _ => true
  | .columnDepthWrite _ _ _ _ => true
  | .place _ _ _ _ _ => true
  | .remove _ _ _ _ => true
  | .spanWrite _ _ _ _ _ => true
  | .allowanceWrite _ _ _ _ _ => true
  | .policyWrite _ _ _ _ _ => true
  | .dispatch _ _ _ => true
  | .cancel _ _ _ => true
  | .linkStatusRead _ off sz _ => aligned off.val sz
  | .measurePassTaken => true
  | .measurePassCompletion => true
  | .measureFault => true
  | .fontWaitExpiry => true
  | .holdWaitExpiry => true
  | .sendTextRead _ => true
  | .ringWriteStart => true
  | .ringWriteComplete _ => true
  | .typesetterPresentHigh => true
  | .typesetterPresentLow => true
  | .trainingTimerExpiry => true
  | .typesetterAbility _ _ => true
  | .ack => true
  | .nak _ => true
  | .wait => true
  | .ready => true
  | .waitTimerExpiry => true
  | .replyTimerExpiry => true
  | .tryEnd => true
  | .receiverGapExpiry => true
  | .busReset => true
  | .powerOn _ _ => true
  | .incomingByte _ => true
  | .measureTextRead => true
  | .timebaseTick => true
  | .partAbilityEnd => true

end Sys2Proof
end

