-- ==== Sys2Proof/Safety.lean ====
section
/-! DEFINITION. What claims about the part are stated in: properties that steps keep, what two states have in common, and
the laws the manual says its rules keep together. -/

namespace Sys2Proof.Safety

open Machine

/-! ## Properties of steps -/

/-- A property that every step keeps. -/
def Kept (law : State → Prop) : Prop := ∀ s t : State, law s → step s = .next t → law t

/-- A property that every step keeps from a state in which another property holds as well. -/
def KeptGiven (premise law : State → Prop) : Prop :=
  ∀ s t : State, premise s → law s → step s = .next t → law t

/-! ## What two states have in common -/

/-- Every byte of memory reads the same. -/
def SameMemory (s t : State) : Prop := ∀ a : Nat, t.memByte a = s.memByte a

/-- Every byte of memory outside `n` bytes from `a` on reads the same. -/
def SameMemoryBut (a n : Nat) (s t : State) : Prop :=
  ∀ x : Nat, x < a ∨ a + n ≤ x → t.memByte x = s.memByte x

/-- Every story's entry but story `k`'s is the same. -/
def SameStoriesBut (k : StoryId) (s t : State) : Prop := ∀ j : StoryId, j ≠ k → t.story j = s.story j

/-- Every basket's record but basket `b`'s is the same. -/
def SameBasketsBut (b : BasketId) (s t : State) : Prop := ∀ c : BasketId, c ≠ b → t.basket c = s.basket c

/-- Every page's record but page `p`'s is the same. -/
def SamePagesBut (p : PageId) (s t : State) : Prop := ∀ q : PageId, q ≠ p → t.page q = s.page q

/-- Every font's record but font `f`'s is the same. -/
def SameFontsBut (f : FontId) (s t : State) : Prop := ∀ g : FontId, g ≠ f → t.font g = s.font g

/-- Every terminal's record but that of terminal `u` is the same. -/
def SameTerminalsBut (u : TerminalId) (s t : State) : Prop := ∀ v : TerminalId, v ≠ u → t.terminal v = s.terminal v

/-- The copy bus shows DONE and no data. -/
def doneBus : BusOut := { answer := .done, data := none }

/-- The copy bus shows DONE with the bytes a read returned. -/
def readBus (d : Data) : BusOut := { answer := .done, data := some d }

/-- The copy bus shows REFUSE. -/
def refuseBus : BusOut := { answer := .refuse, data := none }

/-- The copy bus shows RETRY. -/
def retryBus : BusOut := { answer := .retry, data := none }

/-! ## The laws -/

/-- Memory and every sparse record table are in canonical form: equal contents are equal lists. -/
structure Canonical (s : State) : Prop where
  mem : tableWf unwritten s.mem = true
  stories : tableWf (fun _ => unusedStory) s.stories = true
  baskets : tableWf (fun _ => emptyBasket) s.baskets = true
  fonts : tableWf (fun _ => powerOnFont) s.measure.fonts = true
  widths : ∀ f : FontId, tableWf powerOnWidth (s.font f).widths = true
  terminals : tableWf (fun _ => offTerminal) s.stations.terminals = true
  pages : tableWf (fun _ => emptyPage) s.pages.pages = true

/-- Memory lists no address outside the 32-bit bus (R165, R166), and the slot of a ring write is one of the 32 of a ring
(R107). -/
structure InSpace (s : State) : Prop where
  mem : ∀ c ∈ s.mem, c.1 < 4294967296
  slot : ∀ w, s.stations.ringWrite = some w → w.slot < 32

/-- The law of R107, with what keeps it: a signed-off terminal's ring is empty, and a ring write that will advance an
index is for a station that is signed on and has room. -/
structure RingLaw (s : State) : Prop where
  unread : ∀ st : Station, unread (s.ring st) ≤ 32
  off : ∀ u : TerminalId, (s.terminal u).signedOn = false → (s.terminal u).ring = emptyRing
  inFlight : ∀ w, s.stations.ringWrite = some w → w.voided = false →
    s.signedOn w.recipient = true ∧ Machine.unread (s.ring w.recipient) < 32

/-- The outgoing queue holds up to 256 notices, none for a terminal that is not signed on (R108, R113). -/
structure OutgoingLaw (s : State) : Prop where
  places : s.stations.outgoing.length ≤ 256
  signedOn : ∀ o ∈ s.stations.outgoing, s.signedOn o.recipient = true

/-- The law of R115: a group line is asserted exactly when it is enabled and some signed-on terminal of its group has
unread notices, and the system line exactly when the system station has unread notices. -/
structure LineLaw (s : State) : Prop where
  group : ∀ g : Group, s.stations.groupLines.getLsbD g.val = true ↔
    s.stations.enables.getLsbD g.val = true ∧
      ∃ u : TerminalId, (s.terminal u).signedOn = true ∧ (s.terminal u).group = g ∧ 0 < unread (s.terminal u).ring
  system : s.stations.systemLine = true ↔ 0 < unread s.stations.system.ring

/-- Slots and placements agree (R6, R119): a story sits in at most one slot, its placement names that slot, and an UNUSED
story sits in none. -/
structure PlanLaw (s : State) : Prop where
  slot : ∀ p n sl, s.slotOf p n = some sl → (s.story sl.story).placement = some (p, n)
  placement : ∀ k p n, (s.story k).placement = some (p, n) → ∃ sl, s.slotOf p n = some sl ∧ sl.story = k
  unused : ∀ k, (s.story k).phase = .unused → (s.story k).placement = none

/-- The law of R45: a story is in at most one basket and once in its list, an UNUSED story is in none, no count exceeds its
limit, and each list is ordered by priority class. -/
structure BasketLaw (s : State) : Prop where
  once : ∀ b, ((s.basket b).list.map Filed.story).Nodup
  ordered : ∀ b, (s.basket b).list.Pairwise fun x y => prioCode x.prio ≤ prioCode y.prio
  count : ∀ b, basketCount (s.basket b) ≤ (s.basket b).limit
  limit : ∀ b, 1 ≤ (s.basket b).limit ∧ (s.basket b).limit ≤ 2048
  filed : ∀ b, ∀ e ∈ (s.basket b).list, (s.story e.story).basket = some b ∧ (s.story e.story).prio = e.prio
  listed : ∀ k b, (s.story k).basket = some b → ∃ e ∈ (s.basket b).list, e.story = k
  unused : ∀ k, (s.story k).phase = .unused → (s.story k).basket = none

/-- The law of R99: a viewer list holds at most four entries, names no station twice, names only signed-on terminals, and
never names the holder; an UNUSED story's list is empty. -/
structure ViewerLaw (s : State) : Prop where
  places : ∀ k, (s.story k).viewers.length ≤ 4
  once : ∀ k, ((s.story k).viewers.map Viewer.terminal).Nodup
  signedOn : ∀ k, ∀ v ∈ (s.story k).viewers, (s.terminal v.terminal).signedOn = true
  holder : ∀ k, ∀ v ∈ (s.story k).viewers, (s.story k).holder ≠ some (.terminal v.terminal)
  unused : ∀ k, (s.story k).phase = .unused → (s.story k).viewers = []

/-- How many stories a terminal holds. -/
def heldCount (s : State) (u : TerminalId) : Nat :=
  (List.finRange 2048).countP fun k => decide ((s.story k).holder = some (.terminal u))

/-- The law of R23 for hold counts: each equals the number of stories the terminal holds and is at most 16; a signed-off
terminal holds none (R33), and an UNUSED story has no holder. -/
structure HoldLaw (s : State) : Prop where
  count : ∀ u, (s.terminal u).holdCount = heldCount s u
  limit : ∀ u, (s.terminal u).holdCount ≤ 16
  off : ∀ u, (s.terminal u).signedOn = false → (s.terminal u).holdCount = 0
  unused : ∀ k, (s.story k).phase = .unused → (s.story k).holder = none

/-- The measure queue and engine agree with the depth statuses (R9, R84, R86, R88): the queue holds each STALE story once,
the pass in flight is that of the MEASURING story, and the UNUSED stories are those that are NONE. -/
structure QueueLaw (s : State) : Prop where
  once : s.measure.queue.Nodup
  stale : ∀ k, k ∈ s.measure.queue ↔ (s.story k).depth.status = .stale
  measuring : ∀ k, s.inPass k = true ↔ (s.story k).depth.status = .measuring
  none : ∀ k, (s.story k).phase = .unused ↔ (s.story k).depth.status = .none

/-- The font-wait timer runs while the engine is HELD and only then; a HELD engine has the mark, and an IDLE one does not
(R95). -/
structure FontWaitLaw (s : State) : Prop where
  timer : s.measure.fontWaitTimer.isSome = true ↔ s.measure.engine = .held
  held : s.measure.engine = .held → s.measure.fontWait = true
  idle : s.measure.engine = .idle → s.measure.fontWait = false

/-- Whether a page is WAITING or SENDING. -/
def busy (s : State) (p : PageId) : Bool := isWaiting (s.page p).state || isSending (s.page p).state

/-- Whether a page is at rest. -/
def atRest (s : State) (p : PageId) : Bool := (restingField (s.page p).state).isNone

/-- The dispatch queue, the engine and the pages agree (R4, R120, R131, R135, R140): each transient page is queued once,
only the head is WAITING or SENDING, the engine's state is the head's, it leaves IDLE only with the link UP, the hold-wait
timer runs while the head is WAITING, the closing stories are those of a WAITING or SENDING page, and no page stands in the
queue while the engine is IDLE and the link UP. -/
structure DispatchLaw (s : State) : Prop where
  once : (s.dispatch.queue.map Queued.page).Nodup
  queued : ∀ p, p ∈ s.dispatch.queue.map Queued.page ↔ atRest s p = false
  tail : ∀ e ∈ s.dispatch.queue.tail, isQueued (s.page e.page).state = true
  waiting : s.dispatch.engine = .waiting ↔ s.waitingHead.isSome = true
  sending : (∃ x, s.dispatch.engine = .sending x) ↔ s.sendingHead.isSome = true
  up : s.dispatch.engine ≠ .idle → s.link.state = .up
  timer : s.dispatch.holdWaitTimer.isSome = true ↔ s.waitingHead.isSome = true
  closing : ∀ k, (s.story k).closing = true ↔ ∃ p n, (s.story k).placement = some (p, n) ∧ busy s p = true
  advanced : s.dispatch.engine = .idle → s.link.state = .up → s.dispatch.queue = []

/-- The law of R39 and R120: a FROZEN story sits on a page that was sent, every story of a SENT page is FROZEN, and a
page's resting state is EMPTY exactly when no slot holds a story. -/
structure FrozenLaw (s : State) : Prop where
  frozen : ∀ k, (s.story k).phase = .frozen → ∃ p n, (s.story k).placement = some (p, n) ∧
    (restingOf (s.page p).state = .sent ∨ restingOf (s.page p).state = .changed)
  sent : ∀ p n sl, restingOf (s.page p).state = .sent → s.slotOf p n = some sl → (s.story sl.story).phase = .frozen
  empty : ∀ p, restingOf (s.page p).state = .empty ↔ ∀ n, s.slotOf p n = none
  queued : ∀ e ∈ s.dispatch.queue, restingOf (s.page e.page).state ≠ .empty

/-- The law of R23 and R94 for a send: no story of a SENDING page is held and each is FRESH, and no FROZEN story is
held. -/
structure SendLaw (s : State) : Prop where
  sending : ∀ p n sl, isSending (s.page p).state = true → s.slotOf p n = some sl →
    (s.story sl.story).holder = none ∧ (s.story sl.story).depth.status = .fresh
  frozen : ∀ k, (s.story k).phase = .frozen → (s.story k).holder = none

/-- Whether a transmission is a try of the outstanding frame. -/
def isCurrent : Transmission → Bool
  | .attempt _ current => current
  | .ability => false

/-- The link keeps its records together (R147, R154 to R160): each timer runs exactly with what it times, only a link that
is UP has a frame outstanding or a WAIT hold, a link that is DOWN neither gathers nor sends, at most one try of the
outstanding frame is going out or to come and its reply timer then rests, and the frame outstanding is the dispatch
engine's. -/
structure LinkLaw (s : State) : Prop where
  training : s.link.state = .training ↔ s.link.trainingTimer.isSome = true
  wait : s.link.waitHold = true ↔ s.link.waitTimer.isSome = true
  gap : s.link.receiver ≠ .hunting ↔ s.link.gapTimer.isSome = true
  notUp : s.link.state ≠ .up → s.link.outstanding = none ∧ s.link.waitHold = false
  down : s.link.state = .down → s.link.receiver = .hunting ∧ s.link.transmitter = []
  tries : ∀ o, s.link.outstanding = some o → 1 ≤ o.tries ∧ o.tries ≤ 3
  reply : s.link.replyTimer.isSome = true → s.link.outstanding.isSome = true ∧ s.link.waitHold = false
  current : ∀ f, .attempt f true ∈ s.link.transmitter → s.link.waitHold = false ∧ s.link.replyTimer = none ∧
    ∃ o, s.link.outstanding = some o ∧ o.frame = f
  single : s.link.transmitter.countP isCurrent ≤ 1
  quiet : s.dispatch.engine = .idle ∨ s.dispatch.engine = .waiting → s.link.outstanding = none
  sending : ∀ x o, s.dispatch.engine = .sending x → s.link.outstanding = some o → isAbort o.frame = false
  aborting : s.dispatch.engine = .aborting → s.link.waitHold = false ∧
    ∃ o, s.link.outstanding = some o ∧ isAbort o.frame = true

/-- Every quantity kept as a number lies in the range the manual states for it: depths and lines (R9, R76), fonts (R63), page
geometry, slots and editions sent (R119), the edition (R129), edition stamps and the page check sums (R131, R82), the standard
measure (R96), HOLD WAIT (R149), the lengths the link agrees on (R154), and the period of each running timer (R95, R131, R154). -/
structure RangeLaw (s : State) : Prop where
  depth : ∀ k, (s.story k).depth.depth ≤ 65535 ∧ (s.story k).depth.lines ≤ 4095
  font : ∀ f, 16 ≤ (s.font f).size ∧ (s.font f).size ≤ 288 ∧
    (s.font f).size ≤ (s.font f).leading ∧ (s.font f).leading ≤ 576
  geometry : ∀ p, 60 ≤ (s.page p).width ∧ (s.page p).width ≤ 480 ∧ (s.page p).gutter ≤ 36 ∧
    400 ≤ (s.page p).depth ∧ (s.page p).depth ≤ 8000
  slot : ∀ p n sl, s.slotOf p n = some sl →
    1 ≤ sl.span ∧ sl.span ≤ 8 ∧ 1 ≤ sl.allowance ∧ sl.allowance ≤ (s.page p).depth
  edition : 1 ≤ s.pages.edition ∧ s.pages.edition ≤ 15
  sent : ∀ p, (s.page p).editionSent ≤ 15
  stamp : ∀ e ∈ s.dispatch.queue, 1 ≤ e.stamp ∧ e.stamp ≤ 15
  sums : ∀ x, s.dispatch.engine = .sending x → x.a ≤ 254 ∧ x.b ≤ 254
  standard : 60 ≤ s.measure.standard ∧ s.measure.standard ≤ 4092
  holdWait : 1 ≤ s.dispatch.holdWait ∧ s.dispatch.holdWait ≤ 600
  largest : s.link.largest = 0 ∨ (16 ≤ s.link.largest ∧ s.link.largest ≤ 240)
  agreed : s.link.agreed = min 240 s.link.largest
  recorded : s.link.state = .up → 16 ≤ s.link.largest
  holdWaitTimer : ∀ n, s.dispatch.holdWaitTimer = some n → ∃ seconds, 1 ≤ seconds ∧ seconds ≤ 600 ∧ n = 1000 * seconds
  fontWaitTimer : ∀ n, s.measure.fontWaitTimer = some n → n = 5
  trainingTimer : ∀ n, s.link.trainingTimer = some n → n = 1000
  replyTimer : ∀ n, s.link.replyTimer = some n → n = 400
  waitTimer : ∀ n, s.link.waitTimer = some n → n = 30000
  gapTimer : ∀ n, s.link.gapTimer = some n → n = 20

/-! ## What a command is -/

/-- The station code that comes with an access row that names a word of the window. -/
def accessCode : Instr → Option StationCode
  | .textRead code _ _ _ _ | .textWrite code _ _ _ _ _ | .headerPlainWrite code _ _ _ _ _
  | .ringSlotWrite code _ _ _ _ _ | .claim code _ _ | .release code _ _ | .breakHold code _ _
  | .routeToBasket code _ _ _ _ | .routeToNone code _ _ | .purge code _ _ | .reopen code _ _
  | .limitWrite code _ _ _ | .watchersWrite code _ _ _ _ | .sizeWrite code _ _ _ | .leadingWrite code _ _ _
  | .widthTableWrite code _ _ _ _ | .standardMeasureWrite code _ _ | .editionWrite code _ _
  | .holdWaitWrite code _ _ | .attentionEnableWrite code _ _ | .noticeReadIndexWrite code _ _ _
  | .signOn code _ _ | .signOff code _ _ | .rightsWrite code _ _ _ | .columnWidthWrite code _ _ _
  | .gutterWrite code _ _ _ | .columnDepthWrite code _ _ _ | .place code _ _ _ _ | .remove code _ _ _
  | .spanWrite code _ _ _ _ | .allowanceWrite code _ _ _ _ | .policyWrite code _ _ _ _ | .dispatch code _ _
  | .cancel code _ _ | .linkStatusRead code _ _ _ => some code
  | _ => none

/-- The station code of a write, whether it names its word or a bus address. -/
def writerCode : Instr → Option StationCode
  | .textWrite code _ _ _ _ _ | .headerPlainWrite code _ _ _ _ _ | .ringSlotWrite code _ _ _ _ _
  | .plainPassThrough code true _ _ _ _ | .accessOutsideWindow code true _ _ _ _ | .liveWordWrite code _ _ _ _ =>
    some code
  | _ => none

/-- Whether memory reports a data fault on a command. -/
def faulted : Instr → Bool
  | .textRead _ _ _ _ f | .textWrite _ _ _ _ _ f | .headerPlainWrite _ _ _ _ _ f | .plainPassThrough _ _ _ _ _ f
  | .accessOutsideWindow _ _ _ _ _ f | .ringSlotWrite _ _ _ _ _ f | .liveWordWrite _ _ _ _ f
  | .linkStatusRead _ _ _ f | .sendTextRead f | .ringWriteComplete f => f
  | _ => false

/-- The offset in the window of the live word that a row writes, and the value it writes there (chapter 11); none for a row
that writes no single live word, or writes it with an access other than a single 4-byte write. -/
def wordWritten : Instr → Option (Nat × Word)
  | .claim code k .word => some (0x1000000 + 64 * k.val, code.setWidth 32)
  | .release _ k .word => some (0x1000000 + 64 * k.val, 0xFF#32)
  | .breakHold _ k .word => some (0x1000000 + 64 * k.val, 0xFE#32)
  | .routeToBasket _ k .word b p => some (0x1000004 + 64 * k.val, BitVec.ofNat 32 (b.val + 256 * prioCode p))
  | .routeToNone _ k .word => some (0x1000004 + 64 * k.val, 0xFF#32)
  | .purge _ k .word => some (0x1000004 + 64 * k.val, 0xFE#32)
  | .reopen _ k .word => some (0x1000008 + 64 * k.val, 1#32)
  | .signOn _ o .word => some (0x1020200 + 1024 * stationCode o, 1#32)
  | .signOff _ o .word => some (0x1020200 + 1024 * stationCode o, 2#32)
  | .rightsWrite _ o .word v => some (0x1020204 + 1024 * stationCode o, v)
  | .noticeReadIndexWrite _ o .word v => some (0x1020214 + 1024 * stationCode o, v)
  | .limitWrite _ b .word v => some (0x1040000 + 16384 * b.val, v)
  | .watchersWrite _ b k .word v => some (0x1040008 + 16384 * b.val + 4 * k.val, v)
  | .columnWidthWrite _ p .word v => some (0x10C0000 + 256 * p.val, v)
  | .gutterWrite _ p .word v => some (0x10C0004 + 256 * p.val, v)
  | .columnDepthWrite _ p .word v => some (0x10C0008 + 256 * p.val, v)
  | .dispatch _ p .word => some (0x10C0010 + 256 * p.val, 1#32)
  | .cancel _ p .word => some (0x10C0010 + 256 * p.val, 2#32)
  | .place _ p n .word k => some (0x10C0040 + 256 * p.val + 16 * n.val, BitVec.ofNat 32 k.val)
  | .remove _ p n .word => some (0x10C0040 + 256 * p.val + 16 * n.val, 0xFFFFFFFF#32)
  | .spanWrite _ p n .word v => some (0x10C0044 + 256 * p.val + 16 * n.val, v)
  | .allowanceWrite _ p n .word v => some (0x10C0048 + 256 * p.val + 16 * n.val, v)
  | .policyWrite _ p n .word v => some (0x10C004C + 256 * p.val + 16 * n.val, v)
  | .sizeWrite _ f .word v => some (0x10D0000 + 512 * f.val, v)
  | .leadingWrite _ f .word v => some (0x10D0004 + 512 * f.val, v)
  | .widthTableWrite _ f c .word v => some (0x10D0100 + 512 * f.val + c.val, v)
  | .editionWrite _ .word v => some (0x10E0000, v)
  | .standardMeasureWrite _ .word v => some (0x10E0004, v)
  | .holdWaitWrite _ .word v => some (0x10E0008, v)
  | .attentionEnableWrite _ .word v => some (0x10E000C, v)
  | _ => none

/-- The bus address of an offset of the window. -/
def windowAddr (s : State) (off : Nat) : Word := BitVec.ofNat 32 (s.base + off)

end Sys2Proof.Safety
end

