-- ==== Sys2Proof/Certificates/Slice0/Obligations.lean ====
section
/-! DEFINITION. The statements about the part: the step, reset, the laws every step keeps, rules over all commands, and the
effect of each command with what it leaves alone. -/

open Sys2Proof Sys2Proof.Machine Sys2Proof.Safety

/-! ## The step and reset -/

/-- A step takes the command at the front of the queue and is that command's effect on the part with the queue's rest. On
an empty queue nothing happens, which is the model's choice (assumption 1), and no word spells a command. -/
def Obligations.StepTakesTheFrontCommand : Prop :=
  (∀ (c : Instr) (rest : List Instr) (s : State),
    step { s with pending := c :: rest } = exec c { s with pending := rest }) ∧
  (∀ s : State, s.pending = [] → step s = .next s) ∧
  ∀ (s : State) (nbits w : Nat), decodeTableWord nbits w = none ∧ s.withFetchWord nbits w = s

/-- What the records hold at reset, as the rules on power-on give it: the story table, baskets, fonts, station records, the station
unit, pages, the measure unit, the dispatch engine with its wanted record, and the link with its timers, receiver and transmitter.
The strap and the present input at reset, what memory reads as, and the empty queue of commands are the model's choices (assumptions
7, 2 and 1), as is that nothing waits in the transmitter, which R154 does not list. -/
def Obligations.ResetLeavesPowerOnValues : Prop :=
  (∀ k : StoryId, State.reset.story k =
    { phase := .unused, closing := false, holder := none, basket := none, prio := .flash, placement := none
      revision := 0, viewers := []
      depth := { status := .none, depth := 0, lines := 0, overflow := false, fonts := 0, overset := false } }) ∧
  (∀ b : BasketId, State.reset.basket b = { limit := 2048, watchers := 0, list := [] }) ∧
  (∀ f : FontId, (State.reset.font f).size = 40 ∧ (State.reset.font f).leading = 48 ∧
    ∀ c : Nat, fontWidth (State.reset.font f) c = if c < 0x20 then 0 else if c = 0x20 then 9 else 18) ∧
  (∀ u : TerminalId, State.reset.terminal u =
    { signedOn := false, group := 0, makeup := false, ring := { write := 0, read := 0, overrun := false }
      lastRefusal := .none, holdCount := 0 }) ∧
  (∀ p : PageId, State.reset.page p =
    { width := 120, gutter := 12, depth := 6048, slots := Vector.replicate 12 none, state := .resting .empty
      lastResult := .none, editionSent := 0 }) ∧
  State.reset.stations.system = { ring := { write := 0, read := 0, overrun := false }, lastRefusal := .none } ∧
  State.reset.stations.outgoing = [] ∧ State.reset.stations.ringWrite = none ∧
  State.reset.stations.enables = 0xFF#8 ∧ State.reset.stations.groupLines = 0 ∧
  State.reset.stations.systemLine = false ∧
  State.reset.measure.queue = [] ∧ State.reset.measure.engine = .idle ∧ State.reset.measure.fontWait = false ∧
  State.reset.measure.fontWaitTimer = none ∧ State.reset.measure.standard = 120 ∧
  State.reset.pages.edition = 1 ∧ State.reset.dispatch.queue = [] ∧ State.reset.dispatch.engine = .idle ∧
  State.reset.dispatch.holdWait = 120 ∧ State.reset.dispatch.holdWaitTimer = none ∧
  State.reset.dispatch.wanted = Vector.replicate 12 none ∧
  State.reset.link.state = .down ∧ State.reset.link.mask = 0 ∧ State.reset.link.largest = 0 ∧
  State.reset.link.agreed = 0 ∧ State.reset.link.outstanding = none ∧ State.reset.link.waitHold = false ∧
  State.reset.link.trainingTimer = none ∧ State.reset.link.replyTimer = none ∧ State.reset.link.waitTimer = none ∧
  State.reset.link.gapTimer = none ∧ State.reset.link.lost = false ∧ State.reset.link.receiver = .hunting ∧
  State.reset.link.transmitter = [] ∧ State.reset.timebase = 0 ∧ State.reset.pending = []

/-- Every law of Safety.lean holds of the part at reset. -/
def Obligations.LawsHoldAtReset : Prop :=
  Canonical State.reset ∧ InSpace State.reset ∧ RingLaw State.reset ∧ OutgoingLaw State.reset ∧
  LineLaw State.reset ∧ PlanLaw State.reset ∧ BasketLaw State.reset ∧ ViewerLaw State.reset ∧
  HoldLaw State.reset ∧ FontWaitLaw State.reset ∧ QueueLaw State.reset ∧ DispatchLaw State.reset ∧
  FrozenLaw State.reset ∧ SendLaw State.reset ∧ LinkLaw State.reset ∧ RangeLaw State.reset

/-! ## The laws every step keeps -/

/-- Memory and the record tables keep their canonical form, and no address leaves the 32-bit bus. -/
def Obligations.StepsKeepCanonicalForm : Prop := Kept fun s => Canonical s ∧ InSpace s

/-- The law of R107: unread counts lie between 0 and 32, and a signed-off terminal's is 0; with the bounds of the outgoing
queue (R108); and the law of R115: the attention lines are asserted exactly when their conditions hold. -/
def Obligations.StepsKeepRingAndAttentionLaws : Prop := Kept fun s => RingLaw s ∧ OutgoingLaw s ∧ LineLaw s

/-- A story is placed in at most one slot, and slots and placements agree (R6, R119). -/
def Obligations.StepsKeepPlanLaw : Prop := Kept PlanLaw

/-- The law of R45 on baskets and their lists. -/
def Obligations.StepsKeepBasketLaw : Prop := Kept BasketLaw

/-- The law of R99 on viewer lists and the law of R23 on hold counts. -/
def Obligations.StepsKeepViewerAndHoldLaws : Prop := Kept fun s => ViewerLaw s ∧ HoldLaw s

/-- The measure queue and engine agree with the depth statuses (R84, R86, R88), and the font-wait mark and timer with the
engine (R95). -/
def Obligations.StepsKeepQueueLaw : Prop := KeptGiven PlanLaw fun s => QueueLaw s ∧ FontWaitLaw s

/-- The dispatch queue, the engine, the pages and the closing markers agree (R4, R120, R131, R135). -/
def Obligations.StepsKeepDispatchLaw : Prop := KeptGiven PlanLaw DispatchLaw

/-- The law of R39 on FROZEN stories and SENT pages. -/
def Obligations.StepsKeepFrozenLaw : Prop := KeptGiven (fun s => PlanLaw s ∧ DispatchLaw s) FrozenLaw

/-- The stories of a SENDING page are unheld and FRESH (R23, R94). -/
def Obligations.StepsKeepSendLaw : Prop := KeptGiven (fun s => PlanLaw s ∧ DispatchLaw s ∧ QueueLaw s) SendLaw

/-- The link's records agree with each other and with the dispatch engine (R147, R154 to R160). -/
def Obligations.StepsKeepLinkLaw : Prop := KeptGiven (fun s => PlanLaw s ∧ DispatchLaw s) LinkLaw

/-- Every quantity that `RangeLaw` lists keeps to the range the manual states for it: depths and lines, fonts, page geometry, slot
terms, editions and stamps, the page check sums, the standard measure, HOLD WAIT, the link's recorded payload and agreed length, and the
period of each running timer. Unread counts, basket limits, hold counts and tries have their ranges in the laws above. -/
def Obligations.StepsKeepRangeLaw : Prop := Kept RangeLaw

/-! ## Rules over all commands -/

/-- Every well-formed command answers a next state, no command stops with a fault, and an access that is not naturally
aligned, which the copy bus does not carry (R166; assumption 11), is the only one refused. -/
def Obligations.OnlyMisalignedAccessesStop : Prop :=
  ∀ (c : Instr) (s : State),
    (c.wellFormed = true → ∃ t, exec c s = .next t) ∧
    ((∃ t, exec c s = .next t) ∨ (exec c s = .refused .misaligned ∧ c.wellFormed = false)) ∧
    (∀ code k pos sz data f, aligned pos.val sz = false →
      exec (.textRead code k pos sz f) s = .refused .misaligned ∧
      exec (.textWrite code k pos sz data f) s = .refused .misaligned) ∧
    (∀ code w addr sz data f, aligned addr.toNat sz = false →
      exec (.plainPassThrough code w addr sz data f) s = .refused .misaligned ∧
      exec (.accessOutsideWindow code w addr sz data f) s = .refused .misaligned ∧
      exec (.liveWordWrite code addr sz data f) s = .refused .misaligned)

/-- The station code of an access inside the window: of a row that names its word, or of one that names a bus address there. -/
def windowCode (s : State) : Instr → Option StationCode
  | .plainPassThrough code _ addr _ _ _ | .accessOutsideWindow code _ addr _ _ _ | .liveWordWrite code addr _ _ _ =>
    if s.inWindow addr.toNat then some code else none
  | c => accessCode c

/-- Station codes 120 to 126 have no record: every access they make inside the window, by word or by address, is refused, and
nothing else happens (R167). -/
def Parts.UnknownStationsChangeNothing : Prop :=
  ∀ (c : Instr) (code : StationCode) (s : State),
    windowCode s c = some code → 120 ≤ code.toNat → code.toNat ≤ 126 → c.wellFormed = true →
      exec c s = .next { s with bus := refuseBus }

/-- A refused access changes nothing but the writer's last-refusal word, which takes the reason (R170). One on which memory faults
is not meant here. A font write refused with FONTS-PINNED may also end the hold of a HELD engine (R95); that it changes nothing of
the measure unit otherwise, so that a mark set for a pass in flight stays, is the model's reading (assumption 25). -/
def Parts.RefusedAccessesRecordTheReason : Prop :=
  ∀ (c : Instr) (code : StationCode) (st : Station) (s t : State),
    windowCode s c = some code → stationOf code = some st → faulted c = false →
      exec c s = .next t → t.bus.answer = .refuse →
        ∃ r : Reason, r ≠ .none ∧ t.lastRefusal st = r ∧
          { t with measure := s.measure } = { s.setLastRefusal st r with bus := refuseBus } ∧
          (t.measure ≠ s.measure → r = .fontsPinned ∧ s.measure.engine = .held)

/-- A refusal has no effect but its record: none for the stations that have no record (R167), and the reason for the others
(R170). -/
def Obligations.RefusalsChangeOnlyTheReason : Prop := Parts.UnknownStationsChangeNothing ∧ Parts.RefusedAccessesRecordTheReason

/-- A row that names a live word is the write of its value at the word's address by the window map of chapter 11 (R165,
R168). -/
def Obligations.TypedRowsAreWordWrites : Prop :=
  ∀ (c : Instr) (code : StationCode) (off : Nat) (v : Word) (f : Bool) (s : State),
    accessCode c = some code → wordWritten c = some (off, v) →
      exec (.liveWordWrite code (windowAddr s off) .word (v.setWidth 128) f) s = exec c s

/-- No command but POWER_ON changes the strapped base (R165), and none but POWER_ON and TIMEBASE_TICK the timebase (R106). That no
command changes the queue of those still waiting, BUS_RESET and POWER_ON too, is the model's choice (assumptions 1 and 24): R176 and
R177 drop the accesses not yet taken, and the sender would withdraw them. -/
def Parts.CommandsKeepStrapAndTime : Prop :=
  ∀ (c : Instr) (s t : State), exec c s = .next t →
    t.pending = s.pending ∧
    ((∀ strap present, c ≠ .powerOn strap present) →
      t.strap = s.strap ∧ (c ≠ .timebaseTick → t.timebase = s.timebase))

/-- The font store is fixed during every measure pass and every send (R94). -/
def Parts.FontsStayDuringPassesAndSends : Prop :=
  ∀ (c : Instr) (s t : State), exec c s = .next t → (∀ strap present, c ≠ .powerOn strap present) →
    (s.sendingHead.isSome = true ∨ ∃ p, s.measure.engine = .measuring p) → t.measure.fonts = s.measure.fonts

/-- What no command but its own changes: the strap and the timebase (R165, R106), the font store during a pass or a send (R94), and
the queue of commands, the last by the model's choice (assumptions 1 and 24). -/
def Obligations.CommandsKeepWhatIsFixed : Prop := Parts.CommandsKeepStrapAndTime ∧ Parts.FontsStayDuringPassesAndSends

/-- The rule of R35: a byte of a story's text or header changes only by a write that finds the story LIVE and not closing, by its
holder, or by the system station while the story has no holder; and a write of text or of a header plain word that fails a condition
is refused, whatever its bytes and its place, and no byte of it reaches memory. -/
def Obligations.TextChangesOnlyUnderAdmission : Prop :=
  (∀ (c : Instr) (s t : State) (k : StoryId) (a : Nat), exec c s = .next t →
    ((∃ i, i < 8192 ∧ a = s.textAddr k i) ∨ ∃ i, i < 64 ∧ a = s.headerAddr k i) → t.memByte a ≠ s.memByte a →
      ∃ code st, writerCode c = some code ∧ stationOf code = some st ∧ s.signedOn st = true ∧
        (s.story k).phase = .live ∧ (s.story k).closing = false ∧
        ((s.story k).holder = some st ∨ (st = .system ∧ (s.story k).holder = none))) ∧
  ∀ (s : State) (code : StationCode) (k : StoryId) (pos : Fin 8192) (off : Fin 64) (sz : Size) (data : Data) (f : Bool),
    aligned pos.val sz = true → aligned off.val sz = true → 0x1C ≤ off.val →
    (∀ st, stationOf code = some st → ¬((s.story k).phase = .live ∧ (s.story k).closing = false ∧
      ((s.story k).holder = some st ∨ (st = .system ∧ (s.story k).holder = none)))) →
    (∃ t, exec (.textWrite code k pos sz data f) s = .next t ∧ t.bus = refuseBus ∧ t.mem = s.mem) ∧
    ∃ t, exec (.headerPlainWrite code k off sz data f) s = .next t ∧ t.bus = refuseBus ∧ t.mem = s.mem

/-- Whether a command writes a place of the window it gives by address, or a byte of a story's header. -/
def writesByPlace : Instr → Bool
  | .plainPassThrough _ w _ _ _ _ | .accessOutsideWindow _ w _ _ _ _ => w
  | .liveWordWrite _ _ _ _ _ | .headerPlainWrite _ _ _ _ _ _ => true
  | _ => false

/-- A story's phase changes only by the rows of R3's table, and its revision only with it (R7): creation and purge set it to 0, each
return from FROZEN to LIVE, by REOPEN or by a slot edit, adds one modulo 256, and no other command changes it; here every command but
POWER_ON. A row that names its place writes the word that stands there. -/
def Obligations.PhasesAndRevisionsFollowTheirEvents : Prop :=
  ∀ (c : Instr) (s t : State) (k : StoryId), exec c s = .next t → (∀ strap present, c ≠ .powerOn strap present) →
    ((t.story k).phase = (s.story k).phase ∧ (t.story k).revision = (s.story k).revision) ∨
    ((s.story k).phase = .unused ∧ (t.story k).phase = .live ∧ (t.story k).revision = 0 ∧
      ((∃ code sz, c = .claim code k sz) ∨ (∃ code sz b p, c = .routeToBasket code k sz b p) ∨ writesByPlace c = true)) ∨
    ((s.story k).phase = .live ∧ t.story k = unusedStory ∧ ((∃ code sz, c = .purge code k sz) ∨ writesByPlace c = true)) ∨
    ((s.story k).phase = .live ∧ (t.story k).phase = .frozen ∧ (t.story k).revision = (s.story k).revision ∧
      (c = .ack ∨ c = .wait ∨ ∃ b, c = .incomingByte b) ∧
      ∃ e x, s.dispatch.queue.head? = some e ∧ s.dispatch.engine = .sending x ∧ x.stage = .pageEnd ∧
        k ∈ s.pageStories e.page) ∨
    ((s.story k).phase = .frozen ∧ (t.story k).phase = .live ∧ (t.story k).revision = (s.story k).revision + 1 ∧
      ((∃ code sz, c = .reopen code k sz) ∨ (∃ code p n sz j, c = .place code p n sz j) ∨
        (∃ code p n sz, c = .remove code p n sz) ∨ writesByPlace c = true))

/-- How many notices of kind LINK the outgoing queue holds. -/
def linkNotices (s : State) : Nat := s.stations.outgoing.countP fun o => decide (o.notice.kind = .link)

/-- The LINK notice of R163, with the values of R106. -/
def linkNotice (s : State) (detail : Byte) : Outgoing :=
  { recipient := .system
    notice :=
      { kind := .link, detail := detail, story := none, page := none, slot := none, basket := none, cause := none
        edition := s.pages.edition, prio := .flash, urgent := false, depth := 0, time := s.timebase } }

/-- LINK is raised on entry into UP from TRAINING and on departure from UP, and on no other event (R163). -/
def Obligations.LinkIsRaisedOnTwoEvents : Prop :=
  ∀ (c : Instr) (s t : State), LinkLaw s → exec c s = .next t → (∀ strap present, c ≠ .powerOn strap present) →
    (s.link.state = .training → t.link.state = .up → s.stations.outgoing.length < 256 →
      t.stations.outgoing[s.stations.outgoing.length]? = some (linkNotice s 1)) ∧
    (s.link.state = .up → t.link.state ≠ .up → s.stations.outgoing.length < 256 →
      t.stations.outgoing[s.stations.outgoing.length]? = some (linkNotice s 2)) ∧
    (¬(s.link.state = .training ∧ t.link.state = .up) → ¬(s.link.state = .up ∧ t.link.state ≠ .up) →
      linkNotices t ≤ linkNotices s)

/-- What a pass posts does not depend on how its blocks arrive: completing after one more block is completing before it,
and the run of a whole pass is the breaker's run over the story's 8192 bytes up to the end of text (R70, R89; that the
completion reads every block still to come is assumption 9). -/
def Obligations.PassesReadTheWholeText : Prop :=
  (∀ s t : State, exec .measureTextRead s = .next t →
    exec .measurePassCompletion t = exec .measurePassCompletion s) ∧
  ∀ (s : State) (k : StoryId) (m : Nat),
    s.finishPass { story := k, measure := m, block := 0, breaker := newRun } =
      (readEnd m (readBytes m s.font newRun (s.load (s.textAddr k 0) 8192)).1).1

/-- The set characters of a text, up to its end (R15). -/
def setChars (xs : List Byte) : List Byte := (xs.takeWhile fun b => b != endOfText).filter isSetChar

/-- A whole text read for a send: byte by byte, and then the end of text. -/
def readWhole (m : Nat) (fontAt : FontId → Font) (allowance : Nat) (trim : Option Trim) (xs : List Byte) : Reader :=
  let r := xs.foldl (readSendByte m fontAt allowance)
    { block := 0, breaker := newRun, trim := trim, chars := [], framed := 0, finished := false }
  if r.finished then r else readTextEnd m allowance r

/-- The law of R81: under trim the depth sent is at most the allowance unless one line was sent, and the characters sent are
a prefix of the set characters with at most one added paragraph end; without trim they are all the set characters (R143). -/
def Obligations.TrimSendsAPrefix : Prop :=
  ∀ (m allowance : Nat) (fontAt : FontId → Font) (xs : List Byte),
    (readWhole m fontAt allowance none xs).chars = setChars xs ∧
    (readWhole m fontAt allowance (some newTrim) xs).finished = true ∧
    ∃ t, (readWhole m fontAt allowance (some newTrim) xs).trim = some t ∧
      (t.depth ≤ allowance ∨ t.lines = 1) ∧
      (t.cut = false → (readWhole m fontAt allowance (some newTrim) xs).chars = setChars xs) ∧
      ∃ n, (readWhole m fontAt allowance (some newTrim) xs).chars = (setChars xs).take n ∨
        (readWhole m fontAt allowance (some newTrim) xs).chars = (setChars xs).take n ++ [paragraphEnd]

/-- The check of R82: two sums from 0, modulo 255, over the bytes in order; the check is b then a, each from 0 to 254. That of
the empty sequence is two zero bytes, a byte of 0xFF and a byte of 0x00 leave a and count alike, and the order of the bytes
counts. Every frame sent carries it, every reply is held against it, and the page check runs on from one text frame's payload to
the next. -/
def Obligations.CheckFollowsTheTwoSums : Prop :=
  checkOf [] = [0#8, 0#8] ∧
  (∀ (a b : Nat) (xs : List Byte) (x : Byte),
    checkFrom (a, b) [] = (a, b) ∧
    checkFrom (a, b) (x :: xs) =
      checkFrom ((a + x.toNat) % 255, (b + (a + x.toNat) % 255) % 255) xs) ∧
  (∀ xs : List Byte, ∃ a b, checkFrom (0, 0) xs = (a, b) ∧ a ≤ 254 ∧ b ≤ 254 ∧
    checkOf xs = [BitVec.ofNat 8 b, BitVec.ofNat 8 a]) ∧
  (∀ a b : Nat, a ≤ 254 →
    checkFrom (a, b) [0xFF#8] = (a, (b + a) % 255) ∧ checkFrom (a, b) [0x00#8] = (a, (b + a) % 255)) ∧
  (∀ xs ys : List Byte, checkOf (xs ++ 0xFF#8 :: ys) = checkOf (xs ++ 0x00#8 :: ys)) ∧
  checkOf [1#8, 2#8] ≠ checkOf [2#8, 1#8] ∧
  (∀ t : Transmission, ∃ body, transmissionBytes t = 0xA5#8 :: (body ++ checkOf body)) ∧
  (∀ (xs : List Byte) (f : Incoming), validFrame xs = some f → ∃ body, xs = body ++ checkOf body) ∧
  ∀ (ab : Nat × Nat) (xs ys : List Byte), checkFrom ab (xs ++ ys) = checkFrom (checkFrom ab xs) ys

/-! ## Story text and the other plain words -/

/-- The viewers of a story other than a terminal, in list order. -/
def othersThan (s : State) (k : StoryId) (u : TerminalId) : List Viewer :=
  (s.story k).viewers.filter fun v => decide (v.terminal ≠ u)

/-- TEXT_READ: the bytes are returned, and a view is registered for a signed-on terminal that does not hold the story, which
evicts the fourth other viewer with VIEW-DROPPED (R16, R100, R101); a faulted read is refused and registers nothing. -/
def Obligations.TextReadReturnsTextAndRegistersView : Prop :=
  ∀ (s : State) (code : StationCode) (st : Station) (k : StoryId) (pos : Fin 8192) (sz : Size),
    stationOf code = some st → aligned pos.val sz = true →
    exec (.textRead code k pos sz true) s = .next { s.setLastRefusal st .memoryFault with bus := refuseBus } ∧
    ((∀ u, st = .terminal u →
        (s.story k).phase = .unused ∨ (s.terminal u).signedOn = false ∨ (s.story k).holder = some st) →
      exec (.textRead code k pos sz false) s =
        .next { s with bus := readBus (packBytes (s.load (s.textAddr k pos.val) (sizeBytes sz))) }) ∧
    (∀ u, st = .terminal u → (s.story k).phase ≠ .unused → (s.terminal u).signedOn = true →
      (s.story k).holder ≠ some st →
      ∃ t, exec (.textRead code k pos sz false) s = .next t ∧
        t = { s with bus := t.bus, stories := t.stories, stations := t.stations } ∧
        t.bus = readBus (packBytes (s.load (s.textAddr k pos.val) (sizeBytes sz))) ∧
        t.story k = { s.story k with viewers := { terminal := u, stale := false } :: (othersThan s k u).take 3 } ∧
        SameStoriesBut k s t ∧ SameMemory s t ∧
        ((othersThan s k u).length ≤ 3 → t.stations = s.stations) ∧
        (∀ v, (othersThan s k u).drop 3 = [v] → (s.terminal v.terminal).signedOn = true →
          s.stations.outgoing.length < 256 →
          t.stations = { s.stations with
            outgoing := s.stations.outgoing ++
              [{ recipient := .terminal v.terminal
                 notice := { s.storyNotice .viewDropped 1 k with cause := some st } }] }))

/-- Whether a station may write a story's text and header (R35). -/
abbrev admits (s : State) (st : Station) (k : StoryId) : Prop :=
  s.signedOn st = true ∧ (s.story k).phase = .live ∧ (s.story k).closing = false ∧
    ((s.story k).holder = some st ∨ (st = .system ∧ (s.story k).holder = none))

/-- The VALID viewers of a story, in list order. -/
def validViewers (s : State) (k : StoryId) : List Viewer := (s.story k).viewers.filter fun v => !v.stale

/-- TEXT_WRITE admitted: the bytes reach memory, the depth record is staled by the table of R86, and every VALID viewer
becomes STALE and receives CHANGED (R37, R102); a memory fault changes the answer, the last-refusal word and the bytes left, which are
free values (assumption 3), and nothing else. -/
def Obligations.TextWriteStoresAndStales : Prop :=
  ∀ (s : State) (code : StationCode) (st : Station) (k : StoryId) (pos : Fin 8192) (sz : Size) (data : Data),
    stationOf code = some st → aligned pos.val sz = true → admits s st k → (s.story k).depth.status ≠ .none →
    (∀ v ∈ validViewers s k, (s.terminal v.terminal).signedOn = true) →
    s.stations.outgoing.length + (validViewers s k).length ≤ 256 →
    ∃ t u, exec (.textWrite code k pos sz data false) s = .next t ∧
      exec (.textWrite code k pos sz data true) s = .next u ∧
      t = { s with
        bus := doneBus, mem := t.mem, stories := t.stories, measure := t.measure
        stations := { s.stations with
          outgoing := s.stations.outgoing ++ (validViewers s k).map fun v =>
            { recipient := .terminal v.terminal
              notice := { s.storyNotice .changed 0 k with cause := some st } } } } ∧
      (∀ i, i < sizeBytes sz → t.memByte (s.textAddr k pos.val + i) = data.extractLsb' (8 * i) 8) ∧
      SameMemoryBut (s.textAddr k pos.val) (sizeBytes sz) s t ∧
      t.story k = { s.story k with
        viewers := (s.story k).viewers.map fun v => { v with stale := true }
        depth := { (s.story k).depth with status := .stale } } ∧
      SameStoriesBut k s t ∧
      ((s.story k).depth.status = .stale → t.measure = s.measure) ∧
      ((s.story k).depth.status = .fresh ∨ (s.story k).depth.status = .faulted →
        t.measure = { s.measure with queue := s.measure.queue ++ [k] }) ∧
      ((s.story k).depth.status = .measuring → s.inPass k = true →
        t.measure = { s.measure with
          queue := s.measure.queue ++ [k]
          engine := if s.measure.fontWait then .held else .idle
          fontWaitTimer := if s.measure.fontWait then some 5 else s.measure.fontWaitTimer }) ∧
      u = { t.setLastRefusal st .memoryFault with bus := refuseBus, mem := u.mem, free := u.free } ∧
      SameMemoryBut (s.textAddr k pos.val) (sizeBytes sz) s u

/-- A command is refused for the reason of the first condition of its table that holds, `.none` where none does: the writer's
last-refusal word takes it and nothing else changes (R170). -/
def refusedFor (c : Instr) (s : State) (st : Station) (r : Reason) : Prop :=
  r ≠ .none → exec c s = .next { s.setLastRefusal st r with bus := refuseBus }

/-- The tests of a word that asks for sign-on, before those of its own. -/
def afterSignOn (s : State) (st : Station) (sz : Size) (own : Reason) : Reason :=
  if sz ≠ .word then .badSize else if s.signedOn st = false then .notSignedOn else own

/-- The tests of a word that the system station alone writes, before those of its own. -/
def afterSystem (st : Station) (sz : Size) (own : Reason) : Reason :=
  if sz ≠ .word then .badSize else if st ≠ .system then .noRight else own

/-- A value written to the live word at an offset of the window, whole, is refused for a reason. That a value no other row carries
comes by LIVE_WORD_WRITE is the model's choice (assumption 10). -/
def valueRefused (s : State) (code : StationCode) (st : Station) (off : Nat) (v : Word) (r : Reason) : Prop :=
  ∀ flt : Bool, refusedFor (.liveWordWrite code (windowAddr s off) .word (v.setWidth 128) flt) s st r

/-- TEXT_WRITE and HEADER_PLAIN_WRITE are tested in the order of R36, and the first condition met refuses the write, no byte
of which reaches memory. -/
def Parts.WriteAdmissionRefusesInOrder : Prop :=
  ∀ (s : State) (code : StationCode) (st : Station) (k : StoryId) (pos : Fin 8192) (off : Fin 64) (sz : Size)
    (data : Data) (f : Bool) (r : Reason),
    stationOf code = some st → aligned pos.val sz = true → aligned off.val sz = true → 0x1C ≤ off.val →
    r = (if s.signedOn st = false then .notSignedOn
      else if (s.story k).phase = .unused then .badState
      else if (s.story k).phase = .frozen then .frozen
      else if (s.story k).closing = true then .closing
      else if (s.story k).holder = none ∧ st ≠ .system then .notHolder
      else if (s.story k).holder ≠ none ∧ (s.story k).holder ≠ some st then .heldByOther
      else .none) → r ≠ .none →
    exec (.textWrite code k pos sz data f) s = .next { s.setLastRefusal st r with bus := refuseBus } ∧
    exec (.headerPlainWrite code k off sz data f) s = .next { s.setLastRefusal st r with bus := refuseBus }

/-- HEADER_PLAIN_WRITE admitted (R17, R37), RING_SLOT_WRITE that passes its tests (R112), PLAIN_PASS_THROUGH on an untested
plain word (R168) and ACCESS_OUTSIDE_WINDOW (R165): the bytes written reach memory at the address named and nothing else
changes; a ring slot being written at that moment notes the bytes (assumption 4). -/
def Parts.PlainWritesReachMemory : Prop :=
  ∀ (s : State) (code : StationCode) (st : Station) (sz : Size) (data : Data),
    (∀ (k : StoryId) (off : Fin 64), stationOf code = some st → aligned off.val sz = true → 0x1C ≤ off.val →
      admits s st k →
      ∃ t, exec (.headerPlainWrite code k off sz data false) s = .next t ∧ t = { s with bus := doneBus, mem := t.mem } ∧
        (∀ i, i < sizeBytes sz → t.memByte (s.headerAddr k off.val + i) = data.extractLsb' (8 * i) 8) ∧
        SameMemoryBut (s.headerAddr k off.val) (sizeBytes sz) s t) ∧
    (∀ (owner : Station) (off : Fin 512), stationOf code = some st → aligned off.val sz = true →
      s.signedOn st = true → (st = .system ∨ st = owner) →
      ∃ t, exec (.ringSlotWrite code owner off sz data false) s = .next t ∧
        t = { s with
          bus := doneBus, mem := t.mem
          stations := { s.stations with
            ringWrite := s.stations.ringWrite.map fun w =>
              if w.recipient = owner ∧ off.val / 16 = w.slot then
                { w with contested := w.contested ++ (List.range (sizeBytes sz)).map fun i => off.val % 16 + i }
              else w } } ∧
        (∀ i, i < sizeBytes sz → t.memByte (s.ringAddr owner off.val + i) = data.extractLsb' (8 * i) 8) ∧
        SameMemoryBut (s.ringAddr owner off.val) (sizeBytes sz) s t) ∧
    (∀ addr : Word, stationOf code = some st → aligned addr.toNat sz = true → s.inWindow addr.toNat = true →
      placeOf (addr.toNat - s.base) = .plain → touchesLive (addr.toNat - s.base) sz = false →
      ∃ t, exec (.plainPassThrough code true addr sz data false) s = .next t ∧ t = { s with bus := doneBus, mem := t.mem } ∧
        (∀ i, i < sizeBytes sz → t.memByte (addr.toNat + i) = data.extractLsb' (8 * i) 8) ∧
        SameMemoryBut addr.toNat (sizeBytes sz) s t) ∧
    (∀ addr : Word, aligned addr.toNat sz = true → s.inWindow addr.toNat = false →
      ∃ t, exec (.accessOutsideWindow code true addr sz data false) s = .next t ∧ t = { s with bus := doneBus, mem := t.mem } ∧
        (∀ i, i < sizeBytes sz → t.memByte (addr.toNat + i) = data.extractLsb' (8 * i) 8) ∧
        SameMemoryBut addr.toNat (sizeBytes sz) s t)

/-- Reads of plain bytes return what memory holds and change nothing: PLAIN_PASS_THROUGH inside the window outside the text
area while no ring write is in flight (R168), and ACCESS_OUTSIDE_WINDOW (R165), where a fault is recorded nowhere. -/
def Parts.PlainReadsReturnMemory : Prop :=
  ∀ (s : State) (code : StationCode) (addr : Word) (sz : Size) (data : Data), aligned addr.toNat sz = true →
    (∀ st, stationOf code = some st → s.inWindow addr.toNat = true → 0x1000000 ≤ addr.toNat - s.base →
      touchesLive (addr.toNat - s.base) sz = false → s.stations.ringWrite = none →
      exec (.plainPassThrough code false addr sz data false) s =
        .next { s with bus := readBus (packBytes (s.load addr.toNat (sizeBytes sz))) } ∧
      exec (.plainPassThrough code false addr sz data true) s =
        .next { s.setLastRefusal st .memoryFault with bus := refuseBus }) ∧
    (s.inWindow addr.toNat = false →
      exec (.accessOutsideWindow code false addr sz data false) s =
        .next { s with bus := readBus (packBytes (s.load addr.toNat (sizeBytes sz))) } ∧
      exec (.accessOutsideWindow code false addr sz data true) s = .next { s with bus := refuseBus })

/-- Plain words pass through to memory, for writes and for reads (R17, R112, R165, R168). -/
def Obligations.PlainWordsPassThrough : Prop := Parts.PlainWritesReachMemory ∧ Parts.PlainReadsReturnMemory

/-! ## Holds -/

/-- The PAGE-BEGIN frame of a page (R142): its number, the edition stamp, its geometry and how many slots are occupied. -/
def beginFrame (s : State) (e : Queued) : Frame :=
  .pageBegin e.page e.stamp (s.page e.page).width (s.page e.page).gutter (s.page e.page).depth
    (occupied (s.page e.page)).length

/-- The PAGE-FAILED notice of a failure that names no slot (R146). -/
def failedOutgoing (s : State) (e : Queued) (detail : Byte) (cause : Option Station) : Outgoing :=
  { recipient := .system
    notice := { s.plainNotice .pageFailed detail with page := some e.page, cause := cause, edition := e.stamp } }

/-- The PAGE-FAILED notice of a failure at a slot and its story (R146). -/
def failedAt (s : State) (e : Queued) (c : Cause) (n : SlotId) (k : StoryId) : Outgoing :=
  { recipient := .system
    notice := { s.storyNotice .pageFailed (BitVec.ofNat 8 (causeCode c)) k with
      page := some e.page, slot := some n, cause := none, edition := e.stamp } }

/-- The dispatch of the head page, WAITING or SENDING, has failed with a cause: the page is at rest, FAILED, its stories are no
longer closing, and PAGE-FAILED is raised (R146). What the dispatch unit and the link then hold is said where this is used. -/
def headFails (e : Queued) (r : Resting) (c : Cause) (o : Outgoing) (s t : State) : Prop :=
  t = { s with
    stories := t.stories, pages := { s.pages with pages := t.pages.pages }, dispatch := t.dispatch, link := t.link
    stations := { s.stations with outgoing := s.stations.outgoing ++ [o] } } ∧
  t.page e.page = { s.page e.page with state := .resting r, lastResult := .failed c } ∧ SamePagesBut e.page s t ∧
  (∀ k, t.story k = { s.story k with closing := (s.story k).closing && decide (k ∉ s.pageStories e.page) }) ∧ SameMemory s t

/-- The WAITING head page, the only one queued, has failed: the queue is empty, the engine IDLE and the hold-wait timer stopped
(R140, R146). -/
def waitingFails (e : Queued) (r : Resting) (c : Cause) (o : Outgoing) (s t : State) : Prop :=
  headFails e r c o s t ∧ t.link = s.link ∧
  t.dispatch = { s.dispatch with
    queue := [], engine := .idle, holdWaitTimer := none, wanted := Vector.replicate 12 none }

/-- The WAITING head page has entered SENDING: the hold-wait timer is stopped, the send stands at its first occupied slot with both
sums 0, and PAGE-BEGIN is the outstanding frame, going out unless the WAIT hold is set (R142, R159, R160). -/
def sendStarts (e : Queued) (r : Resting) (s t : State) : Prop :=
  t = { s with
    pages := { s.pages with pages := t.pages.pages }, dispatch := t.dispatch
    link := { s.link with
      outstanding := some { frame := beginFrame s e, tries := 1 }
      transmitter := s.link.transmitter ++ if s.link.waitHold then [] else [.attempt (beginFrame s e) true] } } ∧
  t.page e.page = { s.page e.page with state := .sending r } ∧ SamePagesBut e.page s t ∧
  ∃ n sl, s.slotOf e.page n = some sl ∧ (∀ m, m < n → s.slotOf e.page m = none) ∧
    t.dispatch = { s.dispatch with
      engine := .sending { slot := n, stage := .pageBegin, reader := s.newReader sl, a := 0, b := 0 }
      holdWaitTimer := none }

/-- Whether a slot's story fails a WAITING page, and the cause (R138). -/
def slotFails (s : State) (sl : Slot) (c : Cause) : Prop :=
  let d := (s.story sl.story).depth
  (d.status = .faulted ∧ c = .fault) ∨ (d.status = .fresh ∧ d.fonts &&& ~~~ s.link.mask ≠ 0 ∧ c = .font) ∨
  (d.status = .fresh ∧ d.fonts &&& ~~~ s.link.mask = 0 ∧ sl.policy = .hold ∧ d.overset = true ∧ c = .overset)

/-- Whether a slot's story makes a WAITING page wait (R138). -/
def slotStalls (s : State) (sl : Slot) : Prop :=
  (s.story sl.story).holder ≠ none ∨ (s.story sl.story).depth.status = .stale ∨
    (s.story sl.story).depth.status = .measuring

/-- What the evaluation of the WAITING head page leaves of a state (R138): the lowest failing slot fails it, here as the only page
queued; with no slot failing it waits while some slot waits, and is sent otherwise. -/
def evaluated (e : Queued) (r : Resting) (s t : State) : Prop :=
  (∀ n sl c, s.slotOf e.page n = some sl → slotFails s sl c →
    (∀ m sm d, m < n → s.slotOf e.page m = some sm → ¬ slotFails s sm d) →
    s.dispatch.queue = [e] → s.dispatch.engine = .waiting → s.stations.outgoing.length < 256 →
      waitingFails e r c (failedAt s e c n sl.story) s t) ∧
  ((∀ n sl c, s.slotOf e.page n = some sl → ¬ slotFails s sl c) →
    ((∃ n sl, s.slotOf e.page n = some sl ∧ slotStalls s sl) → t = s) ∧
    ((∀ n sl, s.slotOf e.page n = some sl → ¬ slotStalls s sl) → s.pageStories e.page ≠ [] → sendStarts e r s t))

/-- An event of a story has been handed to the dispatch engine: the WAITING head page is evaluated when the story is closing, and
nothing happens otherwise (R29, R139). -/
def handed (k : StoryId) (s t : State) : Prop :=
  ((s.story k).closing = false ∨ s.waitingHead = none → t = s) ∧
  ∀ e r, (s.story k).closing = true → s.waitingHead = some e → (s.page e.page).state = .waiting r → evaluated e r s t

/-- Whether a station meets the basket-right test of a claim or a route (R24, R52). -/
abbrev hasBasketRight (s : State) (st : Station) (k : StoryId) : Prop :=
  ∀ u b, st = .terminal u → (s.story k).basket = some b → (s.basket b).watchers.getLsbD u.val = true

/-- Terminal hold counts after a station's own count has moved: the other terminals' records are the same (R23). -/
def holdMoved (st : Station) (f : Nat → Nat) (s t : State) : Prop :=
  ∀ u, t.terminal u =
    if st = .terminal u then { s.terminal u with holdCount := f (s.terminal u).holdCount } else s.terminal u

/-- CLAIM: a granted claim makes the writer the holder, moves its hold count and drops it from the viewer list (R24, R25); a
claim of an UNUSED story creates it, held and STALE (R11); a claim by the holder is DONE with no change (R24). -/
def Obligations.ClaimGrantsOrCreates : Prop :=
  ∀ (s : State) (code : StationCode) (st : Station) (k : StoryId),
    stationOf code = some st → s.signedOn st = true →
    ((s.story k).phase = .live → (s.story k).closing = false → (s.story k).holder = some st →
      exec (.claim code k .word) s = .next { s with bus := doneBus }) ∧
    ((∀ u, st = .terminal u → (s.terminal u).holdCount < 16) →
      ((s.story k).phase = .live → (s.story k).closing = false → (s.story k).holder = none → hasBasketRight s st k →
        ∃ t, exec (.claim code k .word) s = .next t ∧
          t = { s with bus := doneBus, stories := t.stories
                       stations := { s.stations with terminals := t.stations.terminals } } ∧
          t.story k = { s.story k with
            holder := some st
            viewers := (s.story k).viewers.filter fun v => decide (Station.terminal v.terminal ≠ st) } ∧
          SameStoriesBut k s t ∧ holdMoved st (· + 1) s t ∧ SameMemory s t) ∧
      ((s.story k).phase = .unused →
        ∃ t, exec (.claim code k .word) s = .next t ∧
          t = { s with bus := doneBus, stories := t.stories
                       measure := { s.measure with queue := s.measure.queue ++ [k] }
                       stations := { s.stations with terminals := t.stations.terminals } } ∧
          t.story k =
            { phase := .live, closing := false, holder := some st, basket := none, prio := .flash, placement := none
              revision := 0, viewers := [], depth := { noDepth with status := .stale } } ∧
          SameStoriesBut k s t ∧ holdMoved st (· + 1) s t ∧ SameMemory s t))

/-- RING_SLOT_WRITE is refused to a terminal not signed on, and to a terminal other than the ring's own (R112). -/
def Parts.RingSlotWritesRefuseInOrder : Prop :=
  ∀ (s : State) (code : StationCode) (st owner : Station) (off : Fin 512) (sz : Size) (data : Data) (flt : Bool),
    stationOf code = some st → aligned off.val sz = true →
    refusedFor (.ringSlotWrite code owner off sz data flt) s st
      (if s.signedOn st = false then .notSignedOn
      else if st ≠ .system ∧ st ≠ owner then .noRight
      else .none)

/-- The tests of a claim after those of R22: of an UNUSED story by R11, and of another by R24. -/
def claimReason (s : State) (st : Station) (k : StoryId) : Reason :=
  if (s.story k).phase = .unused then if s.atHoldLimit st = true then .holdLimit else .none
  else if (s.story k).phase = .frozen then .frozen
  else if (s.story k).closing = true then .closing
  else if (s.story k).holder = some st then .none
  else if (s.story k).holder ≠ none then .heldByOther
  else if s.atHoldLimit st = true then .holdLimit
  else if s.lacksBasketRight st k = true then .noRight
  else .none

/-- CLAIM, RELEASE and BREAK, and any other value written to HOLD, are refused on the first condition of R22 and of the request's own
table that holds (R11, R24, R29, R31). -/
def Parts.HoldWritesRefuseInOrder : Prop :=
  ∀ (s : State) (code : StationCode) (st : Station) (k : StoryId) (sz : Size), stationOf code = some st →
    refusedFor (.claim code k sz) s st (afterSignOn s st sz (claimReason s st k)) ∧
    refusedFor (.release code k sz) s st
      (afterSignOn s st sz (if (s.story k).holder ≠ some st then .notHolder else .none)) ∧
    refusedFor (.breakHold code k sz) s st (afterSignOn s st sz (if st ≠ .system then .noRight else .none)) ∧
    ∀ v : Word, v.toNat ≠ code.toNat → v ≠ 0xFF#32 → v ≠ 0xFE#32 →
      valueRefused s code st (0x1000000 + 64 * k.val) v (afterSignOn s st .word .badValue)

/-- REOPEN, and any other value written to STATE, are refused on the first condition of R18 that holds. -/
def Parts.ReopenRefusesInOrder : Prop :=
  ∀ (s : State) (code : StationCode) (st : Station) (k : StoryId) (sz : Size), stationOf code = some st →
    refusedFor (.reopen code k sz) s st
      (afterSystem st sz (if (s.story k).phase = .unused then .badState
        else if (s.story k).closing = true then .closing else .none)) ∧
    ∀ v : Word, v ≠ 1#32 → valueRefused s code st (0x1000008 + 64 * k.val) v (afterSystem st .word .badValue)

/-- The tests of the writer's right to route, before the test for room (R52). -/
def afterRouteRight (s : State) (st : Station) (k : StoryId) (own : Reason) : Reason :=
  if st ≠ .system ∧ (s.story k).holder ≠ none ∧ (s.story k).holder ≠ some st then .heldByOther
  else if (s.story k).holder = none ∧ s.lacksBasketRight st k = true then .noRight
  else own

/-- The tests of a purge after sign-on (R12). -/
def purgeReason (s : State) (st : Station) (k : StoryId) : Reason :=
  if (s.story k).phase = .unused then .badState
  else if (s.story k).phase = .frozen then .frozen
  else if (s.story k).closing = true then .closing
  else if st ≠ .system ∧ (s.story k).holder ≠ none ∧ (s.story k).holder ≠ some st then .heldByOther
  else if st ≠ .system ∧ (s.story k).holder = none then .notHolder
  else if (s.story k).placement ≠ none then .badState
  else .none

/-- ROUTE_TO_BASKET, ROUTE_TO_NONE and PURGE, and a value whose basket part is none of 0 to 31, NONE and PURGE, are refused on the first
condition of R51 and of the request's own table that holds (R10, R12, R52). -/
def Parts.RouteWritesRefuseInOrder : Prop :=
  ∀ (s : State) (code : StationCode) (st : Station) (k : StoryId) (sz : Size), stationOf code = some st →
    (∀ (b : BasketId) (p : Priority),
      refusedFor (.routeToBasket code k sz b p) s st
        (afterSignOn s st sz
          (if (s.story k).phase = .unused then if (s.basket b).limit ≤ (s.basket b).list.length then .basketFull else .none
          else afterRouteRight s st k
            (if (s.story k).basket ≠ some b ∧ (s.basket b).limit ≤ (s.basket b).list.length then .basketFull
            else .none)))) ∧
    refusedFor (.routeToNone code k sz) s st
      (afterSignOn s st sz (if (s.story k).phase = .unused then .badState else afterRouteRight s st k .none)) ∧
    refusedFor (.purge code k sz) s st (afterSignOn s st sz (purgeReason s st k)) ∧
    ∀ v : Word, 32 ≤ (v.extractLsb' 0 8).toNat → v.extractLsb' 0 8 ≠ 0xFF#8 → v.extractLsb' 0 8 ≠ 0xFE#8 →
      valueRefused s code st (0x1000004 + 64 * k.val) v (afterSignOn s st .word .badValue)

/-- Writes of text and header (R36), of ring slots (R112), of HOLD (R11, R22, R24, R29, R31), of STATE (R18) and of ROUTE (R10, R12,
R51, R52) are refused on the first condition of their tables that holds (values by LIVE_WORD_WRITE: assumption 10). -/
def Obligations.RefusalsFollowTheirOrder : Prop :=
  Parts.WriteAdmissionRefusesInOrder ∧ Parts.RingSlotWritesRefuseInOrder ∧ Parts.HoldWritesRefuseInOrder ∧
  Parts.ReopenRefusesInOrder ∧ Parts.RouteWritesRefuseInOrder

/-- RELEASE by the holder and BREAK by the system station end the hold, BREAK with HOLD-BROKEN to the old holder, and hand the event
to the dispatch engine, which evaluates a page that is WAITING for the story (R29, R31, R138, R139). A RELEASE by another station is
refused, and a BREAK of a story nobody holds is DONE with no change. -/
def Obligations.ReleaseAndBreakEndTheHold : Prop :=
  ∀ (s : State) (k : StoryId),
    (∀ (code : StationCode) (st : Station), stationOf code = some st → s.signedOn st = true →
      ((s.story k).holder = some st →
        ∃ t u, exec (.release code k .word) s = .next t ∧ handed k u t ∧
          u = { s with bus := doneBus, stories := u.stories
                       stations := { s.stations with terminals := u.stations.terminals } } ∧
          u.story k = { s.story k with holder := none } ∧
          SameStoriesBut k s u ∧ holdMoved st (· - 1) s u ∧ SameMemory s u) ∧
      ((s.story k).holder ≠ some st →
        exec (.release code k .word) s = .next { s.setLastRefusal st .notHolder with bus := refuseBus })) ∧
    ((s.story k).holder = none → exec (.breakHold 127#7 k .word) s = .next { s with bus := doneBus }) ∧
    (∀ old, (s.story k).holder = some old → s.signedOn old = true → s.stations.outgoing.length < 256 →
      ∃ t u, exec (.breakHold 127#7 k .word) s = .next t ∧ handed k u t ∧
        u = { s with bus := doneBus, stories := u.stories
                     stations := { s.stations with
                       terminals := u.stations.terminals
                       outgoing := s.stations.outgoing ++
                         [{ recipient := old
                            notice := { s.storyNotice .holdBroken 0 k with cause := some .system } }] } } ∧
        u.story k = { s.story k with holder := none } ∧
        SameStoriesBut k s u ∧ holdMoved old (· - 1) s u ∧ SameMemory s u)

/-- The release of the last hold on a WAITING page whose other stories are ready sends the page: it enters SENDING in the
same taking, the hold-wait timer stops, and PAGE-BEGIN becomes the outstanding frame (R29, R138, R142, R159). -/
def Parts.LastReleaseStartsTheSend : Prop :=
  ∀ (s : State) (code : StationCode) (st : Station) (k : StoryId) (e : Queued) (r : Resting),
    stationOf code = some st → s.signedOn st = true → s.waitingHead = some e →
    (s.page e.page).state = .waiting r → (s.story k).closing = true → (s.story k).holder = some st →
    s.pageStories e.page ≠ [] →
    (∀ n sl, s.slotOf e.page n = some sl →
      (sl.story = k ∨ (s.story sl.story).holder = none) ∧ (s.story sl.story).depth.status = .fresh ∧
      (s.story sl.story).depth.fonts &&& ~~~ s.link.mask = 0 ∧
      (sl.policy = .trim ∨ (s.story sl.story).depth.overset = false)) →
    ∃ t, exec (.release code k .word) s = .next t ∧
      t = { s with
        bus := doneBus, stories := t.stories, pages := { s.pages with pages := t.pages.pages }
        dispatch := t.dispatch, link := t.link
        stations := { s.stations with terminals := t.stations.terminals } } ∧
      holdMoved st (· - 1) s t ∧ t.page e.page = { s.page e.page with state := .sending r } ∧ SamePagesBut e.page s t ∧
      (∃ x, t.dispatch = { s.dispatch with engine := .sending x, holdWaitTimer := none } ∧
        x.a = 0 ∧ x.b = 0 ∧ (occupied (s.page e.page)).head?.map Prod.fst = some x.slot) ∧
      t.link = { s.link with
        outstanding := some { frame := beginFrame s e, tries := 1 }
        transmitter := s.link.transmitter ++
          if s.link.waitHold then [] else [.attempt (beginFrame s e) true] } ∧
      t.story k = { s.story k with holder := none } ∧ SameStoriesBut k s t ∧ SameMemory s t

/-- REOPEN by the system station: a FROZEN story that is not closing becomes LIVE with its revision one higher, and its page
leaves SENT for CHANGED with PAGE-CHANGED, or has its remembered SENT become CHANGED (R41, R42). -/
def Obligations.ReopenReturnsTheStory : Prop :=
  ∀ (s : State) (k : StoryId) (p : PageId) (n : SlotId), (s.story k).closing = false →
    ((s.story k).phase = .live → exec (.reopen 127#7 k .word) s = .next { s with bus := doneBus }) ∧
    ((s.story k).phase = .unused →
      exec (.reopen 127#7 k .word) s = .next { s.setLastRefusal .system .badState with bus := refuseBus }) ∧
    ((s.story k).phase = .frozen → (s.story k).placement = some (p, n) →
      ∃ t, exec (.reopen 127#7 k .word) s = .next t ∧ t.bus = doneBus ∧
        t.story k = { s.story k with phase := .live, revision := (s.story k).revision + 1 } ∧
        SameStoriesBut k s t ∧ SameMemory s t ∧ SamePagesBut p s t ∧
        t = { s with bus := t.bus, stories := t.stories, pages := { s.pages with pages := t.pages.pages }
                     stations := t.stations } ∧
        ((s.page p).state = .resting .sent → s.stations.outgoing.length < 256 →
          t.page p = { s.page p with state := .resting .changed } ∧
          t.stations = { s.stations with
            outgoing := s.stations.outgoing ++
              [{ recipient := .system
                 notice := { s.storyNotice .pageChanged 0 k with
                   page := some p, slot := some n, cause := some .system } }] }) ∧
        ((s.page p).state = .queued .sent →
          t.page p = { s.page p with state := .queued .changed } ∧ t.stations = s.stations) ∧
        ((s.page p).state = .resting .changed ∨ (s.page p).state = .queued .changed →
          t.page p = s.page p ∧ t.stations = s.stations))

/-! ## Baskets -/

/-- A list with a story joined to the tail of its class (R45). -/
def joined (k : StoryId) (p : Priority) (l : List Filed) : List Filed :=
  (l.takeWhile fun x => decide (prioCode x.prio ≤ prioCode p)) ++
    { story := k, prio := p } :: l.dropWhile fun x => decide (prioCode x.prio ≤ prioCode p)

/-- A list without a story. -/
def without (k : StoryId) (l : List Filed) : List Filed := l.filter fun x => decide (x.story ≠ k)

/-- Whether a station may route a LIVE or FROZEN story: its holder, the system station, or a watcher of the basket of a story nobody
holds (R52). -/
abbrev mayRoute (s : State) (st : Station) (k : StoryId) : Prop :=
  (s.story k).holder = some st ∨ (st = .system ∧ (s.story k).holder ≠ none) ∨
    ((s.story k).holder = none ∧ hasBasketRight s st k)

/-- The ARRIVAL notices of a basket: one for each signed-on watcher but the writer, by increasing station code (R59). -/
def arrivals (s : State) (b : BasketId) (writer : Station) (n : Notice) : List Outgoing :=
  ((List.finRange 120).filter fun u =>
    (s.basket b).watchers.getLsbD u.val && decide (Station.terminal u ≠ writer) && (s.terminal u).signedOn).map fun u =>
      { recipient := .terminal u, notice := n }

/-- The ARRIVAL of a story that moves into a basket (R59). -/
def arrivalNotice (s : State) (k : StoryId) (b : BasketId) (p : Priority) (writer : Station) : Notice :=
  { s.storyNotice .arrival (((s.story k).basket.map fun c => BitVec.ofNat 8 c.val).getD 0xFF#8) k with
    basket := some b, prio := p, cause := some writer, urgent := decide (p = .flash) }

/-- What a route that has been taken leaves but for the baskets, before any evaluation: the story's entry with its new filing, its
hold ended when the writer held it, and the notices raised (R53, R58). -/
def routed (k : StoryId) (st : Station) (filing : Story → Story) (notices : List Outgoing) (s t : State) : Prop :=
  t = { s with
    bus := doneBus, stories := t.stories, baskets := t.baskets
    stations := { s.stations with
      terminals := t.stations.terminals, outgoing := s.stations.outgoing ++ notices } } ∧
  t.story k = { filing (s.story k) with
    holder := if (s.story k).holder = some st then none else (s.story k).holder } ∧
  SameStoriesBut k s t ∧ SameMemory s t ∧
  if (s.story k).holder = some st then holdMoved st (· - 1) s t else ∀ u, t.terminal u = s.terminal u

/-- A route by the holder hands the release to the dispatch engine, and another route hands over nothing (R58). -/
def routeHanded (k : StoryId) (st : Station) (held : Option Station) (s t : State) : Prop :=
  (held ≠ some st → t = s) ∧ (held = some st → handed k s t)

/-- ROUTE_TO_BASKET of an UNUSED story creates it in the basket and tells the watchers; a full basket refuses it (R10, R59). -/
def Parts.RouteCreatesTheStory : Prop :=
  ∀ (s : State) (code : StationCode) (st : Station) (k : StoryId) (b : BasketId) (p : Priority),
    stationOf code = some st → s.signedOn st = true → (s.story k).phase = .unused →
    s.stations.outgoing.length + 120 ≤ 256 →
    ((s.basket b).list.length < (s.basket b).limit →
      ∃ t, exec (.routeToBasket code k .word b p) s = .next t ∧
        t = { s with
          bus := doneBus, stories := t.stories, baskets := t.baskets
          measure := { s.measure with queue := s.measure.queue ++ [k] }
          stations := { s.stations with
            outgoing := s.stations.outgoing ++ arrivals s b st
              { s.plainNotice .arrival 0xFF#8 with
                story := some k, basket := some b, prio := p, cause := some st, urgent := decide (p = .flash) } } } ∧
        t.story k =
          { phase := .live, closing := false, holder := none, basket := some b, prio := p, placement := none
            revision := 0, viewers := [], depth := { noDepth with status := .stale } } ∧
        t.basket b = { s.basket b with list := joined k p (s.basket b).list } ∧
        SameStoriesBut k s t ∧ SameBasketsBut b s t ∧ SameMemory s t) ∧
    ((s.basket b).limit ≤ (s.basket b).list.length →
      exec (.routeToBasket code k .word b p) s = .next { s.setLastRefusal st .basketFull with bus := refuseBus })

/-- ROUTE_TO_BASKET of a story that is not UNUSED, by a station that may: it leaves the story in place, changes its class, or moves
it and tells the watchers of the new basket but the writer; the writer's own hold ends and another's is kept (R53 to R56, R58, R59). -/
def Parts.RouteFilesTheStory : Prop :=
  ∀ (s : State) (code : StationCode) (st : Station) (k : StoryId) (b : BasketId) (p : Priority),
    stationOf code = some st → s.signedOn st = true → (s.story k).phase ≠ .unused → mayRoute s st k →
    s.stations.outgoing.length + 120 ≤ 256 →
    ((s.story k).basket = some b → (s.story k).prio = p →
      ∃ t u, exec (.routeToBasket code k .word b p) s = .next t ∧ routeHanded k st (s.story k).holder u t ∧
        routed k st id [] s u ∧ ∀ c, u.basket c = s.basket c) ∧
    ((s.story k).basket = some b → (s.story k).prio ≠ p →
      ∃ t u, exec (.routeToBasket code k .word b p) s = .next t ∧ routeHanded k st (s.story k).holder u t ∧
        routed k st (fun v => { v with prio := p }) [] s u ∧
        u.basket b = { s.basket b with list := joined k p (without k (s.basket b).list) } ∧ SameBasketsBut b s u) ∧
    ((s.story k).basket ≠ some b → (s.basket b).list.length < (s.basket b).limit →
      ∃ t u, exec (.routeToBasket code k .word b p) s = .next t ∧ routeHanded k st (s.story k).holder u t ∧
        routed k st (fun v => { v with basket := some b, prio := p }) (arrivals s b st (arrivalNotice s k b p st)) s u ∧
        u.basket b = { s.basket b with list := joined k p (s.basket b).list } ∧
        ∀ c, c ≠ b → u.basket c =
          if (s.story k).basket = some c then { s.basket c with list := without k (s.basket c).list }
          else s.basket c) ∧
    ((s.story k).basket ≠ some b → (s.basket b).limit ≤ (s.basket b).list.length →
      exec (.routeToBasket code k .word b p) s = .next { s.setLastRefusal st .basketFull with bus := refuseBus })

/-- A route to a basket creates or files the story, ends the writer's hold and tells the watchers (R10, R52 to R56, R58, R59). -/
def Obligations.RouteToBasketFilesAndTells : Prop := Parts.RouteCreatesTheStory ∧ Parts.RouteFilesTheStory

/-- ROUTE_TO_NONE by a station that may takes the story out of its basket, ends the writer's hold and hands the release to the
dispatch engine (R52, R57, R58). PURGE of an unplaced story by its holder, or by the system station whoever holds it, returns it to
UNUSED: it leaves the measure queue or its pass is abandoned, it leaves its basket, the old holder's count falls, and its viewers are
told (R12, R13, R95). -/
def Obligations.RouteToNoneAndPurgeUnfile : Prop :=
  ∀ (s : State) (code : StationCode) (st : Station) (k : StoryId),
    stationOf code = some st → s.signedOn st = true →
    ((s.story k).phase ≠ .unused → mayRoute s st k →
      ∃ t u, exec (.routeToNone code k .word) s = .next t ∧ routeHanded k st (s.story k).holder u t ∧
        routed k st (fun v => { v with basket := none }) [] s u ∧
        ∀ b, u.basket b =
          if (s.story k).basket = some b then { s.basket b with list := without k (s.basket b).list }
          else s.basket b) ∧
    ((s.story k).phase = .live → (s.story k).closing = false → (s.story k).placement = none →
      ((s.story k).holder = some st ∨ st = .system) →
      (∀ v ∈ (s.story k).viewers, (s.terminal v.terminal).signedOn = true) →
      s.stations.outgoing.length + (s.story k).viewers.length ≤ 256 →
      ∃ t, exec (.purge code k .word) s = .next t ∧
        t = { s with
          bus := doneBus, stories := t.stories, baskets := t.baskets
          measure := { s.measure with
            queue := s.measure.queue.filter fun j => decide (j ≠ k)
            engine :=
              if s.inPass k = true then if s.measure.fontWait = true then .held else .idle else s.measure.engine
            fontWaitTimer :=
              if s.inPass k = true ∧ s.measure.fontWait = true then some 5 else s.measure.fontWaitTimer }
          stations := { s.stations with
            terminals := t.stations.terminals
            outgoing := s.stations.outgoing ++ (s.story k).viewers.map fun v =>
              { recipient := .terminal v.terminal
                notice := { s.plainNotice .viewDropped 2 with
                  story := some k, cause := some st, depth := (s.story k).depth.depth } } } } ∧
        t.story k = unusedStory ∧
        (∀ b, t.basket b =
          if (s.story k).basket = some b then { s.basket b with list := without k (s.basket b).list }
          else s.basket b) ∧
        (∀ old, (s.story k).holder = some old → holdMoved old (· - 1) s t) ∧
        ((s.story k).holder = none → ∀ u, t.terminal u = s.terminal u) ∧ SameStoriesBut k s t ∧ SameMemory s t)

/-- LIMIT_WRITE and WATCHERS_WRITE by the system station: the limit is clamped to the range from the greater of 1 and the
count to 2048 (R47), and one word's part of the watcher set is replaced (R49). -/
def Parts.BasketWordsAreSet : Prop :=
  ∀ (s : State) (b : BasketId) (k : Fin 4) (v : Word),
    (∃ t, exec (.limitWrite 127#7 b .word v) s = .next t ∧ t = { s with bus := doneBus, baskets := t.baskets } ∧
      t.basket b = { s.basket b with
        limit := max (max 1 (s.basket b).list.length) (min 2048 v.toNat) } ∧
      SameBasketsBut b s t ∧ SameMemory s t) ∧
    (∃ t, exec (.watchersWrite 127#7 b k .word v) s = .next t ∧ t = { s with bus := doneBus, baskets := t.baskets } ∧
      t.basket b = { s.basket b with watchers := (t.basket b).watchers } ∧
      (∀ u : TerminalId, (t.basket b).watchers.getLsbD u.val =
        if u.val / 32 = k.val then v.getLsbD (u.val % 32) else (s.basket b).watchers.getLsbD u.val) ∧
      SameBasketsBut b s t ∧ SameMemory s t)

/-! ## What live words show -/

/-- Every station with a record, signed on or not, reads a live word: whole, by halves and by bytes (R168). That reads of live words
come by PLAIN_PASS_THROUGH is the model's choice (assumption 10). -/
def showsWord (s : State) (off : Nat) (w : Word) : Prop :=
  ∀ (code : StationCode) (st : Station) (d : Data) (f : Bool), stationOf code = some st →
    exec (.plainPassThrough code false (windowAddr s off) .word d f) s =
      .next { s with bus := readBus (w.setWidth 128) } ∧
    (∀ i, i < 2 → exec (.plainPassThrough code false (windowAddr s (off + 2 * i)) .half d f) s =
      .next { s with bus := readBus ((w.extractLsb' (16 * i) 16).setWidth 128) }) ∧
    ∀ i, i < 4 → exec (.plainPassThrough code false (windowAddr s (off + i)) .byte d f) s =
      .next { s with bus := readBus ((w.extractLsb' (8 * i) 8).setWidth 128) }

/-- Every write to a read-only live word is refused: with BAD-SIZE unless it is a single 4-byte write, and with READ-ONLY otherwise
(R168). -/
def refusesWrites (s : State) (off : Nat) : Prop :=
  ∀ (code : StationCode) (st : Station) (d : Data) (f : Bool), stationOf code = some st →
    exec (.liveWordWrite code (windowAddr s off) .word d f) s =
      .next { s.setLastRefusal st .readOnly with bus := refuseBus } ∧
    (∀ i, i < 2 → exec (.liveWordWrite code (windowAddr s (off + 2 * i)) .half d f) s =
      .next { s.setLastRefusal st .badSize with bus := refuseBus }) ∧
    (∀ i, i < 4 → exec (.liveWordWrite code (windowAddr s (off + i)) .byte d f) s =
      .next { s.setLastRefusal st .badSize with bus := refuseBus }) ∧
    exec (.liveWordWrite code (windowAddr s (off / 16 * 16)) .burst d f) s =
      .next { s.setLastRefusal st .badSize with bus := refuseBus }

/-- A live word whose value is a number in its fields (chapter 11). -/
def shows (s : State) (off n : Nat) : Prop := showsWord s off (BitVec.ofNat 32 n)

/-- A byte field that names a station, or 0xFF (section 11.2). -/
def stationByte : Option Station → Nat
  | some (.terminal u) => u.val
  | some .system => 127
  | none => 0xFF

/-- A byte field that names a numbered record, or 0xFF. -/
def numberByte {n : Nat} : Option (Fin n) → Nat
  | some i => i.val
  | none => 0xFF

/-- A flag in its place. -/
def flagAt (b : Bool) (place : Nat) : Nat := if b then place else 0

/-- The words of a story's header: HOLD, ROUTE, STATE, PLACE, DEPTH and VIEWERS show the story's entry (R18 to R20, R22, R50, section
11.2), and PLACE, DEPTH and VIEWERS refuse every write. The reads come by PLAIN_PASS_THROUGH, which is the model's choice (assumption
10). -/
def Obligations.StoryWordsShowTheEntry : Prop :=
  ∀ (s : State) (k : StoryId) (v : Story) (h : Nat), v = s.story k → h = 0x1000000 + 64 * k.val →
    shows s h (stationByte v.holder) ∧
    shows s (h + 4) (numberByte v.basket + 256 * prioCode v.prio) ∧
    shows s (h + 8)
      (phaseCode v.phase + 16 * prioCode v.prio + flagAt v.closing 128 + 0x100 * stationByte v.holder
        + 0x10000 * numberByte v.basket + 0x1000000 * v.revision.toNat) ∧
    shows s (h + 12) (numberByte (v.placement.map Prod.fst) + 256 * numberByte (v.placement.map Prod.snd)) ∧
    shows s (h + 16) (v.depth.depth + 0x10000 * v.depth.lines + 0x10000000 * statusCode v.depth.status) ∧
    shows s (h + 20) (v.depth.fonts.toNat + flagAt v.depth.overflow 256 + flagAt v.depth.overset 512) ∧
    (∃ w, showsWord s (h + 24) w ∧ ∀ i, i < 4 → w.extractLsb' (8 * i) 8 =
      ((v.viewers[i]?).map fun x => BitVec.ofNat 8 (x.terminal.val + flagAt x.stale 128)).getD 0xFF#8) ∧
    refusesWrites s (h + 12) ∧ refusesWrites s (h + 16) ∧ refusesWrites s (h + 20) ∧ refusesWrites s (h + 24) ∧
    [Phase.unused, .live, .frozen].map phaseCode = [0, 1, 2] ∧
    [DepthStatus.none, .stale, .measuring, .fresh, .faulted].map statusCode = [0, 1, 2, 3, 4] ∧
    [Priority.flash, .urgent, .routine, .deferred].map prioCode = [0, 1, 2, 3]

/-- A term of a slot, or 0xFFFF_FFFF when the slot is empty (R126, section 11.6). -/
def termOf (sl : Option Slot) (g : Slot → Nat) : Nat := (sl.map g).getD 0xFFFFFFFF

/-- The words of a page's block: the geometry, PAGE STATE, PAGE COMMAND with the page's place in the queue, and the terms of its
slots (R121, R123, R124, R126, R132, section 11.6); PAGE STATE refuses every write. -/
def Parts.PageWordsShowTheRecord : Prop :=
  ∀ (s : State) (p : PageId) (v : Page) (h : Nat), v = s.page p → h = 0x10C0000 + 256 * p.val →
    shows s h v.width ∧ shows s (h + 4) v.gutter ∧ shows s (h + 8) v.depth ∧
    (∀ r, v.state = .resting r →
      shows s (h + 12) (restingCode r + 0xFF00 + 0x10000 * lastResultCode v.lastResult
        + 0x1000000 * v.editionSent + 0x10000000 * (occupied v).length)) ∧
    (∀ r n, (v.state = .queued r ∧ n = 4) ∨ (v.state = .waiting r ∧ n = 5) ∨ (v.state = .sending r ∧ n = 6) →
      shows s (h + 12) (n + 0x100 * restingCode r + 0x10000 * lastResultCode v.lastResult
        + 0x1000000 * v.editionSent + 0x10000000 * (occupied v).length)) ∧
    refusesWrites s (h + 12) ∧
    (∀ i e, s.dispatch.queue[i]? = some e → e.page = p → (∀ q ∈ s.dispatch.queue.take i, q.page ≠ p) →
      shows s (h + 16) i) ∧
    ((∀ e ∈ s.dispatch.queue, e.page ≠ p) → shows s (h + 16) 0xFF) ∧
    (∀ n : SlotId,
      shows s (h + 64 + 16 * n.val) (termOf (s.slotOf p n) fun sl => sl.story.val) ∧
      shows s (h + 68 + 16 * n.val) (termOf (s.slotOf p n) Slot.span) ∧
      shows s (h + 72 + 16 * n.val) (termOf (s.slotOf p n) Slot.allowance) ∧
      shows s (h + 76 + 16 * n.val) (termOf (s.slotOf p n) fun sl => if sl.policy = .trim then 1 else 0)) ∧
    [Resting.empty, .made, .sent, .changed].map restingCode = [0, 1, 2, 3] ∧
    lastResultCode .none = 0 ∧ lastResultCode .sent = 1 ∧
    [Cause.held, .timeout, .font, .overset, .fault, .link, .stalled, .check, .typesetter, .cancelled].map
      (fun c => lastResultCode (.failed c)) = [0x81, 0x82, 0x83, 0x84, 0x85, 0x86, 0x87, 0x88, 0x89, 0x8A]

/-- The words of a station's record: CONTROL, RIGHTS, STATION STATUS, LAST REFUSAL and the two indices, for a terminal and for the
system station (R111, R170 to R173, section 11.3); the flags of PENDING, for codes 0 to 119 and 127 (R117). STATION STATUS, LAST
REFUSAL, the write index and PENDING refuse every write. -/
def Parts.StationWordsShowTheRecord : Prop :=
  ∀ s : State,
    (∀ (st : Station) (h : Nat), h = 0x1020200 + 1024 * stationByte (some st) →
      shows s (h + 12) (reasonCode (s.lastRefusal st)) ∧ shows s (h + 16) (s.ring st).write.toNat ∧
      shows s (h + 20) (s.ring st).read.toNat ∧
      refusesWrites s (h + 8) ∧ refusesWrites s (h + 12) ∧ refusesWrites s (h + 16)) ∧
    (∀ (u : TerminalId) (v : Terminal) (h : Nat), v = s.terminal u → h = 0x1020200 + 1024 * u.val →
      shows s h (flagAt v.signedOn 1) ∧ shows s (h + 4) (v.group.val + flagAt v.makeup 256) ∧
      shows s (h + 8) (flagAt v.signedOn 1 + 2 * v.group.val + flagAt v.makeup 16 + flagAt v.ring.overrun 32
        + 256 * (v.ring.write - v.ring.read).toNat)) ∧
    shows s 0x103FE00 1 ∧ shows s 0x103FE04 0 ∧
    shows s 0x103FE08 (1 + flagAt s.stations.system.ring.overrun 32
      + 256 * (s.stations.system.ring.write - s.stations.system.ring.read).toNat) ∧
    (∀ k : Fin 4, refusesWrites s (0x10E0020 + 4 * k.val) ∧
      ∃ w, showsWord s (0x10E0020 + 4 * k.val) w ∧ ∀ j, j < 32 →
        (∀ u : TerminalId, u.val = 32 * k.val + j →
          w.getLsbD j = decide ((s.terminal u).ring.write ≠ (s.terminal u).ring.read)) ∧
        (120 ≤ 32 * k.val + j → 32 * k.val + j ≤ 126 → w.getLsbD j = false) ∧
        (32 * k.val + j = 127 →
          w.getLsbD j = decide (s.stations.system.ring.write ≠ s.stations.system.ring.read))) ∧
    [Reason.none, .notSignedOn, .notHolder, .heldByOther, .noRight, .frozen, .closing, .basketFull, .holdLimit, .readOnly,
      .badSize, .badValue, .badState, .fontsPinned, .memoryFault].map reasonCode = List.range 15

/-- The words of a basket's block, with the list window, of a font's block, and the desk system words that have a value to set (R47,
R49, R60, R64 to R66, R96, R116, R129, R149, sections 11.5, 11.7 and 11.8); the list window refuses every write. -/
def Parts.BasketFontAndDeskWordsShow : Prop :=
  ∀ s : State,
    (∀ (b : BasketId) (h : Nat), h = 0x1040000 + 16384 * b.val →
      shows s h (s.basket b).limit ∧
      (∀ k : Fin 4, ∃ w, showsWord s (h + 8 + 4 * k.val) w ∧ ∀ j, j < 32 →
        w.getLsbD j = (s.basket b).watchers.getLsbD (32 * k.val + j)) ∧
      ∀ i, i < 2048 → refusesWrites s (h + 0x2000 + 4 * i) ∧
        (∀ x, (s.basket b).list[i]? = some x →
          shows s (h + 0x2000 + 4 * i) (x.story.val + 0x10000 * prioCode x.prio
            + flagAt (s.story x.story).holder.isSome 0x800000 + 0x1000000 * stationByte (s.story x.story).holder)) ∧
        ((s.basket b).list[i]? = none → shows s (h + 0x2000 + 4 * i) 0xFFFFFFFF)) ∧
    (∀ (g : FontId) (h : Nat), h = 0x10D0000 + 512 * g.val →
      shows s h (s.font g).size ∧ shows s (h + 4) (s.font g).leading ∧
      ∀ j, j < 64 → ∃ w, showsWord s (h + 256 + 4 * j) w ∧ ∀ i, i < 4 →
        w.extractLsb' (8 * i) 8 = (fontWidth (s.font g) (4 * j + i)).setWidth 8) ∧
    shows s 0x10E0000 s.pages.edition ∧ shows s 0x10E0004 s.measure.standard ∧ shows s 0x10E0008 s.dispatch.holdWait ∧
    shows s 0x10E000C s.stations.enables.toNat

/-- The live words of pages, stations, baskets, fonts and the desk show their records. The reads come by PLAIN_PASS_THROUGH, which is
the model's choice (assumption 10). -/
def Obligations.RecordWordsShowTheRecords : Prop :=
  Parts.PageWordsShowTheRecord ∧ Parts.StationWordsShowTheRecord ∧ Parts.BasketFontAndDeskWordsShow

/-! ## Fonts and the desk system words -/

/-- Depth records after a staling cause has reached the stories that `p` names while none of them is in flight: each that is
FRESH, FAULTED or MEASURING becomes STALE and joins the tail of the queue, by increasing number, and every other story's
entry is the same (R86, R87). -/
def staledBy (p : StoryId → Bool) (s t : State) : Prop :=
  (∀ k, t.story k =
    if p k = true ∧ (s.story k).depth.status ≠ .none then
      { s.story k with depth := { (s.story k).depth with status := .stale } }
    else s.story k) ∧
  t.measure.queue = s.measure.queue ++ (List.finRange 2048).filter fun k =>
    p k && ((s.story k).depth.status == .fresh || (s.story k).depth.status == .faulted ||
      (s.story k).depth.status == .measuring)

/-- The stories whose fonts-used mask contains a font (R85). -/
def usesFont (s : State) (f : FontId) (k : StoryId) : Bool := (s.story k).depth.fonts.getLsbD f.val

/-- What a font write that is taken leaves: the stories that use the font are staled, the hold of a HELD engine has ended,
and nothing else but the font's own record has changed. -/
def fontWritten (f : FontId) (s t : State) : Prop :=
  SameFontsBut f s t ∧ staledBy (usesFont s f) s t ∧ SameMemory s t ∧
  t = { s with
    bus := doneBus, stories := t.stories
    measure := { s.measure with
      queue := t.measure.queue, fonts := t.measure.fonts, engine := .idle
      fontWait := s.measure.fontWait && decide (s.measure.engine = .idle)
      fontWaitTimer := if s.measure.engine = .held then none else s.measure.fontWaitTimer } }

/-- SIZE_WRITE, LEADING_WRITE and WIDTH_TABLE_WRITE by the system station while no pass is in flight and no page is SENDING
are taken (R64, R65, R66, R67, R95). The queue's order is that of R87 for tables in canonical form. -/
def Parts.FontWritesSetTheFont : Prop :=
  ∀ (s : State) (f : FontId) (v : Word), Canonical s → s.sendingHead = none →
    (∀ p, s.measure.engine ≠ .measuring p) →
    (∃ t, exec (.sizeWrite 127#7 f .word v) s = .next t ∧ fontWritten f s t ∧
      t.font f = { s.font f with
        size := max 16 (min 288 v.toNat), leading := max (s.font f).leading (max 16 (min 288 v.toNat)) }) ∧
    (∃ t, exec (.leadingWrite 127#7 f .word v) s = .next t ∧ fontWritten f s t ∧
      t.font f = { s.font f with leading := max (s.font f).size (min 576 v.toNat) }) ∧
    (∀ (c : Fin 256) (sz : Size), sz ≠ .burst → aligned c.val sz = true →
      ∃ t, exec (.widthTableWrite 127#7 f c sz v) s = .next t ∧ fontWritten f s t ∧
        (t.font f).size = (s.font f).size ∧ (t.font f).leading = (s.font f).leading ∧
        ∀ j : Nat, fontWidth (t.font f) j =
          if c.val ≤ j ∧ j < c.val + sizeBytes sz then (v.extractLsb' (8 * (j - c.val)) 8).setWidth 6
          else fontWidth (s.font f) j)

/-- A font write by the system station is refused with FONTS-PINNED while a page is SENDING, which ends the hold of a HELD engine
(R67, R94, R95); that a mark set for a pass still in flight stays is the model's reading (assumption 25). It is otherwise answered
RETRY and sets the font-wait mark while a pass is in flight; a terminal's is refused with NO-RIGHT. Before those tests, a write to SIZE
or LEADING that is not a single 4-byte write, and a burst over the width table, are refused with BAD-SIZE. -/
def Parts.FontWritesWaitForPassAndSend : Prop :=
  ∀ (s : State) (f : FontId) (v : Word) (code : StationCode) (st : Station) (c : Instr),
    stationOf code = some st →
    (c = .sizeWrite code f .word v ∨ c = .leadingWrite code f .word v ∨
      ∃ (j : Fin 256) (sz : Size), sz ≠ .burst ∧ aligned j.val sz = true ∧ c = .widthTableWrite code f j sz v) →
    (st = .system → s.sendingHead.isSome = true → s.measure.engine ≠ .held →
      exec c s = .next { s.setLastRefusal .system .fontsPinned with bus := refuseBus }) ∧
    (st = .system → s.sendingHead.isSome = true → s.measure.engine = .held →
      exec c s = .next { s.setLastRefusal .system .fontsPinned with
        bus := refuseBus
        measure := { s.measure with engine := .idle, fontWait := false, fontWaitTimer := none } }) ∧
    (st = .system → s.sendingHead = none → (∃ p, s.measure.engine = .measuring p) →
      exec c s = .next { s with bus := retryBus, measure := { s.measure with fontWait := true } }) ∧
    (st ≠ .system → exec c s = .next { s.setLastRefusal st .noRight with bus := refuseBus }) ∧
    (∀ sz : Size, sz ≠ .word →
      exec (.sizeWrite code f sz v) s = .next { s.setLastRefusal st .badSize with bus := refuseBus } ∧
      exec (.leadingWrite code f sz v) s = .next { s.setLastRefusal st .badSize with bus := refuseBus }) ∧
    (∀ j : Fin 256, aligned j.val .burst = true →
      exec (.widthTableWrite code f j .burst v) s = .next { s.setLastRefusal st .badSize with bus := refuseBus })

/-- A font write is taken, is refused with FONTS-PINNED, or is answered RETRY (R64 to R67, R94, R95). -/
def Obligations.FontWritesAreTakenOrWait : Prop := Parts.FontWritesSetTheFont ∧ Parts.FontWritesWaitForPassAndSend

/-- LIVE stories that no slot holds (R96). -/
def liveUnplaced (s : State) (k : StoryId) : Bool := (s.story k).phase == .live && (s.story k).placement.isNone

/-- STANDARD_MEASURE_WRITE by the system station, here while no pass is in flight: S takes the value clamped to 60 to 4092,
and if it changes every LIVE unplaced story is staled (R96). EDITION_WRITE by the system station, and the same write by
LIVE_WORD_WRITE, set the current edition clamped to 1 to 15 and nothing else (R129). -/
def Parts.StandardMeasureAndEditionAreSet : Prop :=
  ∀ (s : State) (v : Word),
    (Canonical s → (∀ p, s.measure.engine ≠ .measuring p) →
      ∃ t, exec (.standardMeasureWrite 127#7 .word v) s = .next t ∧
        t = { s with bus := doneBus, stories := t.stories
                     measure := { s.measure with
                       standard := max 60 (min 4092 v.toNat), queue := t.measure.queue } } ∧
        (max 60 (min 4092 v.toNat) = s.measure.standard → t.stories = s.stories ∧ t.measure = s.measure) ∧
        (max 60 (min 4092 v.toNat) ≠ s.measure.standard → staledBy (liveUnplaced s) s t) ∧ SameMemory s t) ∧
    exec (.editionWrite 127#7 .word v) s =
      .next { s with bus := doneBus, pages := { s.pages with edition := max 1 (min 15 v.toNat) } } ∧
    exec (.liveWordWrite 127#7 (windowAddr s 0x10E0000) .word (v.setWidth 128) false) s =
      .next { s with bus := doneBus, pages := { s.pages with edition := max 1 (min 15 v.toNat) } }

/-- LIMIT_WRITE, WATCHERS_WRITE, STANDARD_MEASURE_WRITE and EDITION_WRITE are refused with BAD-SIZE unless a single 4-byte write,
whoever writes, and with NO-RIGHT to every terminal, signed on or not (R47, R49, R96, R129). -/
def Parts.BasketAndDeskWordsRefuseTerminals : Prop :=
  ∀ (s : State) (code : StationCode) (st : Station) (sz : Size) (v : Word) (b : BasketId) (k : Fin 4),
    stationOf code = some st →
    refusedFor (.limitWrite code b sz v) s st (afterSystem st sz .none) ∧
    refusedFor (.watchersWrite code b k sz v) s st (afterSystem st sz .none) ∧
    refusedFor (.standardMeasureWrite code sz v) s st (afterSystem st sz .none) ∧
    refusedFor (.editionWrite code sz v) s st (afterSystem st sz .none)

/-- LIMIT, WATCHERS, STANDARD MEASURE and EDITION are set by the system station, and refused to every terminal (R47, R49, R96, R129). -/
def Obligations.BasketAndDeskWordsAreSet : Prop :=
  Parts.BasketWordsAreSet ∧ Parts.StandardMeasureAndEditionAreSet ∧ Parts.BasketAndDeskWordsRefuseTerminals

/-- HOLD WAIT (R149): any station with a record reads the period; the system station sets it, clamped to 1 to 600, and a timer already
running keeps the period it started with, while the next start of the timer takes the new one; other writes are refused in the order
of the table; it is 120 at power-on and kept by bus reset. That reads come by PLAIN_PASS_THROUGH and that a timer is kept as its
period are the model's choices (assumptions 10 and 8). -/
def Parts.HoldWaitShowsAndSetsThePeriod : Prop :=
  ∀ (s : State) (v : Word),
    shows s 0x10E0008 s.dispatch.holdWait ∧
    exec (.holdWaitWrite 127#7 .word v) s =
      .next { s with bus := doneBus, dispatch := { s.dispatch with holdWait := max 1 (min 600 v.toNat) } } ∧
    (∀ (code : StationCode) (st : Station) (sz : Size), stationOf code = some st →
      (sz ≠ .word →
        exec (.holdWaitWrite code sz v) s = .next { s.setLastRefusal st .badSize with bus := refuseBus }) ∧
      (st ≠ .system →
        exec (.holdWaitWrite code .word v) s = .next { s.setLastRefusal st .noRight with bus := refuseBus })) ∧
    (RangeLaw s → 1 ≤ s.dispatch.holdWait ∧ s.dispatch.holdWait ≤ 600) ∧
    (∀ e : Queued, (s.enterWaiting e).dispatch.holdWaitTimer = some (s.dispatch.holdWait * 1000)) ∧
    (∀ strap present t, exec (.powerOn strap present) s = .next t → t.dispatch.holdWait = 120) ∧
    (∀ t, exec .busReset s = .next t → t.dispatch.holdWait = s.dispatch.holdWait)

/-- ATTENTION ENABLE (R116): any station with a record reads the eight flags; the system station sets them, and each group line
follows its new enable in the same taking without touching any ring; other writes are refused in the order of the table; all are set
at power-on and kept by bus reset. That reads come by PLAIN_PASS_THROUGH is the model's choice (assumption 10). -/
def Parts.AttentionEnableSetsTheFlags : Prop :=
  ∀ (s : State) (v : Word),
    shows s 0x10E000C s.stations.enables.toNat ∧
    (∃ t, exec (.attentionEnableWrite 127#7 .word v) s = .next t ∧
      t = { s with
        bus := doneBus
        stations := { s.stations with
          enables := v.setWidth 8, groupLines := t.stations.groupLines, systemLine := t.stations.systemLine } } ∧
      LineLaw t) ∧
    (∀ (code : StationCode) (st : Station) (sz : Size), stationOf code = some st →
      (sz ≠ .word →
        exec (.attentionEnableWrite code sz v) s = .next { s.setLastRefusal st .badSize with bus := refuseBus }) ∧
      (st ≠ .system →
        exec (.attentionEnableWrite code .word v) s = .next { s.setLastRefusal st .noRight with bus := refuseBus })) ∧
    (∀ strap present t, exec (.powerOn strap present) s = .next t → t.stations.enables = 0xFF#8) ∧
    (∀ t, exec .busReset s = .next t → t.stations.enables = s.stations.enables)

/-- The desk system words HOLD WAIT and ATTENTION ENABLE (R116, R149; reads by assumption 10). -/
def Obligations.HoldWaitAndAttentionEnableAreSet : Prop :=
  Parts.HoldWaitShowsAndSetsThePeriod ∧ Parts.AttentionEnableSetsTheFlags

/-- COUNT, MEASURE STATUS and DISPATCH STATUS show their records to any station with a record and refuse every write (R48, R97, R150).
That the slot shown stays the last one while PAGE-END is outstanding is the model's reading (assumption 19), and that reads come by
PLAIN_PASS_THROUGH its choice (assumption 10). -/
def Parts.StatusWordsAreReadOnly : Prop :=
  ∀ s : State,
    (∀ b : BasketId, shows s (0x1040004 + 16384 * b.val) (s.basket b).list.length ∧
      refusesWrites s (0x1040004 + 16384 * b.val)) ∧
    shows s 0x10E0014
      (s.measure.queue.length + 0x1000 * engineCode s.measure.engine + flagAt s.measure.fontWait 0x8000
        + 0x10000 * ((storyInFlight s.measure.engine).map Fin.val).getD 0xFFFF) ∧ refusesWrites s 0x10E0014 ∧
    shows s 0x10E0018
      (s.dispatch.queue.length + 0x100 * numberByte (s.dispatch.queue.head?.map Queued.page)
        + 0x10000 * dispatchCode s.dispatch.engine + 0x1000000 * numberByte (slotInProgress s.dispatch.engine)) ∧
    refusesWrites s 0x10E0018

/-- LINK STATUS: every station with a record reads the state, the latch, the WAIT hold, the agreed length and the font mask from one
moment, whole or in parts, and a read of any size by the system station clears the latch after it; every write is refused (R162). -/
def Parts.LinkStatusReadClearsTheLatch : Prop :=
  ∀ (s : State) (code : StationCode) (st : Station) (f : Bool) (w : Word) (l : Link), stationOf code = some st →
    w = BitVec.ofNat 32
      (linkStateCode s.link.state + flagAt s.link.lost 256 + flagAt s.link.waitHold 512 + 0x10000 * s.link.agreed
        + 0x1000000 * s.link.mask.toNat) →
    l = { s.link with lost := s.link.lost && decide (st ≠ .system) } →
    exec (.linkStatusRead code 0 .word f) s = .next { s with bus := readBus (w.setWidth 128), link := l } ∧
    (∀ i : Fin 4, i.val % 2 = 0 → exec (.linkStatusRead code i .half f) s =
      .next { s with bus := readBus ((w.extractLsb' (8 * i.val) 16).setWidth 128), link := l }) ∧
    (∀ i : Fin 4, exec (.linkStatusRead code i .byte f) s =
      .next { s with bus := readBus ((w.extractLsb' (8 * i.val) 8).setWidth 128), link := l }) ∧
    (∃ d : Data, exec (.linkStatusRead code 0 .burst false) s = .next { s with bus := readBus d, link := l } ∧
      d.setWidth 32 = w) ∧
    refusesWrites s 0x10E0010

/-- The read-only words of counts and states: COUNT, MEASURE STATUS, DISPATCH STATUS and LINK STATUS (R48, R97, R150, R162;
assumptions 10 and 19). -/
def Obligations.StatusWordsAreReadOnly : Prop := Parts.StatusWordsAreReadOnly ∧ Parts.LinkStatusReadClearsTheLatch

/-! ## Stations -/

/-- NOTICE_READ_INDEX_WRITE by the system station or by the record's own signed-on terminal: the read index takes the value
modulo 64, clamped by the three cases of R111, and that of a station not signed on is left equal to the write index; the overrun flag
is cleared when nothing is left unread, and the attention lines follow. That a ring write voided by a sign-off or a bus reset still
counts as in flight is the model's reading (assumption 14). -/
def Parts.ReadIndexIsClampedToTheRing : Prop :=
  ∀ (s : State) (code : StationCode) (st owner : Station) (v : Word),
    stationOf code = some st → s.signedOn st = true → (st = .system ∨ st = owner) →
    ∃ t, exec (.noticeReadIndexWrite code owner .word v) s = .next t ∧
      t = { s with
        bus := doneBus
        stations := { s.stations with
          terminals := t.stations.terminals, system := t.stations.system
          groupLines := t.stations.groupLines, systemLine := t.stations.systemLine } } ∧
      (t.ring owner).write = (s.ring owner).write ∧
      (s.signedOn owner = true →
        (((s.ring owner).write - v.setWidth 6).toNat ≤ 32 - s.inFlight owner →
          (t.ring owner).read = v.setWidth 6) ∧
        (32 - s.inFlight owner < ((s.ring owner).write - v.setWidth 6).toNat →
          ((s.ring owner).write - v.setWidth 6).toNat ≤ 32 →
          unread (t.ring owner) + s.inFlight owner = 32) ∧
        (32 < ((s.ring owner).write - v.setWidth 6).toNat → unread (t.ring owner) = 0)) ∧
      (s.signedOn owner = false → (t.ring owner).read = (s.ring owner).write) ∧
      ((t.ring owner).overrun = ((s.ring owner).overrun && decide (unread (t.ring owner) ≠ 0))) ∧
      (∀ o, o ≠ owner → t.ring o = s.ring o) ∧
      (∀ u, { t.terminal u with ring := (s.terminal u).ring } = s.terminal u) ∧
      t.stations.system.lastRefusal = s.stations.system.lastRefusal ∧
      LineLaw t ∧ SameMemory s t

/-- NOTICE_READ_INDEX_WRITE is refused on the first condition of R111 that holds. -/
def Parts.ReadIndexRefusesInOrder : Prop :=
  ∀ (s : State) (code : StationCode) (st owner : Station) (sz : Size) (v : Word), stationOf code = some st →
    refusedFor (.noticeReadIndexWrite code owner sz v) s st
      (afterSignOn s st sz (if st ≠ .system ∧ st ≠ owner then .noRight else .none))

/-- NOTICE_READ_INDEX_WRITE sets a ring's read index, or is refused (R111; a voided ring write by assumption 14). -/
def Obligations.ReadIndexIsClampedToTheRing : Prop := Parts.ReadIndexIsClampedToTheRing ∧ Parts.ReadIndexRefusesInOrder

/-- SIGN_ON of a signed-off terminal by itself or the system station resets its ring (R113, R172); SIGN_OFF ends its holds, its
places in viewer lists and its notices under way, and empties its ring, and a WAITING page that a released story belongs to is
evaluated (R33, R103, R113, R139, R172); RIGHTS_WRITE by the system station sets group and makeup right (R173). The attention lines
follow each. -/
def Parts.SignStateAndRightsAreSet : Prop :=
  ∀ (s : State) (code : StationCode) (st : Station) (u : TerminalId),
    stationOf code = some st → (st = .system ∨ st = .terminal u) →
    ((s.terminal u).signedOn = false →
      ∃ t, exec (.signOn code (.terminal u) .word) s = .next t ∧
        t = { s with
          bus := doneBus
          stations := { s.stations with
            terminals := t.stations.terminals
            groupLines := t.stations.groupLines, systemLine := t.stations.systemLine } } ∧
        t.terminal u = { s.terminal u with signedOn := true, ring := { write := 0, read := 0, overrun := false } } ∧
        SameTerminalsBut u s t ∧ LineLaw t ∧ SameMemory s t) ∧
    ((s.terminal u).signedOn = true → HoldLaw s → PlanLaw s → DispatchLaw s → s.stations.outgoing.length < 256 →
      ∃ t v, exec (.signOff code (.terminal u) .word) s = .next t ∧
        ((∀ k, (s.story k).closing = true → (s.story k).holder ≠ some (.terminal u)) ∨ s.waitingHead = none → t = v) ∧
        (∀ e r k, s.waitingHead = some e → (s.page e.page).state = .waiting r → (s.story k).closing = true →
          (s.story k).holder = some (.terminal u) → evaluated e r v t) ∧
        v = { s with
          bus := doneBus, stories := v.stories
          stations := { s.stations with
            terminals := v.stations.terminals
            groupLines := v.stations.groupLines, systemLine := v.stations.systemLine
            outgoing := s.stations.outgoing.filter fun o => decide (o.recipient ≠ .terminal u)
            ringWrite := s.stations.ringWrite.map fun w =>
              if w.recipient = .terminal u then { w with voided := true } else w } } ∧
        v.terminal u = { s.terminal u with
          signedOn := false, holdCount := 0, ring := { write := 0, read := 0, overrun := false } } ∧
        SameTerminalsBut u s v ∧
        (∀ k, v.story k = { s.story k with
          holder := if (s.story k).holder = some (.terminal u) then none else (s.story k).holder
          viewers := (s.story k).viewers.filter fun x => decide (x.terminal ≠ u) }) ∧
        LineLaw v ∧ SameMemory s v) ∧
    (∀ (g : Group) (m : Bool),
      ∃ t, exec (.rightsWrite 127#7 (.terminal u) .word (BitVec.ofNat 32 (g.val + 256 * (if m then 1 else 0)))) s = .next t ∧
        t = { s with
          bus := doneBus
          stations := { s.stations with
            terminals := t.stations.terminals
            groupLines := t.stations.groupLines, systemLine := t.stations.systemLine } } ∧
        t.terminal u = { s.terminal u with group := g, makeup := m } ∧
        SameTerminalsBut u s t ∧ LineLaw t ∧ SameMemory s t)

/-- The tests of a write to CONTROL, before that of its value (R172). -/
def afterControl (st owner : Station) (sz : Size) (own : Reason) : Reason :=
  if sz ≠ .word then .badSize
  else if st ≠ .system ∧ st ≠ owner then .noRight
  else if owner = .system then .badState
  else own

/-- SIGN_ON and SIGN_OFF, and any other value written to CONTROL, are refused on the first condition of R172 that holds, and are DONE
with no change where the sign state is the one asked for; RIGHTS_WRITE is refused on the first condition of R173 that holds. -/
def Parts.SignAndRightsRefuseInOrder : Prop :=
  ∀ (s : State) (code : StationCode) (st owner : Station) (sz : Size) (v : Word), stationOf code = some st →
    refusedFor (.signOn code owner sz) s st (afterControl st owner sz .none) ∧
    refusedFor (.signOff code owner sz) s st (afterControl st owner sz .none) ∧
    (v ≠ 1#32 → v ≠ 2#32 →
      valueRefused s code st (0x1020200 + 1024 * stationByte (some owner)) v (afterControl st owner .word .badValue)) ∧
    (∀ u, owner = .terminal u → (st = .system ∨ st = owner) →
      ((s.terminal u).signedOn = true → exec (.signOn code owner .word) s = .next { s with bus := doneBus }) ∧
      ((s.terminal u).signedOn = false → exec (.signOff code owner .word) s = .next { s with bus := doneBus })) ∧
    refusedFor (.rightsWrite code owner sz v) s st
      (afterSystem st sz
        (if owner = .system then .badState else if 7 < (v.extractLsb' 0 8).toNat then .badValue else .none))

/-- CONTROL and RIGHTS set a terminal's sign state, group and makeup right, or refuse (R172, R173; values by LIVE_WORD_WRITE:
assumption 10). -/
def Obligations.SignStateAndRightsAreSet : Prop := Parts.SignStateAndRightsAreSet ∧ Parts.SignAndRightsRefuseInOrder

/-! ## Page plans -/

/-- Whether a station may write a page's plan (R122). -/
abbrev mayPlan (s : State) (st : Station) : Prop :=
  s.signedOn st = true ∧ ∀ u, st = .terminal u → (s.terminal u).makeup = true

/-- Whether a page is WAITING or SENDING. -/
def committed : PageState → Bool
  | .waiting _ | .sending _ => true
  | _ => false

/-- The tests of every write to a page's geometry and slots, before those of its word (R122). -/
def afterPlanTests (s : State) (st : Station) (p : PageId) (sz : Size) (own : Reason) : Reason :=
  afterSignOn s st sz
    (if ∃ u, st = .terminal u ∧ (s.terminal u).makeup = false then .noRight
    else if committed (s.page p).state = true then .closing
    else own)

/-- The resting state an edit leaves, by the table of R127. -/
def restingAfter (r : Resting) (pg : Page) : Resting :=
  if (occupied pg).isEmpty then .empty else if r = .sent ∨ r = .changed then .changed else .made

/-- Whether a page may be edited: it is at rest, or it is QUEUED (R122). -/
def editable (s : State) (p : PageId) : Prop := (∃ r, (s.page p).state = .resting r) ∨ ∃ r, (s.page p).state = .queued r

/-- What an edit leaves but for the page's plan, the depth records and the measure unit, when it does not empty a QUEUED page: a page
at rest takes the resting state of R127 and raises PAGE-CHANGED when it leaves SENT; a QUEUED page stays QUEUED at its place with its
resting state field changed so, and raises nothing (R128). `told` are the notices raised before that (assumption 20). -/
def pageEdit (p : PageId) (n : Option SlotId) (before : Option StoryId) (st : Station) (told : List Outgoing)
    (s t : State) : Prop :=
  (∀ r, (s.page p).state = .resting r →
    (t.page p).state = .resting (restingAfter r (t.page p)) ∧
    t.stations.outgoing = s.stations.outgoing ++ told ++
      if r = .sent then
        [{ recipient := .system
           notice := { t.maybeStoryNotice .pageChanged 0 before with
             page := some p, slot := n, cause := some st } }]
      else []) ∧
  (∀ r, (s.page p).state = .queued r →
    (t.page p).state = .queued (restingAfter r (t.page p)) ∧
    t.stations.outgoing = s.stations.outgoing ++ told) ∧
  SamePagesBut p s t ∧ SameMemory s t ∧
  t = { s with
    bus := doneBus, stories := t.stories, measure := t.measure
    pages := { s.pages with pages := t.pages.pages }
    stations := { s.stations with outgoing := t.stations.outgoing } }

/-- The OVERSET or MEASURE-FAULT notices of a story: to the system station, then to a terminal holder (R78, R91). -/
def toldTwice (v : Story) (n : Notice) : List Outgoing :=
  { recipient := .system, notice := n } ::
    (v.holder.toList.filter fun st => decide (st ≠ .system)).map fun st => { recipient := st, notice := n }

/-- A `pageEdit` of one slot, which keeps the rest of the page's record. -/
def slotEdit (p : PageId) (n : SlotId) (before : Option StoryId) (st : Station) (told : List Outgoing)
    (s t : State) : Prop :=
  pageEdit p (some n) before st told s t ∧
    t.page p = { s.page p with slots := (t.page p).slots, state := (t.page p).state }

/-- The entries of a story once it has been evaluated for overset against an allowance: the mark takes the result of R77 when its
status is FRESH, and stays as it was otherwise. -/
def allowanceMark (v : Story) (allowance : Nat) : Bool :=
  if v.depth.status = .fresh then v.depth.overflow || decide (allowance < v.depth.depth) else v.depth.overset

/-- The OVERSET notices of an allowance change: to the system station, then to a terminal holder, when the mark changes, with the
writer as cause station (R77, R78). -/
def oversetTold (s : State) (k : StoryId) (allowance : Nat) (writer : Station) : List Outgoing :=
  let o := allowanceMark (s.story k) allowance
  if o = (s.story k).depth.overset then []
  else toldTwice (s.story k) { s.storyNotice .overset (if o then 1 else 2) k with cause := some writer }

/-- The holders of a page's stories are signed on. -/
def holdersOn (s : State) (p : PageId) : Prop :=
  ∀ n sl st, s.slotOf p n = some sl → (s.story sl.story).holder = some st → s.signedOn st = true

/-- The stories of a page whose slot measure differs between two plans of it (R68, R85). -/
def measureMoved (s : State) (p : PageId) (new : Page) (k : StoryId) : Bool :=
  (occupied (s.page p)).any fun e =>
    e.2.story == k && decide (slotMeasure (s.page p) e.2 ≠ slotMeasure new e.2)

/-- COLUMN_WIDTH_WRITE and GUTTER_WRITE that change the value, on a page at rest or QUEUED while no pass is in flight: the clamped
value is set and the stories whose slot measure changes are staled (R123). A write that leaves the value as it was is DONE with no
change (R122). -/
def Parts.GeometryWritesStaleTheMeasure : Prop :=
  ∀ (s : State) (code : StationCode) (st : Station) (p : PageId) (v : Word),
    stationOf code = some st → mayPlan s st → editable s p → Canonical s → PlanLaw s → FrozenLaw s → DispatchLaw s →
    (∀ q, s.measure.engine ≠ .measuring q) → s.stations.outgoing.length < 256 →
    (max 60 (min 480 v.toNat) = (s.page p).width →
      exec (.columnWidthWrite code p .word v) s = .next { s with bus := doneBus }) ∧
    (max 60 (min 480 v.toNat) ≠ (s.page p).width →
      ∃ t, exec (.columnWidthWrite code p .word v) s = .next t ∧ pageEdit p none none st [] s t ∧
        t.page p = { s.page p with width := max 60 (min 480 v.toNat), state := (t.page p).state } ∧
        staledBy (measureMoved s p { s.page p with width := max 60 (min 480 v.toNat) }) s t ∧
        t.measure = { s.measure with queue := t.measure.queue }) ∧
    (min 36 v.toNat = (s.page p).gutter →
      exec (.gutterWrite code p .word v) s = .next { s with bus := doneBus }) ∧
    (min 36 v.toNat ≠ (s.page p).gutter →
      ∃ t, exec (.gutterWrite code p .word v) s = .next t ∧ pageEdit p none none st [] s t ∧
        t.page p = { s.page p with gutter := min 36 v.toNat, state := (t.page p).state } ∧
        staledBy (measureMoved s p { s.page p with gutter := min 36 v.toNat }) s t ∧
        t.measure = { s.measure with queue := t.measure.queue })

/-- COLUMN_DEPTH_WRITE on a page at rest or QUEUED: the clamped depth is set, each allowance above it is lowered to it, and the
stories of those slots are evaluated for overset in slot order, with OVERSET where a mark changes (R77, R78, R123); nothing is
staled. -/
def Parts.ColumnDepthLowersAllowances : Prop :=
  ∀ (s : State) (code : StationCode) (st : Station) (p : PageId) (v : Word) (d : Nat),
    stationOf code = some st → mayPlan s st → editable s p → PlanLaw s → FrozenLaw s → DispatchLaw s → holdersOn s p →
    s.stations.outgoing.length + 25 ≤ 256 → d = max 400 (min 8000 v.toNat) →
    (d = (s.page p).depth → exec (.columnDepthWrite code p .word v) s = .next { s with bus := doneBus }) ∧
    (d ≠ (s.page p).depth →
      ∃ t, exec (.columnDepthWrite code p .word v) s = .next t ∧
        pageEdit p none none st
          (((occupied (s.page p)).filter fun e => decide (d < e.2.allowance)).flatMap fun e => oversetTold s e.2.story d st)
          s t ∧
        t.page p = { s.page p with depth := d, slots := (t.page p).slots, state := (t.page p).state } ∧
        (∀ n, t.slotOf p n = (s.slotOf p n).map fun sl => { sl with allowance := min sl.allowance d }) ∧
        (∀ n sl, s.slotOf p n = some sl → d < sl.allowance →
          t.story sl.story = { s.story sl.story with
            depth := { (s.story sl.story).depth with overset := allowanceMark (s.story sl.story) d } }) ∧
        (∀ k, (∀ n sl, s.slotOf p n = some sl → d < sl.allowance → sl.story ≠ k) → t.story k = s.story k) ∧
        t.measure = s.measure)

/-- COLUMN_WIDTH_WRITE, GUTTER_WRITE and COLUMN_DEPTH_WRITE are refused on the first condition of R122 that holds (R123). -/
def Parts.GeometryWritesRefuseInOrder : Prop :=
  ∀ (s : State) (code : StationCode) (st : Station) (p : PageId) (sz : Size) (v : Word), stationOf code = some st →
    refusedFor (.columnWidthWrite code p sz v) s st (afterPlanTests s st p sz .none) ∧
    refusedFor (.gutterWrite code p sz v) s st (afterPlanTests s st p sz .none) ∧
    refusedFor (.columnDepthWrite code p sz v) s st (afterPlanTests s st p sz .none)

/-- Writes of the column width, the gutter and the column depth, on a page at rest or QUEUED, and their refusals (R122, R123, R127, R128;
the order of notices by assumption 20). -/
def Obligations.GeometryWritesRefitThePage : Prop :=
  Parts.GeometryWritesStaleTheMeasure ∧ Parts.ColumnDepthLowersAllowances ∧ Parts.GeometryWritesRefuseInOrder

/-- A story's entry once a placement change has staled it (R86, R124). -/
def staledEntry (v : Story) : Story :=
  { v with depth := { v.depth with status := if v.depth.status = .none then .none else .stale } }

/-- A story's entry once it has left its slot: unplaced, and unfrozen with its revision one higher if it was FROZEN (R124,
R125). -/
def leftSlot (v : Story) : Story :=
  { v with
    placement := none
    phase := if v.phase = .frozen then .live else v.phase
    revision := if v.phase = .frozen then v.revision + 1 else v.revision }

/-- PLACE in an empty slot and REMOVE, on a page at rest or QUEUED while the story is not in a pass: the slot takes span 1, allowance
D and policy HOLD, or becomes empty; the story gains or loses its placement and is staled (R119, R124, R125). The REMOVE that empties
a QUEUED page is stated below. -/
def Parts.PlaceAndRemoveEditThePlan : Prop :=
  ∀ (s : State) (code : StationCode) (st : Station) (p : PageId) (n : SlotId) (k : StoryId),
    stationOf code = some st → mayPlan s st → editable s p →
    s.stations.outgoing.length < 256 → s.inPass k = false →
    (s.slotOf p n = none → (s.story k).phase ≠ .unused → (s.story k).placement = none →
      ∃ t, exec (.place code p n .word k) s = .next t ∧ slotEdit p n none st [] s t ∧
        (∀ m, t.slotOf p m =
          if m = n then some { story := k, span := 1, allowance := (s.page p).depth, policy := .hold }
          else s.slotOf p m) ∧
        t.story k = staledEntry { s.story k with placement := some (p, n) } ∧ SameStoriesBut k s t ∧
        t.measure = { s.measure with
          queue := s.measure.queue ++
            if (s.story k).depth.status = .none ∨ (s.story k).depth.status = .stale then [] else [k] }) ∧
    (∀ sl, s.slotOf p n = some sl → sl.story = k →
      exec (.place code p n .word k) s = .next { s with bus := doneBus } ∧
      ((∃ r, (s.page p).state = .resting r) ∨ (∃ m, m ≠ n ∧ s.slotOf p m ≠ none) →
        ∃ t, exec (.remove code p n .word) s = .next t ∧ slotEdit p n (some k) st [] s t ∧
          (∀ m, t.slotOf p m = if m = n then none else s.slotOf p m) ∧
          t.story k = staledEntry (leftSlot (s.story k)) ∧ SameStoriesBut k s t ∧
          t.measure = { s.measure with
            queue := s.measure.queue ++
              if (s.story k).depth.status = .none ∨ (s.story k).depth.status = .stale then [] else [k] }))

/-- PLACE of another story in an occupied slot of a page at rest or QUEUED: the slot keeps its span, allowance and policy for the new
story, the old one leaves it, and both are staled, by increasing number (R87, R124, R125). -/
def Parts.ReplaceKeepsTheSlotsTerms : Prop :=
  ∀ (s : State) (code : StationCode) (st : Station) (p : PageId) (n : SlotId) (k : StoryId) (sl : Slot),
    stationOf code = some st → mayPlan s st → editable s p →
    s.stations.outgoing.length < 256 → s.inPass k = false → s.inPass sl.story = false →
    s.slotOf p n = some sl → k ≠ sl.story → (s.story k).phase ≠ .unused → (s.story k).placement = none →
    (s.story k).depth.status = .fresh → (s.story sl.story).depth.status = .fresh →
      ∃ t, exec (.place code p n .word k) s = .next t ∧ slotEdit p n (some sl.story) st [] s t ∧
        (∀ m, t.slotOf p m = if m = n then some { sl with story := k } else s.slotOf p m) ∧
        t.story k = staledEntry { s.story k with placement := some (p, n) } ∧
        t.story sl.story = staledEntry (leftSlot (s.story sl.story)) ∧
        (∀ j, j ≠ k → j ≠ sl.story → t.story j = s.story j) ∧
        t.measure = { s.measure with
          queue := s.measure.queue ++ if sl.story ≤ k then [sl.story, k] else [k, sl.story] }

/-- REMOVE of the last story of a QUEUED page: after the edit's own effects the page leaves the dispatch queue and returns to EMPTY,
FAILED with CANCELLED, and PAGE-FAILED names the writer as cause station (R128, R134, R146). -/
def Parts.EmptyingAQueuedPageCancelsIt : Prop :=
  ∀ (s : State) (code : StationCode) (st : Station) (p : PageId) (n : SlotId) (sl : Slot) (r : Resting) (e : Queued),
    stationOf code = some st → mayPlan s st → (s.page p).state = .queued r → DispatchLaw s →
    e ∈ s.dispatch.queue → e.page = p → s.slotOf p n = some sl → (∀ m, m ≠ n → s.slotOf p m = none) →
    s.inPass sl.story = false → s.stations.outgoing.length < 256 →
    ∃ t, exec (.remove code p n .word) s = .next t ∧
      t = { s with
        bus := doneBus, stories := t.stories
        measure := { s.measure with
          queue := s.measure.queue ++
            if (s.story sl.story).depth.status = .none ∨ (s.story sl.story).depth.status = .stale then []
            else [sl.story] }
        pages := { s.pages with pages := t.pages.pages }
        dispatch := { s.dispatch with
          queue := s.dispatch.queue.filter fun q => decide (q.page ≠ p)
          wanted := if s.dispatch.queue.head? = some e then Vector.replicate 12 none else s.dispatch.wanted }
        stations := { s.stations with
          outgoing := s.stations.outgoing ++ [failedOutgoing s e 10 (some st)] } } ∧
      t.page p = { s.page p with
        slots := Vector.replicate 12 none, state := .resting .empty, lastResult := .failed .cancelled } ∧
      SamePagesBut p s t ∧ t.story sl.story = staledEntry (leftSlot (s.story sl.story)) ∧
      SameStoriesBut sl.story s t ∧ SameMemory s t

/-- PLACE and REMOVE, and any value written to STORY that is neither a story number nor the EMPTY code, are refused on the first
condition of R122 and R124 that holds; a PLACE of the story already in the slot is not, and a REMOVE of an empty slot that passes R122
is DONE with no change. -/
def Parts.StoryWritesRefuseInOrder : Prop :=
  ∀ (s : State) (code : StationCode) (st : Station) (p : PageId) (n : SlotId) (sz : Size) (k : StoryId) (v : Word),
    stationOf code = some st →
    refusedFor (.place code p n sz k) s st
      (afterPlanTests s st p sz
        (if (s.slotOf p n).map Slot.story = some k then .none
        else if (s.story k).phase = .unused then .badState
        else if (s.story k).placement ≠ none then .badState
        else .none)) ∧
    refusedFor (.remove code p n sz) s st (afterPlanTests s st p sz .none) ∧
    (afterPlanTests s st p sz .none = .none → s.slotOf p n = none →
      exec (.remove code p n sz) s = .next { s with bus := doneBus }) ∧
    (2048 ≤ v.toNat → v ≠ 0xFFFFFFFF#32 →
      valueRefused s code st (0x10C0040 + 256 * p.val + 16 * n.val) v (afterPlanTests s st p .word .badValue))

/-- Writes of a slot's story, on a page at rest or QUEUED: place, replace, remove, and their refusals (R122, R124, R125, R127, R128;
values by LIVE_WORD_WRITE: assumption 10). -/
def Obligations.StoryWritesEditThePlan : Prop :=
  Parts.PlaceAndRemoveEditThePlan ∧ Parts.ReplaceKeepsTheSlotsTerms ∧ Parts.EmptyingAQueuedPageCancelsIt ∧
  Parts.StoryWritesRefuseInOrder

/-- SPAN_WRITE, ALLOWANCE_WRITE and POLICY_WRITE on an occupied slot of a page at rest or QUEUED: the clamped value is set; a new span
stales the slot's story, here while it is not in a pass; a new allowance is evaluated for overset when the story is FRESH, with OVERSET
when the mark changes and the writer as its cause station; and a new policy does neither (R77, R78, R126 to R128; the order of notices
by assumption 20). -/
def Parts.SlotTermsAreSet : Prop :=
  ∀ (s : State) (code : StationCode) (st : Station) (p : PageId) (n : SlotId) (sl : Slot) (v : Word) (a : Nat),
    stationOf code = some st → mayPlan s st → editable s p → PlanLaw s → holdersOn s p →
    s.stations.outgoing.length + 3 ≤ 256 → s.slotOf p n = some sl → a = max 1 (min (s.page p).depth v.toNat) →
    (max 1 (min 8 v.toNat) ≠ sl.span → s.inPass sl.story = false →
      ∃ t, exec (.spanWrite code p n .word v) s = .next t ∧ slotEdit p n (some sl.story) st [] s t ∧
        (∀ m, t.slotOf p m = if m = n then some { sl with span := max 1 (min 8 v.toNat) } else s.slotOf p m) ∧
        t.story sl.story = staledEntry (s.story sl.story) ∧ SameStoriesBut sl.story s t ∧
        t.measure = { s.measure with
          queue := s.measure.queue ++
            if (s.story sl.story).depth.status = .none ∨ (s.story sl.story).depth.status = .stale then []
            else [sl.story] }) ∧
    (a ≠ sl.allowance →
      ∃ t, exec (.allowanceWrite code p n .word v) s = .next t ∧
        slotEdit p n (some sl.story) st (oversetTold s sl.story a st) s t ∧
        (∀ m, t.slotOf p m = if m = n then some { sl with allowance := a } else s.slotOf p m) ∧
        t.story sl.story = { s.story sl.story with
          depth := { (s.story sl.story).depth with overset := allowanceMark (s.story sl.story) a } } ∧
        SameStoriesBut sl.story s t ∧ t.measure = s.measure) ∧
    (∀ pol : Policy, pol ≠ sl.policy →
      v = (if pol = .trim then 1#32 else 0#32) →
      ∃ t, exec (.policyWrite code p n .word v) s = .next t ∧ slotEdit p n (some sl.story) st [] s t ∧
        (∀ m, t.slotOf p m = if m = n then some { sl with policy := pol } else s.slotOf p m) ∧
        (∀ k, t.story k = s.story k) ∧ t.measure = s.measure) ∧
    (max 1 (min 8 v.toNat) = sl.span → exec (.spanWrite code p n .word v) s = .next { s with bus := doneBus }) ∧
    (a = sl.allowance → exec (.allowanceWrite code p n .word v) s = .next { s with bus := doneBus }) ∧
    (v = (if sl.policy = .trim then 1#32 else 0#32) →
      exec (.policyWrite code p n .word v) s = .next { s with bus := doneBus })

/-- SPAN_WRITE, ALLOWANCE_WRITE and POLICY_WRITE are refused on the first condition of R122 and R126 that holds. -/
def Parts.SlotTermsRefuseInOrder : Prop :=
  ∀ (s : State) (code : StationCode) (st : Station) (p : PageId) (n : SlotId) (sz : Size) (v : Word),
    stationOf code = some st →
    refusedFor (.spanWrite code p n sz v) s st
      (afterPlanTests s st p sz (if s.slotOf p n = none then .badState else .none)) ∧
    refusedFor (.allowanceWrite code p n sz v) s st
      (afterPlanTests s st p sz (if s.slotOf p n = none then .badState else .none)) ∧
    refusedFor (.policyWrite code p n sz v) s st
      (afterPlanTests s st p sz
        (if v ≠ 0#32 ∧ v ≠ 1#32 then .badValue else if s.slotOf p n = none then .badState else .none))

/-- The terms of a slot of a page at rest or QUEUED are set, or the write is refused (R122, R126 to R128; assumption 20). -/
def Obligations.SlotTermsAreSet : Prop := Parts.SlotTermsAreSet ∧ Parts.SlotTermsRefuseInOrder

/-! ## Dispatch -/

/-- DISPATCH by the system station of a page at rest that holds a story, while the link is not UP or a page is ahead of it: the
page becomes QUEUED, remembers its resting state, and joins the tail with the current edition as its stamp (R133). CANCEL of a
page QUEUED behind the head takes it out again, FAILED with CANCELLED, with PAGE-FAILED (R134, R146); that the hold-wait timer of a
WAITING head goes on is the model's reading (R140; assumption 21). -/
def Parts.DispatchQueuesAndCancelRemoves : Prop :=
  ∀ (s : State) (p : PageId) (r : Resting),
    ((s.page p).state = .resting .empty →
      exec (.dispatch 127#7 p .word) s = .next { s.setLastRefusal .system .badState with bus := refuseBus }) ∧
    ((s.page p).state = .resting r → r ≠ .empty →
      (s.link.state ≠ .up ∨ s.dispatch.engine ≠ .idle) →
      exec (.cancel 127#7 p .word) s = .next { s with bus := doneBus } ∧
      ∃ t, exec (.dispatch 127#7 p .word) s = .next t ∧
        t = { s with
          bus := doneBus, pages := { s.pages with pages := t.pages.pages }
          dispatch := { s.dispatch with queue := s.dispatch.queue ++ [{ page := p, stamp := s.pages.edition }] } } ∧
        t.page p = { s.page p with state := .queued r } ∧ SamePagesBut p s t ∧ SameMemory s t) ∧
    (∀ e, (s.page p).state = .queued r → e ∈ s.dispatch.queue.tail → e.page = p → DispatchLaw s →
      s.stations.outgoing.length < 256 →
      exec (.dispatch 127#7 p .word) s = .next { s with bus := doneBus } ∧
      ∃ t, exec (.cancel 127#7 p .word) s = .next t ∧
        t = { s with
          bus := doneBus, pages := { s.pages with pages := t.pages.pages }
          dispatch := { s.dispatch with queue := s.dispatch.queue.filter fun q => decide (q.page ≠ p) }
          stations := { s.stations with
            outgoing := s.stations.outgoing ++ [failedOutgoing s e 10 (some .system)] } } ∧
        t.page p = { s.page p with state := .resting r, lastResult := .failed .cancelled } ∧
        SamePagesBut p s t ∧ SameMemory s t)

/-- The HOLD-WANTED notices of a page that enters WAITING: one to the holder of each held story, in slot order (R137). -/
def holdWanted (s : State) (e : Queued) : List Outgoing :=
  (occupied (s.page e.page)).filterMap fun ns =>
    (s.story ns.2.story).holder.map fun st =>
      { recipient := st
        notice :=
          { s.storyNotice .holdWanted 0 ns.2.story with
            page := some e.page, slot := some ns.1, cause := some .system, edition := e.stamp, urgent := true } }

/-- The STALE stories of a page, in slot order (R93). -/
def staleOnPage (s : State) (p : PageId) : List StoryId :=
  (s.pageStories p).filter fun k => decide ((s.story k).depth.status = .stale)

/-- DISPATCH with the link UP and the queue empty takes the page into WAITING in the same taking; where a story of it is held
and none has failed, it waits: its stories close, the hold-wait timer starts, its STALE stories are promoted, and each holder
receives HOLD-WANTED (R133, R135, R136, R137, R93, R138). -/
def Parts.DispatchedHeadPageWaits : Prop :=
  ∀ (s : State) (p : PageId) (r : Resting),
    (s.page p).state = .resting r → r ≠ .empty → s.link.state = .up → s.dispatch.engine = .idle →
    s.dispatch.queue = [] → s.dispatch.wanted = Vector.replicate 12 none →
    (∃ n sl, s.slotOf p n = some sl ∧ (s.story sl.story).holder ≠ none) →
    (∀ n sl st, s.slotOf p n = some sl → (s.story sl.story).holder = some st → s.signedOn st = true) →
    (∀ n sl, s.slotOf p n = some sl → (s.story sl.story).depth.status ≠ .faulted ∧
      ((s.story sl.story).depth.status = .fresh → (s.story sl.story).depth.fonts &&& ~~~ s.link.mask = 0 ∧
        (sl.policy = .trim ∨ (s.story sl.story).depth.overset = false))) →
    s.stations.outgoing.length + 12 ≤ 256 →
    ∃ t, exec (.dispatch 127#7 p .word) s = .next t ∧
      t = { s with
        bus := doneBus, stories := t.stories, pages := { s.pages with pages := t.pages.pages }
        measure := { s.measure with
          queue := staleOnPage s p ++ s.measure.queue.filter fun k => decide (k ∉ staleOnPage s p) }
        dispatch := { s.dispatch with
          queue := [{ page := p, stamp := s.pages.edition }], engine := .waiting
          holdWaitTimer := some (s.dispatch.holdWait * 1000), wanted := t.dispatch.wanted }
        stations := { s.stations with
          outgoing := s.stations.outgoing ++ holdWanted s { page := p, stamp := s.pages.edition } } } ∧
      t.page p = { s.page p with state := .waiting r } ∧ SamePagesBut p s t ∧
      (∀ k, t.story k = { s.story k with closing := (s.story k).closing || decide (k ∈ s.pageStories p) }) ∧
      (∀ n, t.dispatch.wanted[n.val]'n.isLt =
        ((s.slotOf p n).bind fun sl => (s.story sl.story).holder)) ∧
      SameMemory s t

/-- DISPATCH and CANCEL, and any other value written to PAGE COMMAND, are refused on the first condition of R132 that holds, and a
DISPATCH that passes those is refused for an EMPTY page (R133). -/
def Parts.PageCommandsRefuseInOrder : Prop :=
  ∀ (s : State) (code : StationCode) (st : Station) (p : PageId) (sz : Size) (v : Word), stationOf code = some st →
    refusedFor (.dispatch code p sz) s st
      (afterSystem st sz (if (s.page p).state = .resting .empty then .badState else .none)) ∧
    refusedFor (.cancel code p sz) s st (afterSystem st sz .none) ∧
    (v ≠ 1#32 → v ≠ 2#32 → valueRefused s code st (0x10C0010 + 256 * p.val) v (afterSystem st .word .badValue))

/-- DISPATCH and CANCEL of pages that are QUEUED, and of one that goes straight into WAITING, and their refusals (R132 to R138, R146;
assumption 21, and values by LIVE_WORD_WRITE: assumption 10). -/
def Obligations.DispatchQueuesOrWaits : Prop :=
  Parts.DispatchQueuesAndCancelRemoves ∧ Parts.DispatchedHeadPageWaits ∧ Parts.PageCommandsRefuseInOrder

/-! ## The measure engine -/

/-- MEASURE_PASS_TAKEN: an IDLE engine takes the head of the queue, with the story's measure as it stands (R68, R88, R89).
MEASURE_TEXT_READ before the last block runs the breaker over it and changes nothing else (R89); that the last block comes with the
completion is the model's choice (assumption 9), as is that nothing happens while the engine is not IDLE or the queue empty, or while
no pass is in flight (assumption 8). -/
def Obligations.PassesAreTakenFromTheHead : Prop :=
  (∀ (s : State) (k : StoryId) (q : List StoryId), s.measure.engine = .idle → s.measure.queue = k :: q →
    ∃ t, exec .measurePassTaken s = .next t ∧
      t = { s with stories := t.stories, measure := { s.measure with queue := q, engine := t.measure.engine } } ∧
      t.measure.engine = .measuring
        { story := k, measure := s.measurePoints k * 144, block := 0, breaker := newRun } ∧
      t.story k = { s.story k with depth := { (s.story k).depth with status := .measuring } } ∧
      SameStoriesBut k s t ∧ SameMemory s t) ∧
  (∀ s : State, s.measure.engine ≠ .idle ∨ s.measure.queue = [] → exec .measurePassTaken s = .next s) ∧
  (∀ (s : State) (p : Pass), s.measure.engine = .measuring p → s.lastBlock p.story p.block = false →
    exec .measureTextRead s = .next { s with measure := { s.measure with
      engine := .measuring { p with
        block := p.block + 1
        breaker := (readBytes p.measure s.font p.breaker (s.textBlock p.story p.block)).1 } } }) ∧
  (∀ s : State, (∀ p, s.measure.engine ≠ .measuring p) → exec .measureTextRead s = .next s)

/-- The measure unit once a pass has ended: HELD with the font-wait timer started when the mark is set, IDLE otherwise (R88,
R95). -/
def passEnded (s : State) : MeasureUnit :=
  { s.measure with
    engine := if s.measure.fontWait then .held else .idle
    fontWaitTimer := if s.measure.fontWait then some 5 else s.measure.fontWaitTimer }

/-- MEASURE_PASS_COMPLETION: the values of R76 are posted with FRESH, the overset mark takes the result of R77, OVERSET is raised when
it changes (R78, R90), and a page WAITING for the story is evaluated (R139). MEASURE_FAULT in its place leaves the values, makes the
story FAULTED, raises MEASURE-FAULT and is handed over as a completion is (R91). The engine leaves MEASURING (R88, R95). That the
completion reads every block still unread is the model's reading (assumption 9). -/
def Obligations.PassesPostOrFault : Prop :=
  ∀ (s : State) (p : Pass) (r : Breaker) (o : Bool), s.measure.engine = .measuring p → r = s.finishPass p →
    (∀ st, (s.story p.story).holder = some st → s.signedOn st = true) →
    s.stations.outgoing.length + 3 ≤ 256 →
    ((s.story p.story).placement = none ∧ o = false ∨
      ∃ pg n sl, (s.story p.story).placement = some (pg, n) ∧ s.slotOf pg n = some sl ∧
        o = (decide (65535 < r.depth ∨ 4095 < r.lines) || decide (sl.allowance < min r.depth 65535))) →
    (∃ t u, exec .measurePassCompletion s = .next t ∧ handed p.story u t ∧
      u = { s with stories := u.stories, measure := passEnded s
                   stations := { s.stations with outgoing := u.stations.outgoing } } ∧
      u.story p.story = { s.story p.story with
        depth :=
          { status := .fresh, depth := min r.depth 65535, lines := min r.lines 4095
            overflow := decide (65535 < r.depth ∨ 4095 < r.lines), fonts := r.mask, overset := o } } ∧
      SameStoriesBut p.story s u ∧ SameMemory s u ∧
      u.stations.outgoing = s.stations.outgoing ++
        if o = (s.story p.story).depth.overset then []
        else toldTwice (s.story p.story) (u.storyNotice .overset (if o then 1 else 2) p.story)) ∧
    (∃ t u, exec .measureFault s = .next t ∧ handed p.story u t ∧
      u = { s with stories := u.stories, measure := passEnded s
                   stations := { s.stations with
                     outgoing := s.stations.outgoing ++
                       toldTwice (s.story p.story) (s.storyNotice .measureFault 0 p.story) } } ∧
      u.story p.story = { s.story p.story with depth := { (s.story p.story).depth with status := .faulted } } ∧
      SameStoriesBut p.story s u ∧ SameMemory s u)

/-- A completion or fault on a story the WAITING head page stands for is handed to the dispatch engine: a fault fails the
dispatch with FAULT at the story's slot (R91, R138, R146). Here no other page is queued, and it is the page's first failing
slot. -/
def Parts.FaultOnAWaitingPageFailsIt : Prop :=
  ∀ (s : State) (p : Pass) (e : Queued) (n : SlotId) (sl : Slot) (r : Resting),
    s.measure.engine = .measuring p → s.dispatch.queue = [e] → (s.page e.page).state = .waiting r →
    s.dispatch.engine = .waiting → (s.story p.story).closing = true →
    s.slotOf e.page n = some sl → sl.story = p.story →
    (∀ m sm, s.slotOf e.page m = some sm → m ≠ n →
      (s.story sm.story).depth.status = .stale ∧ sm.story ≠ p.story) →
    (s.story p.story).holder = none → s.stations.outgoing.length + 2 ≤ 256 →
    ∃ t, exec .measureFault s = .next t ∧
      t = { s with
        stories := t.stories, pages := { s.pages with pages := t.pages.pages }, dispatch := t.dispatch
        stations := t.stations, measure := t.measure } ∧
      (t.story p.story).depth.status = .faulted ∧ (t.story p.story).closing = false ∧
      t.page e.page = { s.page e.page with state := .resting r, lastResult := .failed .fault } ∧
      SamePagesBut e.page s t ∧
      t.dispatch = { s.dispatch with
        queue := [], engine := .idle, holdWaitTimer := none, wanted := Vector.replicate 12 none } ∧
      t.stations = { s.stations with
        outgoing := s.stations.outgoing ++
          [{ recipient := .system, notice := s.storyNotice .measureFault 0 p.story },
           { recipient := .system
             notice := { s.storyNotice .pageFailed 5 p.story with
               page := some e.page, slot := some n, cause := none, edition := e.stamp } }] } ∧
      t.measure = passEnded s ∧ t.link = s.link ∧ SameMemory s t

/-- A release and a measure fault of a closing story evaluate the WAITING page, which passes or fails (R138). -/
def Obligations.WaitingPagesAreEvaluated : Prop := Parts.LastReleaseStartsTheSend ∧ Parts.FaultOnAWaitingPageFailsIt

/-- FONT_WAIT_EXPIRY ends the hold of the measure engine (R95), and HOLD_WAIT_EXPIRY fails the WAITING page, here the only one
queued: with HELD at its lowest slot whose story is held, and with no story held, with TIMEOUT at its lowest slot whose story is STALE
or MEASURING (R140, R146). That neither does anything while its timer is stopped is the model's choice (assumption 8). -/
def Obligations.WaitTimersExpire : Prop :=
  ∀ s : State,
    (s.measure.fontWaitTimer = none → exec .fontWaitExpiry s = .next s) ∧
    (s.measure.fontWaitTimer ≠ none →
      exec .fontWaitExpiry s = .next { s with measure := { s.measure with
        engine := .idle, fontWait := false, fontWaitTimer := none } }) ∧
    (s.dispatch.holdWaitTimer = none → exec .holdWaitExpiry s = .next s) ∧
    (∀ (e : Queued) (r : Resting), s.dispatch.holdWaitTimer ≠ none → s.dispatch.queue = [e] →
      (s.page e.page).state = .waiting r → s.dispatch.engine = .waiting → s.stations.outgoing.length < 256 →
      (∀ m sl, s.slotOf e.page m = some sl → (s.story sl.story).holder ≠ none →
        (∀ j sj, j < m → s.slotOf e.page j = some sj → (s.story sj.story).holder = none) →
        ∃ t, exec .holdWaitExpiry s = .next t ∧ waitingFails e r .held (failedAt s e .held m sl.story) s t) ∧
      ((∀ j sj, s.slotOf e.page j = some sj → (s.story sj.story).holder = none) →
        (∀ m sl, s.slotOf e.page m = some sl →
          ((s.story sl.story).depth.status = .stale ∨ (s.story sl.story).depth.status = .measuring) →
          (∀ j sj, j < m → s.slotOf e.page j = some sj →
            (s.story sj.story).depth.status ≠ .stale ∧ (s.story sj.story).depth.status ≠ .measuring) →
          ∃ t, exec .holdWaitExpiry s = .next t ∧ waitingFails e r .timeout (failedAt s e .timeout m sl.story) s t) ∧
        ((∀ m sl, s.slotOf e.page m = some sl →
            (s.story sl.story).depth.status ≠ .stale ∧ (s.story sl.story).depth.status ≠ .measuring) →
          ∃ t, exec .holdWaitExpiry s = .next t ∧ waitingFails e r .timeout (failedOutgoing s e 2 none) s t)))

/-! ## The send -/

/-- The send once the next `n` characters have been formed into a TEXT frame: they are counted in the page check and leave those still
to be sent (R83, R143). -/
def textFormed (x : SendState) (n : Nat) : SendState :=
  { x with
    stage := .text
    a := (checkFrom (x.a, x.b) (x.reader.chars.take n)).1
    b := (checkFrom (x.a, x.b) (x.reader.chars.take n)).2
    reader := { x.reader with
      chars := x.reader.chars.drop n, framed := x.reader.framed + (x.reader.chars.take n).length } }

/-- What follows in a story's text once the frame before it is done, at an agreed length `n` (R142, R143): a full TEXT frame while that
many characters are certain to be sent; once reading has stopped, a last TEXT frame with what is left, at least one character, and
then SLOT-END with the depth, the lines and the cut flag of the trim, or the breaker's full totals for a story not trimmed; and no
frame while reading has yet to settle it. -/
def textFollows (n : Nat) (x y : SendState) (next : Option Frame) : Prop :=
  (0 < n ∧ n ≤ certain x.reader ∧ y = textFormed x n ∧ next = some (.text (x.reader.chars.take n))) ∨
  (certain x.reader < n ∧ x.reader.finished = true ∧ x.reader.chars ≠ [] ∧
    y = textFormed x x.reader.chars.length ∧ next = some (.text x.reader.chars)) ∨
  (x.reader.finished = true ∧ x.reader.chars = [] ∧ y = { x with stage := .slotEnd } ∧
    ((∃ r, x.reader.trim = some r ∧ next = some (.slotEnd x.slot r.depth r.lines r.cut)) ∨
      (x.reader.trim = none ∧ next = some (.slotEnd x.slot x.reader.breaker.depth x.reader.breaker.lines false)))) ∨
  (certain x.reader < n ∧ x.reader.finished = false ∧ y = { x with stage := .text } ∧ next = none)

/-- The link once a frame has been handed over with no WAIT hold: it is outstanding with one try, which goes out behind what the
transmitter holds (R151, R159). -/
def frameGoes (l : Link) (next : Option Frame) : Link :=
  { l with
    outstanding := next.map fun g => { frame := g, tries := 1 }
    transmitter := l.transmitter ++ (next.map fun g => .attempt g true).toList }

/-- The link once the outstanding frame is done: its tries still to go out start no reply timer, and the receiver hunts (R151, R153,
R159). -/
def frameSettled (l : Link) : Link :=
  { l with
    outstanding := none, replyTimer := none, transmitter := l.transmitter.map orphan, receiver := .hunting
    gapTimer := none }

/-- SEND_TEXT_READ of a block before the engine waits for it runs the reading on and changes nothing else (R143; assumption 18). With
no frame outstanding in a story's text, the frame that the block settles goes out: a full TEXT frame, the last one, or SLOT-END (R82,
R142, R143). Without a send that is still reading it changes nothing, which is the model's choice (assumption 8). -/
def Obligations.SendReadsTheText : Prop :=
  (∀ (s : State) (e : Queued) (rest : List Queued) (x : SendState) (sl : Slot) (rd : Reader),
    s.dispatch.queue = e :: rest → s.dispatch.engine = .sending x → x.reader.finished = false →
    s.slotOf e.page x.slot = some sl →
    rd = readSendBlock (slotMeasure (s.page e.page) sl * 144) s.font sl.allowance x.reader
      (s.textBlock sl.story x.reader.block) →
    ((x.stage ≠ .text ∨ s.link.outstanding ≠ none) →
      exec (.sendTextRead false) s = .next { s with
        dispatch := { s.dispatch with engine := .sending { x with reader := rd } } }) ∧
    (x.stage = .text → s.link.outstanding = none → s.link.waitHold = false → ∀ y next,
      textFollows s.link.agreed { x with reader := rd } y next →
        exec (.sendTextRead false) s = .next { s with
          dispatch := { s.dispatch with engine := .sending y }, link := frameGoes s.link next })) ∧
  ∀ (s : State) (f : Bool), ((∀ x, s.dispatch.engine = .sending x → x.reader.finished = true)) →
    exec (.sendTextRead f) s = .next s

/-- A frame of the send done by ACK lets the next go: SLOT after PAGE-BEGIN, the story's TEXT and SLOT-END after SLOT and TEXT, and the
next slot's SLOT or PAGE-END with the page check after SLOT-END (R142 to R144, R159). By WAIT the frame is done as well, and the next
is held until READY (R160). That the slot in progress stays the last one at PAGE-END is the model's reading (assumption 19). -/
def Parts.AckAndWaitLetTheNextFrameGo : Prop :=
  ∀ (s : State) (e : Queued) (rest : List Queued) (x y : SendState) (o : Outstanding) (next : Option Frame),
    s.dispatch.queue = e :: rest → s.dispatch.engine = .sending x → s.link.state = .up → s.link.waitHold = false →
    s.link.outstanding = some o → isAbort o.frame = false →
    ((∃ sl, x.stage = .pageBegin ∧ s.slotOf e.page x.slot = some sl ∧ y = { x with stage := .slot } ∧
        next = some (.slot x.slot sl.span sl.story (s.story sl.story).revision sl.allowance sl.policy)) ∨
      ((x.stage = .slot ∨ x.stage = .text) ∧ textFollows s.link.agreed x y next) ∨
      (∃ n sl, x.stage = .slotEnd ∧ s.slotOf e.page n = some sl ∧ x.slot < n ∧
        (∀ j, x.slot < j → j < n → s.slotOf e.page j = none) ∧
        y = { x with slot := n, stage := .slot, reader := s.newReader sl } ∧
        next = some (.slot n sl.span sl.story (s.story sl.story).revision sl.allowance sl.policy)) ∨
      (x.stage = .slotEnd ∧ (∀ j, x.slot < j → s.slotOf e.page j = none) ∧ y = { x with stage := .pageEnd } ∧
        next = some (.pageEnd e.page x.b x.a))) →
    exec .ack s = .next { s with
      dispatch := { s.dispatch with engine := .sending y }, link := frameGoes (frameSettled s.link) next } ∧
    ∃ t, exec .wait s = .next t ∧
      t = { s with
        dispatch := { s.dispatch with engine := .sending y }
        link := { frameSettled s.link with
          outstanding := next.map fun g => { frame := g, tries := 1 }, waitHold := true, waitTimer := some 30000 } } ∧
      exec .ready t = .next { t with link := frameGoes (frameSettled s.link) next |> fun l =>
        { l with waitHold := false, waitTimer := none } }

/-- ACK of PAGE-END completes the dispatch, here of the only page queued: its LIVE stories become FROZEN and none is closing, the page
is SENT in the edition stamped, PAGE-SENT is raised, and the engine is IDLE (R39, R145). WAIT of it completes the dispatch as well and
sets the WAIT hold, with no frame held (R144, R160). -/
def Parts.AckOfPageEndCompletesTheSend : Prop :=
  ∀ (s : State) (c : Instr) (e : Queued) (x : SendState) (o : Outstanding),
    s.dispatch.queue = [e] → s.dispatch.engine = .sending x → x.stage = .pageEnd → s.link.state = .up →
    s.link.waitHold = false → s.link.outstanding = some o → isAbort o.frame = false →
    s.stations.outgoing.length < 256 → c = .ack ∨ c = .wait →
    ∃ t, exec c s = .next t ∧
      t = { s with
        stories := t.stories, pages := { s.pages with pages := t.pages.pages }
        dispatch := { s.dispatch with queue := [], engine := .idle, wanted := Vector.replicate 12 none }
        link := if c = .wait then { frameSettled s.link with waitHold := true, waitTimer := some 30000 }
          else frameSettled s.link
        stations := { s.stations with
          outgoing := s.stations.outgoing ++
            [{ recipient := .system
               notice := { s.plainNotice .pageSent 0 with page := some e.page, edition := e.stamp } }] } } ∧
      t.page e.page = { s.page e.page with state := .resting .sent, lastResult := .sent, editionSent := e.stamp } ∧
      SamePagesBut e.page s t ∧
      (∀ k, t.story k =
        if k ∈ s.pageStories e.page then
          { s.story k with
            closing := false
            phase := if (s.story k).phase = .live then .frozen else (s.story k).phase }
        else s.story k) ∧ SameMemory s t

/-- ACK and WAIT carry a send from frame to frame to its completion (R142 to R145; tries still in the transmitter go out in their
order by R151, and `at once` is read so, assumption 16). -/
def Obligations.AcksCarryTheSendToItsEnd : Prop := Parts.AckAndWaitLetTheNextFrameGo ∧ Parts.AckOfPageEndCompletesTheSend

/-! ## The station unit's ring writes -/

/-- The station records but for the rings are the same. -/
def sameButRings (s t : State) : Prop :=
  (∀ u, { t.terminal u with ring := (s.terminal u).ring } = s.terminal u) ∧
  t.stations.system.lastRefusal = s.stations.system.lastRefusal

/-- RING_WRITE_START tests the head notice against its recipient: it is discarded for a station not signed on, discarded with
the overrun flag for a full ring, and otherwise written to slot (write index mod 32) (R109). RING_WRITE_COMPLETE puts the
record in the slot, advances the write index, takes the notice from the queue and moves the lines; a data fault discards it
with the overrun flag; one voided by sign-off or bus reset ends in memory only, whatever is queued by then (R107, R113). That the bytes
outside a faulted write keep their values is assumption 3, and that a start with a write in flight or an empty queue and an end with none
in flight change nothing is the model's choice (assumption 8). -/
def Obligations.RingWritesDeliverTheHead : Prop :=
  (∀ (s : State) (o : Outgoing) (q : List Outgoing), s.stations.outgoing = o :: q → s.stations.ringWrite = none →
    (s.signedOn o.recipient = false →
      exec .ringWriteStart s = .next { s with stations := { s.stations with outgoing := q } }) ∧
    (s.signedOn o.recipient = true → 32 ≤ unread (s.ring o.recipient) →
      ∃ t, exec .ringWriteStart s = .next t ∧
        t = { s with stations := { s.stations with
          outgoing := q, terminals := t.stations.terminals, system := t.stations.system } } ∧
        t.ring o.recipient = { s.ring o.recipient with overrun := true } ∧ sameButRings s t ∧
        ∀ st, st ≠ o.recipient → t.ring st = s.ring st) ∧
    (s.signedOn o.recipient = true → unread (s.ring o.recipient) < 32 →
      exec .ringWriteStart s = .next { s with stations := { s.stations with
        ringWrite := some
          { recipient := o.recipient, notice := o.notice, slot := (s.ring o.recipient).write.toNat % 32
            voided := false, contested := [] } } })) ∧
  (∀ s : State, s.stations.ringWrite ≠ none ∨ s.stations.outgoing = [] → exec .ringWriteStart s = .next s) ∧
  (∀ (s : State) (f : Bool), s.stations.ringWrite = none → exec (.ringWriteComplete f) s = .next s) ∧
  (∀ (s : State) (w : RingWrite) (f : Bool), s.stations.ringWrite = some w → w.voided = true →
    ∃ t, exec (.ringWriteComplete f) s = .next t ∧
      t = { s with mem := t.mem, free := t.free, stations := { s.stations with ringWrite := none } } ∧
      SameMemoryBut (s.ringAddr w.recipient (16 * w.slot)) 16 s t ∧
      (f = false → w.contested = [] → ∀ i b, (noticeBytes w.notice)[i]? = some b →
        t.memByte (s.ringAddr w.recipient (16 * w.slot) + i) = b)) ∧
  ∀ (s : State) (w : RingWrite) (o : Outgoing) (q : List Outgoing),
    s.stations.ringWrite = some w → s.stations.outgoing = o :: q →
    (w.voided = false → w.contested = [] →
      ∃ t, exec (.ringWriteComplete false) s = .next t ∧
        t = { s with
          mem := t.mem, free := t.free
          stations := { s.stations with
            outgoing := q, ringWrite := none, terminals := t.stations.terminals, system := t.stations.system
            groupLines := t.stations.groupLines, systemLine := t.stations.systemLine } } ∧
        t.ring w.recipient = { s.ring w.recipient with write := (s.ring w.recipient).write + 1 } ∧
        (∀ st, st ≠ w.recipient → t.ring st = s.ring st) ∧ sameButRings s t ∧ LineLaw t ∧
        (∀ i b, (noticeBytes w.notice)[i]? = some b → t.memByte (s.ringAddr w.recipient (16 * w.slot) + i) = b) ∧
        SameMemoryBut (s.ringAddr w.recipient (16 * w.slot)) 16 s t) ∧
    (w.voided = false →
      ∃ t, exec (.ringWriteComplete true) s = .next t ∧
        t = { s with
          mem := t.mem, free := t.free
          stations := { s.stations with
            outgoing := q, ringWrite := none, terminals := t.stations.terminals, system := t.stations.system } } ∧
        t.ring w.recipient = { s.ring w.recipient with overrun := true } ∧
        (∀ st, st ≠ w.recipient → t.ring st = s.ring st) ∧ sameButRings s t ∧
        SameMemoryBut (s.ringAddr w.recipient (16 * w.slot)) 16 s t)

/-! ## The typesetter link -/

/-- The present input: high takes a DOWN link to TRAINING with the part's ABILITY handed over and the training timer running,
low takes a TRAINING link DOWN, and expiry of the training timer repeats the ABILITY (R155, R156); a low input with the link UP is
stated under the loss of the link. An expiry of the stopped timer changes nothing, by the model's choice (assumption 8). -/
def Parts.PresenceTrainsTheLink : Prop :=
  ∀ s : State,
    (s.link.state = .down → exec .typesetterPresentHigh s = .next { s with link := { s.link with
      present := true, state := .training, trainingTimer := some 1000
      transmitter := s.link.transmitter ++ [.ability] } }) ∧
    (s.link.state ≠ .down →
      exec .typesetterPresentHigh s = .next { s with link := { s.link with present := true } }) ∧
    (s.link.state = .training → exec .typesetterPresentLow s = .next { s with link := { s.link with
      present := false, state := .down, trainingTimer := none, transmitter := [], receiver := .hunting
      gapTimer := none } }) ∧
    (s.link.state = .down →
      exec .typesetterPresentLow s = .next { s with link := { s.link with present := false } }) ∧
    (s.link.state = .training → s.link.trainingTimer ≠ none →
      exec .trainingTimerExpiry s = .next { s with link := { s.link with
        trainingTimer := some 1000, transmitter := s.link.transmitter ++ [.ability] } }) ∧
    (s.link.trainingTimer = none → exec .trainingTimerExpiry s = .next s)

/-- A valid ABILITY taken while TRAINING records the mask and the largest payload, clamped to 16 to 240, agrees the text length
and brings the link UP with LINK (UP); here no page is queued (R156). A retraining while UP with no send replaces the record
and the ability goes out again (R157); with a send it is stated under the failure of sends. While DOWN it is discarded (R153). That a
whole frame leaves the receiver hunting is the model's choice (assumption 17). -/
def Parts.AbilityBringsTheLinkUp : Prop :=
  ∀ (s : State) (mask largest : Byte),
    (s.link.state = .training → s.dispatch.queue = [] → s.stations.outgoing.length < 256 →
      exec (.typesetterAbility mask largest) s = .next { s with
        link := { s.link with
          state := .up, mask := mask, largest := max 16 (min 240 largest.toNat)
          agreed := max 16 (min 240 largest.toNat), trainingTimer := none, receiver := .hunting, gapTimer := none }
        stations := { s.stations with outgoing := s.stations.outgoing ++ [linkNotice s 1] } }) ∧
    (s.link.state = .up → (∀ x, s.dispatch.engine ≠ .sending x) →
      exec (.typesetterAbility mask largest) s = .next { s with
        link := { s.link with
          mask := mask, largest := max 16 (min 240 largest.toNat), agreed := max 16 (min 240 largest.toNat)
          waitHold := false, waitTimer := none, receiver := .hunting, gapTimer := none
          transmitter := s.link.transmitter ++ [.ability] } }) ∧
    (s.link.state = .down → exec (.typesetterAbility mask largest) s = .next s)

/-- From the present input to UP (R155 to R157). -/
def Obligations.TrainingBringsTheLinkUp : Prop := Parts.PresenceTrainsTheLink ∧ Parts.AbilityBringsTheLinkUp

/-- The events that are failed tries of an outstanding frame: NAK (FRAME), NAK (PAGE) to a frame other than PAGE-END and ABORT, and the
expiry of a running reply timer (R159). -/
def failsTheTry (s : State) (o : Outstanding) (c : Instr) : Prop :=
  c = .nak .frame ∨ (c = .nak .page ∧ isAbort o.frame = false ∧ isPageEnd o.frame = false) ∨
    (c = .replyTimerExpiry ∧ s.link.replyTimer ≠ none)

/-- The link as an event that is a frame taken leaves its receiver, hunting; an expiry does not touch it (R153). -/
def heard (c : Instr) (l : Link) : Link := if c = .replyTimerExpiry then l else { l with receiver := .hunting, gapTimer := none }

/-- A failed try of a frame tried fewer than three times goes out again with its count one higher; a try still going out finishes
with no reply timer, and the new try follows it (R151, R159; assumptions 16 and 22). -/
def Parts.FailedTriesGoOutAgain : Prop :=
  ∀ (s : State) (c : Instr) (o : Outstanding), s.link.state = .up → s.link.waitHold = false →
    s.link.outstanding = some o → failsTheTry s o c → o.tries < 3 →
    exec c s = .next { s with link := { heard c s.link with
      outstanding := some { o with tries := o.tries + 1 }, replyTimer := none
      transmitter := s.link.transmitter.map orphan ++ [.attempt o.frame true] } }

/-- What the loss of the link leaves of the dispatch, from the state in which the link has left UP and LINK (DOWN) is raised (R141, R146,
R147, R158): an IDLE engine is as it was, an ABORT ends, a WAITING page goes back to QUEUED with its stories open, its timer stopped and
the wanted record kept, and a SENDING page fails with LINK and sends no ABORT. -/
def lossTaken (s t : State) : Prop :=
  (s.dispatch.engine = .idle → t = s) ∧
  (s.dispatch.engine = .aborting → t = { s with dispatch := { s.dispatch with engine := .idle } }) ∧
  (∀ e r, s.dispatch.engine = .waiting → s.waitingHead = some e → (s.page e.page).state = .waiting r →
    t = { s with
      stories := t.stories, pages := { s.pages with pages := t.pages.pages }
      dispatch := { s.dispatch with engine := .idle, holdWaitTimer := none } } ∧
    t.page e.page = { s.page e.page with state := .queued r } ∧ SamePagesBut e.page s t ∧
    ∀ k, t.story k = { s.story k with closing := (s.story k).closing && decide (k ∉ s.pageStories e.page) }) ∧
  (∀ e rest x r, s.dispatch.engine = .sending x → s.dispatch.queue = e :: rest → (s.page e.page).state = .sending r →
    s.stations.outgoing.length < 256 →
    headFails e r .link (failedOutgoing s e 6 none) s t ∧ t.link = s.link ∧
    t.dispatch = { s.dispatch with
      queue := (e :: rest).filter fun q => decide (q.page ≠ e.page), engine := .idle
      wanted := Vector.replicate 12 none })

/-- A link that is UP leaves UP for DOWN when the present input goes low (R155), and for TRAINING with the part's ABILITY going out
when the third try of a frame fails (R159): the outstanding frame and the WAIT hold are gone, the latch is set, LINK (DOWN) is raised,
and the loss is handed to the dispatch engine (R158). In DOWN the transmitter sends nothing more and the receiver hunts (R154). That
the ABILITY follows tries handed over before it, which still go out, is the model's reading (R151; assumption 16). -/
def Parts.LeavingUpReachesTheEngine : Prop :=
  ∀ s : State, s.link.state = .up → s.stations.outgoing.length < 256 →
    (∃ t, exec .typesetterPresentLow s = .next t ∧ lossTaken { s with
      link := { s.link with
        present := false, state := .down, outstanding := none, waitHold := false, lost := true, trainingTimer := none
        replyTimer := none, waitTimer := none, gapTimer := none, receiver := .hunting, transmitter := [] }
      stations := { s.stations with outgoing := s.stations.outgoing ++ [linkNotice s 2] } } t) ∧
    ∀ (c : Instr) (o : Outstanding), s.link.waitHold = false → s.link.outstanding = some o → failsTheTry s o c →
      3 ≤ o.tries →
      ∃ t, exec c s = .next t ∧ lossTaken { s with
        link := { heard c s.link with
          state := .training, outstanding := none, waitHold := false, lost := true, trainingTimer := some 1000
          replyTimer := none, waitTimer := none, transmitter := s.link.transmitter.map orphan ++ [.ability] }
        stations := { s.stations with outgoing := s.stations.outgoing ++ [linkNotice s 2] } } t

/-- A failed try goes out again up to three times in all, and a link that leaves UP hands its loss to the dispatch engine (R141, R151,
R155, R158, R159; assumptions 16 and 22). -/
def Obligations.FailedTriesAndLossOfTheLink : Prop := Parts.FailedTriesGoOutAgain ∧ Parts.LeavingUpReachesTheEngine

/-- What fails the SENDING head page with the link UP, with its cause, the notice raised, the bus and the link as the ABORT finds it:
CANCEL, NAK (REFUSED), NAK (PAGE) to PAGE-END, the expiry of the WAIT timer, a data fault on the text, and a new ABILITY, whose record
is taken and behind which the part's own ABILITY goes out first (R134, R143, R144, R157, R160). -/
def failsTheSend (s : State) (e : Queued) (x : SendState) (c : Instr) (cause : Cause) (told : Outgoing) (bus : BusOut)
    (l : Link) : Prop :=
  (c = .cancel 127#7 e.page .word ∧ cause = .cancelled ∧ told = failedOutgoing s e 10 (some .system) ∧ bus = doneBus ∧
    l = s.link) ∨
  (bus = s.bus ∧
    ((∃ o, s.link.waitHold = false ∧ s.link.outstanding = some o ∧ isAbort o.frame = false ∧
        ((c = .nak .refused ∧ cause = .typesetter) ∨ (c = .nak .page ∧ isPageEnd o.frame = true ∧ cause = .check)) ∧
        told = failedOutgoing s e (BitVec.ofNat 8 (causeCode cause)) none ∧
        l = { s.link with receiver := .hunting, gapTimer := none }) ∨
      (c = .waitTimerExpiry ∧ s.link.waitTimer ≠ none ∧ cause = .stalled ∧ told = failedOutgoing s e 7 none ∧
        l = s.link) ∨
      (∃ sl, c = .sendTextRead true ∧ x.reader.finished = false ∧ s.slotOf e.page x.slot = some sl ∧ cause = .fault ∧
        told = failedAt s e .fault x.slot sl.story ∧ l = s.link) ∨
      ∃ mask largest, c = .typesetterAbility mask largest ∧ cause = .link ∧ told = failedOutgoing s e 6 none ∧
        l = { s.link with
          mask := mask, largest := max 16 (min 240 largest.toNat), agreed := max 16 (min 240 largest.toNat)
          transmitter := s.link.transmitter ++ [.ability], receiver := .hunting, gapTimer := none }))

/-- A send that fails while the link is UP is followed by an ABORT, whatever fails it: the page is at rest, FAILED with the cause, and
its stories no longer closing; the engine is ABORTING; and an ABORT of the page is outstanding with one try, which goes out, with no
WAIT hold (R146, R147, R157, R160). That it goes out behind every frame and try handed to the transmitter before it, the abandoned
frame's too, which still go out whole, is the model's reading of R147's `in its place` and R160's `at once` by the order of R151
(assumption 16). -/
def Parts.FailedSendsAbort : Prop :=
  ∀ (s : State) (e : Queued) (rest : List Queued) (x : SendState) (r : Resting) (c : Instr) (cause : Cause)
    (told : Outgoing) (bus : BusOut) (l : Link),
    s.link.state = .up → s.dispatch.queue = e :: rest → s.dispatch.engine = .sending x →
    (s.page e.page).state = .sending r → s.stations.outgoing.length < 256 → failsTheSend s e x c cause told bus l →
    ∃ t, exec c s = .next t ∧ headFails e r cause told { s with bus := bus } t ∧
      t.dispatch = { s.dispatch with
        queue := (e :: rest).filter fun q => decide (q.page ≠ e.page), engine := .aborting
        wanted := Vector.replicate 12 none } ∧
      t.link = { l with
        outstanding := some { frame := .abort e.page, tries := 1 }, waitHold := false, replyTimer := none
        waitTimer := none, transmitter := l.transmitter.map orphan ++ [.attempt (.abort e.page) true] }

/-- The expiry of the WAIT timer with no send ends the hold with nothing more (R160); with the timer stopped nothing happens, by the
model's choice (assumption 8). That tries already in the transmitter still go out is the model's reading (R151; assumption 16). -/
def Parts.WaitExpiryEndsTheHold : Prop :=
  ∀ s : State,
    (s.link.waitTimer = none → exec .waitTimerExpiry s = .next s) ∧
    ((∀ x, s.dispatch.engine ≠ .sending x) → s.link.waitTimer ≠ none → s.link.outstanding = none →
      exec .waitTimerExpiry s = .next { s with link := { s.link with
        waitHold := false, waitTimer := none, replyTimer := none
        transmitter := s.link.transmitter.map orphan } })

/-- A send that fails while the link is UP is followed by an ABORT, for every cause that R147 lists, and a WAIT hold with no send
ends alone (R143, R144, R146, R147, R151, R157, R160; the ABORT's place behind tries handed over before it by assumption 16). -/
def Obligations.FailedSendsAbort : Prop := Parts.FailedSendsAbort ∧ Parts.WaitExpiryEndsTheHold

/-- Replies that find no frame of theirs are unsolicited and change nothing: ACK, NAK and WAIT with no frame outstanding or
with it held, READY with the WAIT hold clear, each with the receiver hunting (R161); and a DOWN link takes none (R153). -/
def Parts.UnsolicitedRepliesAreDropped : Prop :=
  ∀ (s : State) (r : NakReason), s.link.receiver = .hunting → s.link.gapTimer = none →
    ((s.link.state ≠ .up ∨ s.link.outstanding = none ∨ s.link.waitHold = true) →
      exec .ack s = .next s ∧ exec (.nak r) s = .next s ∧ exec .wait s = .next s) ∧
    ((s.link.state ≠ .up ∨ s.link.waitHold = false) → exec .ready s = .next s)

/-- ACK, WAIT, NAK (PAGE) and NAK (REFUSED) end an ABORT: no frame is outstanding and the engine is IDLE, here with no page
queued (R147, R159); READY with no frame held ends the WAIT hold alone (R160). -/
def Parts.RepliesEndAnAbort : Prop :=
  (∀ (s : State) (c : Instr) (o : Outstanding), s.link.state = .up → s.link.waitHold = false →
    s.link.outstanding = some o → isAbort o.frame = true → s.dispatch.engine = .aborting → s.dispatch.queue = [] →
    (c = .ack ∨ c = .wait ∨ c = .nak .page ∨ c = .nak .refused) →
    ∃ t, exec c s = .next t ∧ t = { s with link := t.link, dispatch := { s.dispatch with engine := .idle } } ∧
      t.link.outstanding = none ∧ t.link.replyTimer = none ∧ t.link.state = .up ∧
      (t.link.waitHold = true ↔ c = .wait)) ∧
  ∀ s : State, s.link.state = .up → s.link.waitHold = true → s.link.outstanding = none →
    exec .ready s = .next { s with link := { s.link with
      waitHold := false, waitTimer := none, receiver := .hunting, gapTimer := none } }

/-- Replies that concern no frame of a send: to an ABORT (R147), and unsolicited (R161). -/
def Obligations.RepliesEndAbortsOrAreDropped : Prop := Parts.UnsolicitedRepliesAreDropped ∧ Parts.RepliesEndAnAbort

/-- TRY_END and PART_ABILITY_END: the frame going out leaves the transmitter, and the reply timer starts for a try whose frame
is still outstanding (R151, R159). When each comes is timing (assumption 15), and that it does nothing unless its frame is the one
going out is the model's choice (assumption 8). -/
def Parts.TransmitterSendsInOrder : Prop :=
  ∀ (s : State) (f : Frame) (q : List Transmission),
    (s.link.transmitter = .attempt f true :: q →
      exec .tryEnd s = .next { s with link := { s.link with transmitter := q, replyTimer := some 400 } }) ∧
    (s.link.transmitter = .attempt f false :: q →
      exec .tryEnd s = .next { s with link := { s.link with transmitter := q } }) ∧
    (s.link.transmitter = .ability :: q →
      exec .tryEnd s = .next s ∧
      exec .partAbilityEnd s = .next { s with link := { s.link with transmitter := q } }) ∧
    (s.link.transmitter = [] → exec .tryEnd s = .next s) ∧
    (s.link.transmitter.head? ≠ some .ability → exec .partAbilityEnd s = .next s)

/-- Frames handed to the transmitter go out one after another, whole and in the order they are handed over (R151): while the link stays
out of DOWN no command takes a frame from the transmitter but the end of the one going out, and what a command hands over joins the end;
a try may lose its mark as the outstanding frame's, and nothing else of it changes. -/
def Parts.FramesGoOutWholeInOrder : Prop :=
  ∀ (c : Instr) (s t : State), exec c s = .next t → t.link.state ≠ .down → (∀ strap present, c ≠ .powerOn strap present) →
    c ≠ .tryEnd → c ≠ .partAbilityEnd →
    ∃ q, (t.link.transmitter.map transmissionBytes) = s.link.transmitter.map transmissionBytes ++ q

/-- The transmitter (R151; assumptions 8 and 15). -/
def Obligations.TransmitterSendsInOrder : Prop := Parts.TransmitterSendsInOrder ∧ Parts.FramesGoOutWholeInOrder

/-- The command that a frame of the typesetter stands for, by its kind and payload: ABILITY with two payload bytes, ACK, WAIT and READY
with none, and NAK with one, which is 1 FRAME, 2 PAGE or 3 REFUSED; none for any other kind, length or reason (R153, section 11.9). -/
def frameMeans (kind : Byte) (payload : List Byte) : Option Instr :=
  if kind = 0x61#8 then
    match payload with
    | [mask, largest] => some (.typesetterAbility mask largest)
    | _ => none
  else if kind = 0x62#8 then if payload = [] then some .ack else none
  else if kind = 0x63#8 then
    if payload = [1#8] then some (.nak .frame)
    else if payload = [2#8] then some (.nak .page)
    else if payload = [3#8] then some (.nak .refused)
    else none
  else if kind = 0x64#8 then if payload = [] then some .wait else none
  else if kind = 0x65#8 then if payload = [] then some .ready else none
  else none

/-- The receiver: a byte of 0xA5 while hunting begins a frame and any other is discarded; within a frame the bytes are gathered, and a
length above 240 returns it to hunting; a complete frame with a check that matches is taken when its kind, its length and a NAK's
reason are ones of R153, and is dropped otherwise; a gap of more than 20 ms abandons it; a DOWN link discards every byte (R153). That
an expiry of the stopped gap timer changes nothing is the model's choice (assumption 8). -/
def Obligations.ReceiverGathersFrames : Prop :=
  ∀ (s : State) (b : Byte) (bytes : List Byte),
    (s.link.state = .down → exec (.incomingByte b) s = .next s) ∧
    (s.link.state ≠ .down → s.link.receiver = .hunting →
      exec (.incomingByte 0xA5#8) s =
        .next { s with link := { s.link with receiver := .within [], gapTimer := some 20 } } ∧
      (b ≠ 0xA5#8 → exec (.incomingByte b) s = .next s)) ∧
    (s.link.state ≠ .down → s.link.receiver = .within bytes →
      (bytes.length = 1 → 240 < b.toNat →
        exec (.incomingByte b) s = .next { s with link := { s.link with receiver := .hunting, gapTimer := none } }) ∧
      (bytes = [] ∨ (bytes.length = 1 ∧ b.toNat ≤ 240) →
        exec (.incomingByte b) s =
          .next { s with link := { s.link with receiver := .within (bytes ++ [b]), gapTimer := some 20 } }) ∧
      (∀ kind len rest, bytes = kind :: len :: rest → rest.length < len.toNat + 1 →
        exec (.incomingByte b) s =
          .next { s with link := { s.link with receiver := .within (bytes ++ [b]), gapTimer := some 20 } }) ∧
      (∀ kind len payload x, bytes = kind :: len :: payload ++ [x] → payload.length = len.toNat →
        [x, b] ≠ checkOf (kind :: len :: payload) →
        exec (.incomingByte b) s = .next { s with link := { s.link with receiver := .hunting, gapTimer := none } }) ∧
      (∀ kind len payload x, bytes = kind :: len :: payload ++ [x] → payload.length = len.toNat → len.toNat ≤ 240 →
        [x, b] = checkOf (kind :: len :: payload) →
        (∀ c, frameMeans kind payload = some c → exec (.incomingByte b) s = exec c s) ∧
        (frameMeans kind payload = none →
          exec (.incomingByte b) s = .next { s with link := { s.link with receiver := .hunting, gapTimer := none } }))) ∧
    (s.link.gapTimer ≠ none →
      exec .receiverGapExpiry s = .next { s with link := { s.link with receiver := .hunting, gapTimer := none } }) ∧
    (s.link.gapTimer = none → exec .receiverGapExpiry s = .next s)

/-! ## Resets and time -/

/-- BUS_RESET: every terminal is signed off with its ring empty, the outgoing queue and every viewer list are emptied, every hold is
released, a HELD measure engine is released, the lines are low, everything else is kept, and a WAITING page that a released story
belongs to is evaluated, so that it may enter SENDING (R21, R34, R95, R107, R139, R171, R176). That the queue of commands is kept, where
R176 drops the accesses not yet taken and the sender would withdraw them, and that the bus goes on showing the latest access's answer are
the model's choice (assumption 24). -/
def Obligations.BusResetSignsEveryoneOff : Prop :=
  ∀ s : State, PlanLaw s → DispatchLaw s →
    ∃ t v, exec .busReset s = .next t ∧
      ((∀ k, (s.story k).closing = true → (s.story k).holder = none) ∨ s.waitingHead = none → t = v) ∧
      (∀ e r k, s.waitingHead = some e → (s.page e.page).state = .waiting r → (s.story k).closing = true →
        (s.story k).holder ≠ none → evaluated e r v t) ∧
      v = { s with
        stories := v.stories
        stations := { s.stations with
          terminals := v.stations.terminals, outgoing := [], groupLines := 0, systemLine := false
          system := { s.stations.system with ring := { write := 0, read := 0, overrun := false } }
          ringWrite := s.stations.ringWrite.map fun w => { w with voided := true } }
        measure := { s.measure with
          engine := if s.measure.engine = .held then .idle else s.measure.engine
          fontWait := false, fontWaitTimer := none } } ∧
      (∀ u, v.terminal u = { s.terminal u with
        signedOn := false, holdCount := 0, ring := { write := 0, read := 0, overrun := false } }) ∧
      (∀ k, v.story k = { s.story k with holder := none, viewers := [] }) ∧ SameMemory s v

/-- POWER_ON gives every record its power-on value, reads the strap, and takes the link to TRAINING at once when the present
input is high; memory is neither read nor changed (R155, R165, R177; what else it keeps is assumption 24). TIMEBASE_TICK counts
one millisecond modulo 2^32 (R106). -/
def Obligations.PowerOnRestartsThePart : Prop :=
  ∀ (s : State) (strap : BitVec 7) (present : Bool),
    (∃ t, exec (.powerOn strap present) s = .next t ∧
      t = { State.reset with
        strap := strap, mem := s.mem, free := s.free, pending := s.pending, link := t.link } ∧
      t.link = { State.reset.link with
        present := present
        state := if present then .training else .down
        trainingTimer := if present then some 1000 else none
        transmitter := if present then [.ability] else [] } ∧
      t.base = strap.toNat * 0x2000000 ∧ SameMemory s t) ∧
    exec .timebaseTick s = .next { s with timebase := s.timebase + 1 }
end

