-- ==== Sys2Proof/Laws/Table.lean ====
section
/-! SUPPORT. The laws of sparse tables and of memory: read after set, and the canonical form that every operation keeps. -/

namespace Sys2Proof.Machine

variable {α : Type}

@[simp] theorem tableGet_nil (d : Nat → α) (k : Nat) : tableGet d [] k = d k := rfl

theorem tableGet_erase_same (d : Nat → α) (t : List (Nat × α)) (k : Nat) : tableGet d (tableErase t k) k = d k := by
  induction t with
  | nil => rfl
  | cons e t ih =>
    unfold tableErase
    split
    · exact ih
    · rename_i h
      simp [tableGet, h, ih]

theorem tableGet_erase_ne (d : Nat → α) (t : List (Nat × α)) {j k : Nat} (h : j ≠ k) :
    tableGet d (tableErase t k) j = tableGet d t j := by
  induction t with
  | nil => rfl
  | cons e t ih =>
    unfold tableErase
    split
    · rename_i he
      rw [ih]
      simp [tableGet, he, Ne.symm h]
    · simp [tableGet, ih]

theorem tableGet_insert_same (d : Nat → α) (t : List (Nat × α)) (k : Nat) (v : α) (h : ∀ e ∈ t, e.1 ≠ k) :
    tableGet d (tableInsert t k v) k = v := by
  induction t with
  | nil => simp [tableInsert, tableGet]
  | cons e t ih =>
    unfold tableInsert
    split
    · simp [tableGet]
    · have he : e.1 ≠ k := h e (by simp)
      simp only [tableGet, he, if_false]
      exact ih fun x hx => h x (by simp [hx])

theorem tableGet_insert_ne (d : Nat → α) (t : List (Nat × α)) {j k : Nat} (v : α) (h : j ≠ k) :
    tableGet d (tableInsert t k v) j = tableGet d t j := by
  induction t with
  | nil => simp [tableInsert, tableGet, Ne.symm h]
  | cons e t ih =>
    unfold tableInsert
    split
    · simp [tableGet, Ne.symm h]
    · simp [tableGet, ih]

theorem tableErase_not_mem (t : List (Nat × α)) (k : Nat) : ∀ e ∈ tableErase t k, e.1 ≠ k := by
  induction t with
  | nil => simp [tableErase]
  | cons e t ih =>
    unfold tableErase
    split
    · exact ih
    · rename_i h
      intro x hx
      rcases List.mem_cons.1 hx with rfl | hx
      · exact h
      · exact ih x hx

/-- What was set is read back. -/
@[simp] theorem tableGet_set_same [DecidableEq α] (d : Nat → α) (t : List (Nat × α)) (k : Nat) (v : α) :
    tableGet d (tableSet d t k v) k = v := by
  unfold tableSet
  split
  · rename_i h
    rw [tableGet_erase_same, h]
  · exact tableGet_insert_same d _ k v (tableErase_not_mem t k)

/-- A set leaves every other number alone. -/
@[simp] theorem tableGet_set_ne [DecidableEq α] (d : Nat → α) (t : List (Nat × α)) {j k : Nat} (v : α) (h : j ≠ k) :
    tableGet d (tableSet d t k v) j = tableGet d t j := by
  unfold tableSet
  split
  · exact tableGet_erase_ne d t h
  · rw [tableGet_insert_ne d _ v h, tableGet_erase_ne d t h]

theorem tableGet_set [DecidableEq α] (d : Nat → α) (t : List (Nat × α)) (j k : Nat) (v : α) :
    tableGet d (tableSet d t k v) j = if j = k then v else tableGet d t j := by
  by_cases h : j = k
  · subst h; simp
  · simp [h]

theorem tableWfFrom_mono [DecidableEq α] (d : Nat → α) {lo hi : Nat} (h : hi ≤ lo) {t : List (Nat × α)}
    (w : tableWfFrom d lo t = true) : tableWfFrom d hi t = true := by
  cases t with
  | nil => rfl
  | cons e t =>
    simp only [tableWfFrom, Bool.and_eq_true, decide_eq_true_eq] at w ⊢
    exact ⟨⟨Nat.le_trans h w.1.1, w.1.2⟩, w.2⟩

theorem tableWfFrom_erase [DecidableEq α] (d : Nat → α) (t : List (Nat × α)) (k : Nat) :
    ∀ lo, tableWfFrom d lo t = true → tableWfFrom d lo (tableErase t k) = true := by
  induction t with
  | nil => intro lo _; rfl
  | cons e t ih =>
    intro lo w
    simp only [tableWfFrom, Bool.and_eq_true, decide_eq_true_eq] at w
    unfold tableErase
    split
    · exact tableWfFrom_mono d (by omega) (ih _ w.2)
    · simp only [tableWfFrom, Bool.and_eq_true, decide_eq_true_eq]
      exact ⟨w.1, ih _ w.2⟩

theorem tableWfFrom_insert [DecidableEq α] (d : Nat → α) (t : List (Nat × α)) (k : Nat) (v : α) (hv : v ≠ d k)
    (h : ∀ e ∈ t, e.1 ≠ k) :
    ∀ lo, lo ≤ k → tableWfFrom d lo t = true → tableWfFrom d lo (tableInsert t k v) = true := by
  induction t with
  | nil => intro lo hk _; simp [tableInsert, tableWfFrom, hk, hv]
  | cons e t ih =>
    intro lo hk w
    simp only [tableWfFrom, Bool.and_eq_true, decide_eq_true_eq] at w
    unfold tableInsert
    split
    · simp only [tableWfFrom, Bool.and_eq_true, decide_eq_true_eq]
      exact ⟨⟨hk, hv⟩, ⟨by omega, w.1.2⟩, w.2⟩
    · simp only [tableWfFrom, Bool.and_eq_true, decide_eq_true_eq]
      have he : e.1 ≠ k := h e (by simp)
      exact ⟨w.1, ih (fun x hx => h x (by simp [hx])) _ (by omega) w.2⟩

/-- A set keeps the canonical form. -/
theorem tableWf_set [DecidableEq α] (d : Nat → α) (t : List (Nat × α)) (k : Nat) (v : α) (w : tableWf d t = true) :
    tableWf d (tableSet d t k v) = true := by
  unfold tableSet
  split
  · exact tableWfFrom_erase d t k 0 w
  · rename_i h
    exact tableWfFrom_insert d _ k v h (tableErase_not_mem t k) 0 (Nat.zero_le _) (tableWfFrom_erase d t k 0 w)

theorem tableErase_mem (t : List (Nat × α)) (k : Nat) : ∀ e ∈ tableErase t k, e ∈ t := by
  induction t with
  | nil => simp [tableErase]
  | cons x t ih =>
    unfold tableErase
    split
    · intro e he; exact List.mem_cons_of_mem _ (ih e he)
    · intro e he
      rcases List.mem_cons.1 he with rfl | he
      · simp
      · exact List.mem_cons_of_mem _ (ih e he)

theorem tableInsert_mem (t : List (Nat × α)) (k : Nat) (v : α) : ∀ e ∈ tableInsert t k v, e = (k, v) ∨ e ∈ t := by
  induction t with
  | nil => simp [tableInsert]
  | cons x t ih =>
    unfold tableInsert
    split
    · intro e he
      simpa using he
    · intro e he
      rcases List.mem_cons.1 he with rfl | he
      · simp
      · rcases ih e he with h | h
        · exact .inl h
        · exact .inr (List.mem_cons_of_mem _ h)

/-- An entry of a table after a set is the one set, or one that was there. -/
theorem tableSet_mem [DecidableEq α] (d : Nat → α) (t : List (Nat × α)) (k : Nat) (v : α) :
    ∀ e ∈ tableSet d t k v, e = (k, v) ∨ e ∈ t := by
  unfold tableSet
  split
  · intro e he; exact .inr (tableErase_mem t k e he)
  · intro e he
    rcases tableInsert_mem _ k v e he with h | h
    · exact .inl h
    · exact .inr (tableErase_mem t k e h)

/-- A number that a table does not list holds its default. -/
theorem tableGet_of_not_mem (d : Nat → α) (t : List (Nat × α)) (k : Nat) (h : ∀ e ∈ t, e.1 ≠ k) :
    tableGet d t k = d k := by
  induction t with
  | nil => rfl
  | cons e t ih =>
    have he : e.1 ≠ k := h e (by simp)
    simp only [tableGet, he, if_false]
    exact ih fun x hx => h x (by simp [hx])

/-! ## Memory -/

/-- Memory is in its canonical form: equal memories are equal lists. -/
abbrev Memory.wf (m : List Host.Cell) : Prop := tableWf unwritten m = true

theorem storeBytes_wf (m : List Host.Cell) (bs : List Byte) : ∀ a, Memory.wf m → Memory.wf (storeBytes m a bs) := by
  induction bs generalizing m with
  | nil => intro a h; exact h
  | cons b bs ih => intro a h; exact ih _ _ (tableWf_set _ _ _ _ h)

/-- A store leaves every byte outside it alone. -/
theorem get_storeBytes_ne (bs : List Byte) :
    ∀ (m : List Host.Cell) (a x : Nat), x < a ∨ a + bs.length ≤ x →
      tableGet unwritten (storeBytes m a bs) x = tableGet unwritten m x := by
  induction bs with
  | nil => intro m a x _; rfl
  | cons b bs ih =>
    intro m a x h
    simp only [List.length_cons] at h
    rw [storeBytes, ih _ _ _ (by omega), tableGet_set_ne _ _ _ (by omega)]

/-- A byte stored is read back. -/
theorem get_storeBytes_at (bs : List Byte) :
    ∀ (m : List Host.Cell) (a i : Nat) (h : i < bs.length), tableGet unwritten (storeBytes m a bs) (a + i) = bs[i] := by
  induction bs with
  | nil => intro m a i h; simp at h
  | cons b bs ih =>
    intro m a i h
    cases i with
    | zero =>
      rw [storeBytes, get_storeBytes_ne _ _ _ _ (by omega)]
      simp
    | succ i =>
      have hi : i < bs.length := by simpa using h
      have := ih (tableSet unwritten m a b) (a + 1) i hi
      rw [storeBytes, show a + (i + 1) = a + 1 + i by omega, this]
      rfl

@[simp] theorem dataBytes_length (n : Nat) (data : Data) : (dataBytes n data).length = n := by simp [dataBytes]

/-- Memory after a plain write keeps the canonical form, whether memory completes it or reports a data fault. -/
theorem plainStore_wf (s : State) (a n : Nat) (data : Data) (fault : Bool) (h : Memory.wf s.mem) :
    Memory.wf (s.plainStore a n data fault).mem := by
  unfold State.plainStore
  split
  · exact storeBytes_wf _ _ _ h
  · exact storeBytes_wf _ _ _ h

/-- A plain write leaves every byte outside it alone, whether memory completes it or reports a data fault. -/
theorem plainStore_memByte_ne (s : State) (a n : Nat) (data : Data) (fault : Bool) (x : Nat)
    (h : x < a ∨ a + n ≤ x) : (s.plainStore a n data fault).memByte x = s.memByte x := by
  unfold State.plainStore
  split
  · exact get_storeBytes_ne _ _ _ _ (by simpa using h)
  · exact get_storeBytes_ne _ _ _ _ (by simpa using h)

/-- A plain write that memory completes leaves the bytes written. -/
theorem plainStore_memByte_at (s : State) (a n : Nat) (data : Data) (i : Nat) (h : i < n) :
    (s.plainStore a n data false).memByte (a + i) = data.extractLsb' (8 * i) 8 := by
  have := get_storeBytes_at (dataBytes n data) s.mem a i (by simpa using h)
  simpa [State.plainStore, State.store, State.memByte, dataBytes] using this

end Sys2Proof.Machine
end

