-- ==== Sys2Proof/Laws/State.lean ====
section
/-! SUPPORT. What every record update leaves: one lemma for each field of State under each update, one for each record
under each update, and reading back the record set. No later proof unfolds a record update. -/

namespace Sys2Proof.Machine

variable (s : State)

/-! ## answer -/

@[simp] theorem answer_strap (a : Answer) (d : Option Data) : (s.answer a d).strap = s.strap := rfl
@[simp] theorem answer_bus (a : Answer) (d : Option Data) : (s.answer a d).bus = { answer := a, data := d } := rfl
@[simp] theorem answer_mem (a : Answer) (d : Option Data) : (s.answer a d).mem = s.mem := rfl
@[simp] theorem answer_stories (a : Answer) (d : Option Data) : (s.answer a d).stories = s.stories := rfl
@[simp] theorem answer_baskets (a : Answer) (d : Option Data) : (s.answer a d).baskets = s.baskets := rfl
@[simp] theorem answer_measure (a : Answer) (d : Option Data) : (s.answer a d).measure = s.measure := rfl
@[simp] theorem answer_stations (a : Answer) (d : Option Data) : (s.answer a d).stations = s.stations := rfl
@[simp] theorem answer_pages (a : Answer) (d : Option Data) : (s.answer a d).pages = s.pages := rfl
@[simp] theorem answer_dispatch (a : Answer) (d : Option Data) : (s.answer a d).dispatch = s.dispatch := rfl
@[simp] theorem answer_link (a : Answer) (d : Option Data) : (s.answer a d).link = s.link := rfl
@[simp] theorem answer_timebase (a : Answer) (d : Option Data) : (s.answer a d).timebase = s.timebase := rfl
@[simp] theorem answer_free (a : Answer) (d : Option Data) : (s.answer a d).free = s.free := rfl
@[simp] theorem answer_pending (a : Answer) (d : Option Data) : (s.answer a d).pending = s.pending := rfl
@[simp] theorem story_answer (a : Answer) (d : Option Data) (j : StoryId) : (s.answer a d).story j = s.story j := rfl
@[simp] theorem basket_answer (a : Answer) (d : Option Data) (j : BasketId) : (s.answer a d).basket j = s.basket j := rfl
@[simp] theorem page_answer (a : Answer) (d : Option Data) (j : PageId) : (s.answer a d).page j = s.page j := rfl
@[simp] theorem terminal_answer (a : Answer) (d : Option Data) (j : TerminalId) : (s.answer a d).terminal j = s.terminal j := rfl
@[simp] theorem font_answer (a : Answer) (d : Option Data) (j : FontId) : (s.answer a d).font j = s.font j := rfl
@[simp] theorem memByte_answer (a : Answer) (d : Option Data) (j : Nat) : (s.answer a d).memByte j = s.memByte j := rfl

/-! ## done -/

@[simp] theorem done_strap : (s.done).strap = s.strap := rfl
@[simp] theorem done_bus : (s.done).bus = { answer := .done, data := none } := rfl
@[simp] theorem done_mem : (s.done).mem = s.mem := rfl
@[simp] theorem done_stories : (s.done).stories = s.stories := rfl
@[simp] theorem done_baskets : (s.done).baskets = s.baskets := rfl
@[simp] theorem done_measure : (s.done).measure = s.measure := rfl
@[simp] theorem done_stations : (s.done).stations = s.stations := rfl
@[simp] theorem done_pages : (s.done).pages = s.pages := rfl
@[simp] theorem done_dispatch : (s.done).dispatch = s.dispatch := rfl
@[simp] theorem done_link : (s.done).link = s.link := rfl
@[simp] theorem done_timebase : (s.done).timebase = s.timebase := rfl
@[simp] theorem done_free : (s.done).free = s.free := rfl
@[simp] theorem done_pending : (s.done).pending = s.pending := rfl
@[simp] theorem story_done (j : StoryId) : (s.done).story j = s.story j := rfl
@[simp] theorem basket_done (j : BasketId) : (s.done).basket j = s.basket j := rfl
@[simp] theorem page_done (j : PageId) : (s.done).page j = s.page j := rfl
@[simp] theorem terminal_done (j : TerminalId) : (s.done).terminal j = s.terminal j := rfl
@[simp] theorem font_done (j : FontId) : (s.done).font j = s.font j := rfl
@[simp] theorem memByte_done (j : Nat) : (s.done).memByte j = s.memByte j := rfl

/-! ## doneRead -/

@[simp] theorem doneRead_strap (d : Data) : (s.doneRead d).strap = s.strap := rfl
@[simp] theorem doneRead_bus (d : Data) : (s.doneRead d).bus = { answer := .done, data := some d } := rfl
@[simp] theorem doneRead_mem (d : Data) : (s.doneRead d).mem = s.mem := rfl
@[simp] theorem doneRead_stories (d : Data) : (s.doneRead d).stories = s.stories := rfl
@[simp] theorem doneRead_baskets (d : Data) : (s.doneRead d).baskets = s.baskets := rfl
@[simp] theorem doneRead_measure (d : Data) : (s.doneRead d).measure = s.measure := rfl
@[simp] theorem doneRead_stations (d : Data) : (s.doneRead d).stations = s.stations := rfl
@[simp] theorem doneRead_pages (d : Data) : (s.doneRead d).pages = s.pages := rfl
@[simp] theorem doneRead_dispatch (d : Data) : (s.doneRead d).dispatch = s.dispatch := rfl
@[simp] theorem doneRead_link (d : Data) : (s.doneRead d).link = s.link := rfl
@[simp] theorem doneRead_timebase (d : Data) : (s.doneRead d).timebase = s.timebase := rfl
@[simp] theorem doneRead_free (d : Data) : (s.doneRead d).free = s.free := rfl
@[simp] theorem doneRead_pending (d : Data) : (s.doneRead d).pending = s.pending := rfl
@[simp] theorem story_doneRead (d : Data) (j : StoryId) : (s.doneRead d).story j = s.story j := rfl
@[simp] theorem basket_doneRead (d : Data) (j : BasketId) : (s.doneRead d).basket j = s.basket j := rfl
@[simp] theorem page_doneRead (d : Data) (j : PageId) : (s.doneRead d).page j = s.page j := rfl
@[simp] theorem terminal_doneRead (d : Data) (j : TerminalId) : (s.doneRead d).terminal j = s.terminal j := rfl
@[simp] theorem font_doneRead (d : Data) (j : FontId) : (s.doneRead d).font j = s.font j := rfl
@[simp] theorem memByte_doneRead (d : Data) (j : Nat) : (s.doneRead d).memByte j = s.memByte j := rfl

/-! ## retry -/

@[simp] theorem retry_strap : (s.retry).strap = s.strap := rfl
@[simp] theorem retry_bus : (s.retry).bus = { answer := .retry, data := none } := rfl
@[simp] theorem retry_mem : (s.retry).mem = s.mem := rfl
@[simp] theorem retry_stories : (s.retry).stories = s.stories := rfl
@[simp] theorem retry_baskets : (s.retry).baskets = s.baskets := rfl
@[simp] theorem retry_measure : (s.retry).measure = s.measure := rfl
@[simp] theorem retry_stations : (s.retry).stations = s.stations := rfl
@[simp] theorem retry_pages : (s.retry).pages = s.pages := rfl
@[simp] theorem retry_dispatch : (s.retry).dispatch = s.dispatch := rfl
@[simp] theorem retry_link : (s.retry).link = s.link := rfl
@[simp] theorem retry_timebase : (s.retry).timebase = s.timebase := rfl
@[simp] theorem retry_free : (s.retry).free = s.free := rfl
@[simp] theorem retry_pending : (s.retry).pending = s.pending := rfl
@[simp] theorem story_retry (j : StoryId) : (s.retry).story j = s.story j := rfl
@[simp] theorem basket_retry (j : BasketId) : (s.retry).basket j = s.basket j := rfl
@[simp] theorem page_retry (j : PageId) : (s.retry).page j = s.page j := rfl
@[simp] theorem terminal_retry (j : TerminalId) : (s.retry).terminal j = s.terminal j := rfl
@[simp] theorem font_retry (j : FontId) : (s.retry).font j = s.font j := rfl
@[simp] theorem memByte_retry (j : Nat) : (s.retry).memByte j = s.memByte j := rfl

/-! ## refuseUnknown -/

@[simp] theorem refuseUnknown_strap : (s.refuseUnknown).strap = s.strap := rfl
@[simp] theorem refuseUnknown_bus : (s.refuseUnknown).bus = { answer := .refuse, data := none } := rfl
@[simp] theorem refuseUnknown_mem : (s.refuseUnknown).mem = s.mem := rfl
@[simp] theorem refuseUnknown_stories : (s.refuseUnknown).stories = s.stories := rfl
@[simp] theorem refuseUnknown_baskets : (s.refuseUnknown).baskets = s.baskets := rfl
@[simp] theorem refuseUnknown_measure : (s.refuseUnknown).measure = s.measure := rfl
@[simp] theorem refuseUnknown_stations : (s.refuseUnknown).stations = s.stations := rfl
@[simp] theorem refuseUnknown_pages : (s.refuseUnknown).pages = s.pages := rfl
@[simp] theorem refuseUnknown_dispatch : (s.refuseUnknown).dispatch = s.dispatch := rfl
@[simp] theorem refuseUnknown_link : (s.refuseUnknown).link = s.link := rfl
@[simp] theorem refuseUnknown_timebase : (s.refuseUnknown).timebase = s.timebase := rfl
@[simp] theorem refuseUnknown_free : (s.refuseUnknown).free = s.free := rfl
@[simp] theorem refuseUnknown_pending : (s.refuseUnknown).pending = s.pending := rfl
@[simp] theorem story_refuseUnknown (j : StoryId) : (s.refuseUnknown).story j = s.story j := rfl
@[simp] theorem basket_refuseUnknown (j : BasketId) : (s.refuseUnknown).basket j = s.basket j := rfl
@[simp] theorem page_refuseUnknown (j : PageId) : (s.refuseUnknown).page j = s.page j := rfl
@[simp] theorem terminal_refuseUnknown (j : TerminalId) : (s.refuseUnknown).terminal j = s.terminal j := rfl
@[simp] theorem font_refuseUnknown (j : FontId) : (s.refuseUnknown).font j = s.font j := rfl
@[simp] theorem memByte_refuseUnknown (j : Nat) : (s.refuseUnknown).memByte j = s.memByte j := rfl

/-! ## setStory -/

@[simp] theorem setStory_strap (k : StoryId) (v : Story) : (s.setStory k v).strap = s.strap := rfl
@[simp] theorem setStory_bus (k : StoryId) (v : Story) : (s.setStory k v).bus = s.bus := rfl
@[simp] theorem setStory_mem (k : StoryId) (v : Story) : (s.setStory k v).mem = s.mem := rfl
@[simp] theorem setStory_baskets (k : StoryId) (v : Story) : (s.setStory k v).baskets = s.baskets := rfl
@[simp] theorem setStory_measure (k : StoryId) (v : Story) : (s.setStory k v).measure = s.measure := rfl
@[simp] theorem setStory_stations (k : StoryId) (v : Story) : (s.setStory k v).stations = s.stations := rfl
@[simp] theorem setStory_pages (k : StoryId) (v : Story) : (s.setStory k v).pages = s.pages := rfl
@[simp] theorem setStory_dispatch (k : StoryId) (v : Story) : (s.setStory k v).dispatch = s.dispatch := rfl
@[simp] theorem setStory_link (k : StoryId) (v : Story) : (s.setStory k v).link = s.link := rfl
@[simp] theorem setStory_timebase (k : StoryId) (v : Story) : (s.setStory k v).timebase = s.timebase := rfl
@[simp] theorem setStory_free (k : StoryId) (v : Story) : (s.setStory k v).free = s.free := rfl
@[simp] theorem setStory_pending (k : StoryId) (v : Story) : (s.setStory k v).pending = s.pending := rfl
@[simp] theorem basket_setStory (k : StoryId) (v : Story) (j : BasketId) : (s.setStory k v).basket j = s.basket j := rfl
@[simp] theorem page_setStory (k : StoryId) (v : Story) (j : PageId) : (s.setStory k v).page j = s.page j := rfl
@[simp] theorem terminal_setStory (k : StoryId) (v : Story) (j : TerminalId) : (s.setStory k v).terminal j = s.terminal j := rfl
@[simp] theorem font_setStory (k : StoryId) (v : Story) (j : FontId) : (s.setStory k v).font j = s.font j := rfl
@[simp] theorem memByte_setStory (k : StoryId) (v : Story) (j : Nat) : (s.setStory k v).memByte j = s.memByte j := rfl

/-! ## setBasket -/

@[simp] theorem setBasket_strap (b : BasketId) (v : Basket) : (s.setBasket b v).strap = s.strap := rfl
@[simp] theorem setBasket_bus (b : BasketId) (v : Basket) : (s.setBasket b v).bus = s.bus := rfl
@[simp] theorem setBasket_mem (b : BasketId) (v : Basket) : (s.setBasket b v).mem = s.mem := rfl
@[simp] theorem setBasket_stories (b : BasketId) (v : Basket) : (s.setBasket b v).stories = s.stories := rfl
@[simp] theorem setBasket_measure (b : BasketId) (v : Basket) : (s.setBasket b v).measure = s.measure := rfl
@[simp] theorem setBasket_stations (b : BasketId) (v : Basket) : (s.setBasket b v).stations = s.stations := rfl
@[simp] theorem setBasket_pages (b : BasketId) (v : Basket) : (s.setBasket b v).pages = s.pages := rfl
@[simp] theorem setBasket_dispatch (b : BasketId) (v : Basket) : (s.setBasket b v).dispatch = s.dispatch := rfl
@[simp] theorem setBasket_link (b : BasketId) (v : Basket) : (s.setBasket b v).link = s.link := rfl
@[simp] theorem setBasket_timebase (b : BasketId) (v : Basket) : (s.setBasket b v).timebase = s.timebase := rfl
@[simp] theorem setBasket_free (b : BasketId) (v : Basket) : (s.setBasket b v).free = s.free := rfl
@[simp] theorem setBasket_pending (b : BasketId) (v : Basket) : (s.setBasket b v).pending = s.pending := rfl
@[simp] theorem story_setBasket (b : BasketId) (v : Basket) (j : StoryId) : (s.setBasket b v).story j = s.story j := rfl
@[simp] theorem page_setBasket (b : BasketId) (v : Basket) (j : PageId) : (s.setBasket b v).page j = s.page j := rfl
@[simp] theorem terminal_setBasket (b : BasketId) (v : Basket) (j : TerminalId) : (s.setBasket b v).terminal j = s.terminal j := rfl
@[simp] theorem font_setBasket (b : BasketId) (v : Basket) (j : FontId) : (s.setBasket b v).font j = s.font j := rfl
@[simp] theorem memByte_setBasket (b : BasketId) (v : Basket) (j : Nat) : (s.setBasket b v).memByte j = s.memByte j := rfl

/-! ## setFont -/

@[simp] theorem setFont_strap (f : FontId) (v : Font) : (s.setFont f v).strap = s.strap := rfl
@[simp] theorem setFont_bus (f : FontId) (v : Font) : (s.setFont f v).bus = s.bus := rfl
@[simp] theorem setFont_mem (f : FontId) (v : Font) : (s.setFont f v).mem = s.mem := rfl
@[simp] theorem setFont_stories (f : FontId) (v : Font) : (s.setFont f v).stories = s.stories := rfl
@[simp] theorem setFont_baskets (f : FontId) (v : Font) : (s.setFont f v).baskets = s.baskets := rfl
@[simp] theorem setFont_stations (f : FontId) (v : Font) : (s.setFont f v).stations = s.stations := rfl
@[simp] theorem setFont_pages (f : FontId) (v : Font) : (s.setFont f v).pages = s.pages := rfl
@[simp] theorem setFont_dispatch (f : FontId) (v : Font) : (s.setFont f v).dispatch = s.dispatch := rfl
@[simp] theorem setFont_link (f : FontId) (v : Font) : (s.setFont f v).link = s.link := rfl
@[simp] theorem setFont_timebase (f : FontId) (v : Font) : (s.setFont f v).timebase = s.timebase := rfl
@[simp] theorem setFont_free (f : FontId) (v : Font) : (s.setFont f v).free = s.free := rfl
@[simp] theorem setFont_pending (f : FontId) (v : Font) : (s.setFont f v).pending = s.pending := rfl
@[simp] theorem story_setFont (f : FontId) (v : Font) (j : StoryId) : (s.setFont f v).story j = s.story j := rfl
@[simp] theorem basket_setFont (f : FontId) (v : Font) (j : BasketId) : (s.setFont f v).basket j = s.basket j := rfl
@[simp] theorem page_setFont (f : FontId) (v : Font) (j : PageId) : (s.setFont f v).page j = s.page j := rfl
@[simp] theorem terminal_setFont (f : FontId) (v : Font) (j : TerminalId) : (s.setFont f v).terminal j = s.terminal j := rfl
@[simp] theorem memByte_setFont (f : FontId) (v : Font) (j : Nat) : (s.setFont f v).memByte j = s.memByte j := rfl

/-! ## setPage -/

@[simp] theorem setPage_strap (p : PageId) (v : Page) : (s.setPage p v).strap = s.strap := rfl
@[simp] theorem setPage_bus (p : PageId) (v : Page) : (s.setPage p v).bus = s.bus := rfl
@[simp] theorem setPage_mem (p : PageId) (v : Page) : (s.setPage p v).mem = s.mem := rfl
@[simp] theorem setPage_stories (p : PageId) (v : Page) : (s.setPage p v).stories = s.stories := rfl
@[simp] theorem setPage_baskets (p : PageId) (v : Page) : (s.setPage p v).baskets = s.baskets := rfl
@[simp] theorem setPage_measure (p : PageId) (v : Page) : (s.setPage p v).measure = s.measure := rfl
@[simp] theorem setPage_stations (p : PageId) (v : Page) : (s.setPage p v).stations = s.stations := rfl
@[simp] theorem setPage_dispatch (p : PageId) (v : Page) : (s.setPage p v).dispatch = s.dispatch := rfl
@[simp] theorem setPage_link (p : PageId) (v : Page) : (s.setPage p v).link = s.link := rfl
@[simp] theorem setPage_timebase (p : PageId) (v : Page) : (s.setPage p v).timebase = s.timebase := rfl
@[simp] theorem setPage_free (p : PageId) (v : Page) : (s.setPage p v).free = s.free := rfl
@[simp] theorem setPage_pending (p : PageId) (v : Page) : (s.setPage p v).pending = s.pending := rfl
@[simp] theorem story_setPage (p : PageId) (v : Page) (j : StoryId) : (s.setPage p v).story j = s.story j := rfl
@[simp] theorem basket_setPage (p : PageId) (v : Page) (j : BasketId) : (s.setPage p v).basket j = s.basket j := rfl
@[simp] theorem terminal_setPage (p : PageId) (v : Page) (j : TerminalId) : (s.setPage p v).terminal j = s.terminal j := rfl
@[simp] theorem font_setPage (p : PageId) (v : Page) (j : FontId) : (s.setPage p v).font j = s.font j := rfl
@[simp] theorem memByte_setPage (p : PageId) (v : Page) (j : Nat) : (s.setPage p v).memByte j = s.memByte j := rfl

/-! ## setTerminal -/

@[simp] theorem setTerminal_strap (t : TerminalId) (v : Terminal) : (s.setTerminal t v).strap = s.strap := rfl
@[simp] theorem setTerminal_bus (t : TerminalId) (v : Terminal) : (s.setTerminal t v).bus = s.bus := rfl
@[simp] theorem setTerminal_mem (t : TerminalId) (v : Terminal) : (s.setTerminal t v).mem = s.mem := rfl
@[simp] theorem setTerminal_stories (t : TerminalId) (v : Terminal) : (s.setTerminal t v).stories = s.stories := rfl
@[simp] theorem setTerminal_baskets (t : TerminalId) (v : Terminal) : (s.setTerminal t v).baskets = s.baskets := rfl
@[simp] theorem setTerminal_measure (t : TerminalId) (v : Terminal) : (s.setTerminal t v).measure = s.measure := rfl
@[simp] theorem setTerminal_pages (t : TerminalId) (v : Terminal) : (s.setTerminal t v).pages = s.pages := rfl
@[simp] theorem setTerminal_dispatch (t : TerminalId) (v : Terminal) : (s.setTerminal t v).dispatch = s.dispatch := rfl
@[simp] theorem setTerminal_link (t : TerminalId) (v : Terminal) : (s.setTerminal t v).link = s.link := rfl
@[simp] theorem setTerminal_timebase (t : TerminalId) (v : Terminal) : (s.setTerminal t v).timebase = s.timebase := rfl
@[simp] theorem setTerminal_free (t : TerminalId) (v : Terminal) : (s.setTerminal t v).free = s.free := rfl
@[simp] theorem setTerminal_pending (t : TerminalId) (v : Terminal) : (s.setTerminal t v).pending = s.pending := rfl
@[simp] theorem story_setTerminal (t : TerminalId) (v : Terminal) (j : StoryId) : (s.setTerminal t v).story j = s.story j := rfl
@[simp] theorem basket_setTerminal (t : TerminalId) (v : Terminal) (j : BasketId) : (s.setTerminal t v).basket j = s.basket j := rfl
@[simp] theorem page_setTerminal (t : TerminalId) (v : Terminal) (j : PageId) : (s.setTerminal t v).page j = s.page j := rfl
@[simp] theorem font_setTerminal (t : TerminalId) (v : Terminal) (j : FontId) : (s.setTerminal t v).font j = s.font j := rfl
@[simp] theorem memByte_setTerminal (t : TerminalId) (v : Terminal) (j : Nat) : (s.setTerminal t v).memByte j = s.memByte j := rfl

/-! ## setRing -/

@[simp] theorem setRing_strap (st : Station) (r : Ring) : (s.setRing st r).strap = s.strap := by cases st <;> rfl
@[simp] theorem setRing_bus (st : Station) (r : Ring) : (s.setRing st r).bus = s.bus := by cases st <;> rfl
@[simp] theorem setRing_mem (st : Station) (r : Ring) : (s.setRing st r).mem = s.mem := by cases st <;> rfl
@[simp] theorem setRing_stories (st : Station) (r : Ring) : (s.setRing st r).stories = s.stories := by cases st <;> rfl
@[simp] theorem setRing_baskets (st : Station) (r : Ring) : (s.setRing st r).baskets = s.baskets := by cases st <;> rfl
@[simp] theorem setRing_measure (st : Station) (r : Ring) : (s.setRing st r).measure = s.measure := by cases st <;> rfl
@[simp] theorem setRing_pages (st : Station) (r : Ring) : (s.setRing st r).pages = s.pages := by cases st <;> rfl
@[simp] theorem setRing_dispatch (st : Station) (r : Ring) : (s.setRing st r).dispatch = s.dispatch := by cases st <;> rfl
@[simp] theorem setRing_link (st : Station) (r : Ring) : (s.setRing st r).link = s.link := by cases st <;> rfl
@[simp] theorem setRing_timebase (st : Station) (r : Ring) : (s.setRing st r).timebase = s.timebase := by cases st <;> rfl
@[simp] theorem setRing_free (st : Station) (r : Ring) : (s.setRing st r).free = s.free := by cases st <;> rfl
@[simp] theorem setRing_pending (st : Station) (r : Ring) : (s.setRing st r).pending = s.pending := by cases st <;> rfl
@[simp] theorem story_setRing (st : Station) (r : Ring) (j : StoryId) : (s.setRing st r).story j = s.story j := by cases st <;> rfl
@[simp] theorem basket_setRing (st : Station) (r : Ring) (j : BasketId) : (s.setRing st r).basket j = s.basket j := by cases st <;> rfl
@[simp] theorem page_setRing (st : Station) (r : Ring) (j : PageId) : (s.setRing st r).page j = s.page j := by cases st <;> rfl
@[simp] theorem font_setRing (st : Station) (r : Ring) (j : FontId) : (s.setRing st r).font j = s.font j := by cases st <;> rfl
@[simp] theorem memByte_setRing (st : Station) (r : Ring) (j : Nat) : (s.setRing st r).memByte j = s.memByte j := by cases st <;> rfl

/-! ## setLastRefusal -/

@[simp] theorem setLastRefusal_strap (st : Station) (r : Reason) : (s.setLastRefusal st r).strap = s.strap := by cases st <;> rfl
@[simp] theorem setLastRefusal_bus (st : Station) (r : Reason) : (s.setLastRefusal st r).bus = s.bus := by cases st <;> rfl
@[simp] theorem setLastRefusal_mem (st : Station) (r : Reason) : (s.setLastRefusal st r).mem = s.mem := by cases st <;> rfl
@[simp] theorem setLastRefusal_stories (st : Station) (r : Reason) : (s.setLastRefusal st r).stories = s.stories := by cases st <;> rfl
@[simp] theorem setLastRefusal_baskets (st : Station) (r : Reason) : (s.setLastRefusal st r).baskets = s.baskets := by cases st <;> rfl
@[simp] theorem setLastRefusal_measure (st : Station) (r : Reason) : (s.setLastRefusal st r).measure = s.measure := by cases st <;> rfl
@[simp] theorem setLastRefusal_pages (st : Station) (r : Reason) : (s.setLastRefusal st r).pages = s.pages := by cases st <;> rfl
@[simp] theorem setLastRefusal_dispatch (st : Station) (r : Reason) : (s.setLastRefusal st r).dispatch = s.dispatch := by cases st <;> rfl
@[simp] theorem setLastRefusal_link (st : Station) (r : Reason) : (s.setLastRefusal st r).link = s.link := by cases st <;> rfl
@[simp] theorem setLastRefusal_timebase (st : Station) (r : Reason) : (s.setLastRefusal st r).timebase = s.timebase := by cases st <;> rfl
@[simp] theorem setLastRefusal_free (st : Station) (r : Reason) : (s.setLastRefusal st r).free = s.free := by cases st <;> rfl
@[simp] theorem setLastRefusal_pending (st : Station) (r : Reason) : (s.setLastRefusal st r).pending = s.pending := by cases st <;> rfl
@[simp] theorem story_setLastRefusal (st : Station) (r : Reason) (j : StoryId) : (s.setLastRefusal st r).story j = s.story j := by cases st <;> rfl
@[simp] theorem basket_setLastRefusal (st : Station) (r : Reason) (j : BasketId) : (s.setLastRefusal st r).basket j = s.basket j := by cases st <;> rfl
@[simp] theorem page_setLastRefusal (st : Station) (r : Reason) (j : PageId) : (s.setLastRefusal st r).page j = s.page j := by cases st <;> rfl
@[simp] theorem font_setLastRefusal (st : Station) (r : Reason) (j : FontId) : (s.setLastRefusal st r).font j = s.font j := by cases st <;> rfl
@[simp] theorem memByte_setLastRefusal (st : Station) (r : Reason) (j : Nat) : (s.setLastRefusal st r).memByte j = s.memByte j := by cases st <;> rfl

/-! ## refuse -/

@[simp] theorem refuse_strap (st : Station) (r : Reason) : (s.refuse st r).strap = s.strap := by cases st <;> rfl
@[simp] theorem refuse_bus (st : Station) (r : Reason) : (s.refuse st r).bus = { answer := .refuse, data := none } := by cases st <;> rfl
@[simp] theorem refuse_mem (st : Station) (r : Reason) : (s.refuse st r).mem = s.mem := by cases st <;> rfl
@[simp] theorem refuse_stories (st : Station) (r : Reason) : (s.refuse st r).stories = s.stories := by cases st <;> rfl
@[simp] theorem refuse_baskets (st : Station) (r : Reason) : (s.refuse st r).baskets = s.baskets := by cases st <;> rfl
@[simp] theorem refuse_measure (st : Station) (r : Reason) : (s.refuse st r).measure = s.measure := by cases st <;> rfl
@[simp] theorem refuse_pages (st : Station) (r : Reason) : (s.refuse st r).pages = s.pages := by cases st <;> rfl
@[simp] theorem refuse_dispatch (st : Station) (r : Reason) : (s.refuse st r).dispatch = s.dispatch := by cases st <;> rfl
@[simp] theorem refuse_link (st : Station) (r : Reason) : (s.refuse st r).link = s.link := by cases st <;> rfl
@[simp] theorem refuse_timebase (st : Station) (r : Reason) : (s.refuse st r).timebase = s.timebase := by cases st <;> rfl
@[simp] theorem refuse_free (st : Station) (r : Reason) : (s.refuse st r).free = s.free := by cases st <;> rfl
@[simp] theorem refuse_pending (st : Station) (r : Reason) : (s.refuse st r).pending = s.pending := by cases st <;> rfl
@[simp] theorem story_refuse (st : Station) (r : Reason) (j : StoryId) : (s.refuse st r).story j = s.story j := by cases st <;> rfl
@[simp] theorem basket_refuse (st : Station) (r : Reason) (j : BasketId) : (s.refuse st r).basket j = s.basket j := by cases st <;> rfl
@[simp] theorem page_refuse (st : Station) (r : Reason) (j : PageId) : (s.refuse st r).page j = s.page j := by cases st <;> rfl
@[simp] theorem font_refuse (st : Station) (r : Reason) (j : FontId) : (s.refuse st r).font j = s.font j := by cases st <;> rfl
@[simp] theorem memByte_refuse (st : Station) (r : Reason) (j : Nat) : (s.refuse st r).memByte j = s.memByte j := by cases st <;> rfl

/-! ## store -/

@[simp] theorem store_strap (a : Nat) (bs : List Byte) : (s.store a bs).strap = s.strap := rfl
@[simp] theorem store_bus (a : Nat) (bs : List Byte) : (s.store a bs).bus = s.bus := rfl
@[simp] theorem store_mem (a : Nat) (bs : List Byte) : (s.store a bs).mem = storeBytes s.mem a bs := rfl
@[simp] theorem store_stories (a : Nat) (bs : List Byte) : (s.store a bs).stories = s.stories := rfl
@[simp] theorem store_baskets (a : Nat) (bs : List Byte) : (s.store a bs).baskets = s.baskets := rfl
@[simp] theorem store_measure (a : Nat) (bs : List Byte) : (s.store a bs).measure = s.measure := rfl
@[simp] theorem store_stations (a : Nat) (bs : List Byte) : (s.store a bs).stations = s.stations := rfl
@[simp] theorem store_pages (a : Nat) (bs : List Byte) : (s.store a bs).pages = s.pages := rfl
@[simp] theorem store_dispatch (a : Nat) (bs : List Byte) : (s.store a bs).dispatch = s.dispatch := rfl
@[simp] theorem store_link (a : Nat) (bs : List Byte) : (s.store a bs).link = s.link := rfl
@[simp] theorem store_timebase (a : Nat) (bs : List Byte) : (s.store a bs).timebase = s.timebase := rfl
@[simp] theorem store_free (a : Nat) (bs : List Byte) : (s.store a bs).free = s.free := rfl
@[simp] theorem store_pending (a : Nat) (bs : List Byte) : (s.store a bs).pending = s.pending := rfl
@[simp] theorem story_store (a : Nat) (bs : List Byte) (j : StoryId) : (s.store a bs).story j = s.story j := rfl
@[simp] theorem basket_store (a : Nat) (bs : List Byte) (j : BasketId) : (s.store a bs).basket j = s.basket j := rfl
@[simp] theorem page_store (a : Nat) (bs : List Byte) (j : PageId) : (s.store a bs).page j = s.page j := rfl
@[simp] theorem terminal_store (a : Nat) (bs : List Byte) (j : TerminalId) : (s.store a bs).terminal j = s.terminal j := rfl
@[simp] theorem font_store (a : Nat) (bs : List Byte) (j : FontId) : (s.store a bs).font j = s.font j := rfl

/-! ## refreshLines -/

@[simp] theorem refreshLines_strap : (s.refreshLines).strap = s.strap := rfl
@[simp] theorem refreshLines_bus : (s.refreshLines).bus = s.bus := rfl
@[simp] theorem refreshLines_mem : (s.refreshLines).mem = s.mem := rfl
@[simp] theorem refreshLines_stories : (s.refreshLines).stories = s.stories := rfl
@[simp] theorem refreshLines_baskets : (s.refreshLines).baskets = s.baskets := rfl
@[simp] theorem refreshLines_measure : (s.refreshLines).measure = s.measure := rfl
@[simp] theorem refreshLines_pages : (s.refreshLines).pages = s.pages := rfl
@[simp] theorem refreshLines_dispatch : (s.refreshLines).dispatch = s.dispatch := rfl
@[simp] theorem refreshLines_link : (s.refreshLines).link = s.link := rfl
@[simp] theorem refreshLines_timebase : (s.refreshLines).timebase = s.timebase := rfl
@[simp] theorem refreshLines_free : (s.refreshLines).free = s.free := rfl
@[simp] theorem refreshLines_pending : (s.refreshLines).pending = s.pending := rfl
@[simp] theorem story_refreshLines (j : StoryId) : (s.refreshLines).story j = s.story j := rfl
@[simp] theorem basket_refreshLines (j : BasketId) : (s.refreshLines).basket j = s.basket j := rfl
@[simp] theorem page_refreshLines (j : PageId) : (s.refreshLines).page j = s.page j := rfl
@[simp] theorem terminal_refreshLines (j : TerminalId) : (s.refreshLines).terminal j = s.terminal j := rfl
@[simp] theorem font_refreshLines (j : FontId) : (s.refreshLines).font j = s.font j := rfl
@[simp] theorem memByte_refreshLines (j : Nat) : (s.refreshLines).memByte j = s.memByte j := rfl

/-! ## setOverrun -/

@[simp] theorem setOverrun_strap (st : Station) : (s.setOverrun st).strap = s.strap := by cases st <;> rfl
@[simp] theorem setOverrun_bus (st : Station) : (s.setOverrun st).bus = s.bus := by cases st <;> rfl
@[simp] theorem setOverrun_mem (st : Station) : (s.setOverrun st).mem = s.mem := by cases st <;> rfl
@[simp] theorem setOverrun_stories (st : Station) : (s.setOverrun st).stories = s.stories := by cases st <;> rfl
@[simp] theorem setOverrun_baskets (st : Station) : (s.setOverrun st).baskets = s.baskets := by cases st <;> rfl
@[simp] theorem setOverrun_measure (st : Station) : (s.setOverrun st).measure = s.measure := by cases st <;> rfl
@[simp] theorem setOverrun_pages (st : Station) : (s.setOverrun st).pages = s.pages := by cases st <;> rfl
@[simp] theorem setOverrun_dispatch (st : Station) : (s.setOverrun st).dispatch = s.dispatch := by cases st <;> rfl
@[simp] theorem setOverrun_link (st : Station) : (s.setOverrun st).link = s.link := by cases st <;> rfl
@[simp] theorem setOverrun_timebase (st : Station) : (s.setOverrun st).timebase = s.timebase := by cases st <;> rfl
@[simp] theorem setOverrun_free (st : Station) : (s.setOverrun st).free = s.free := by cases st <;> rfl
@[simp] theorem setOverrun_pending (st : Station) : (s.setOverrun st).pending = s.pending := by cases st <;> rfl
@[simp] theorem story_setOverrun (st : Station) (j : StoryId) : (s.setOverrun st).story j = s.story j := by cases st <;> rfl
@[simp] theorem basket_setOverrun (st : Station) (j : BasketId) : (s.setOverrun st).basket j = s.basket j := by cases st <;> rfl
@[simp] theorem page_setOverrun (st : Station) (j : PageId) : (s.setOverrun st).page j = s.page j := by cases st <;> rfl
@[simp] theorem font_setOverrun (st : Station) (j : FontId) : (s.setOverrun st).font j = s.font j := by cases st <;> rfl
@[simp] theorem memByte_setOverrun (st : Station) (j : Nat) : (s.setOverrun st).memByte j = s.memByte j := by cases st <;> rfl

/-! ## setRingWrite -/

@[simp] theorem setRingWrite_strap (w : Option RingWrite) : (s.setRingWrite w).strap = s.strap := rfl
@[simp] theorem setRingWrite_bus (w : Option RingWrite) : (s.setRingWrite w).bus = s.bus := rfl
@[simp] theorem setRingWrite_mem (w : Option RingWrite) : (s.setRingWrite w).mem = s.mem := rfl
@[simp] theorem setRingWrite_stories (w : Option RingWrite) : (s.setRingWrite w).stories = s.stories := rfl
@[simp] theorem setRingWrite_baskets (w : Option RingWrite) : (s.setRingWrite w).baskets = s.baskets := rfl
@[simp] theorem setRingWrite_measure (w : Option RingWrite) : (s.setRingWrite w).measure = s.measure := rfl
@[simp] theorem setRingWrite_pages (w : Option RingWrite) : (s.setRingWrite w).pages = s.pages := rfl
@[simp] theorem setRingWrite_dispatch (w : Option RingWrite) : (s.setRingWrite w).dispatch = s.dispatch := rfl
@[simp] theorem setRingWrite_link (w : Option RingWrite) : (s.setRingWrite w).link = s.link := rfl
@[simp] theorem setRingWrite_timebase (w : Option RingWrite) : (s.setRingWrite w).timebase = s.timebase := rfl
@[simp] theorem setRingWrite_free (w : Option RingWrite) : (s.setRingWrite w).free = s.free := rfl
@[simp] theorem setRingWrite_pending (w : Option RingWrite) : (s.setRingWrite w).pending = s.pending := rfl
@[simp] theorem story_setRingWrite (w : Option RingWrite) (j : StoryId) : (s.setRingWrite w).story j = s.story j := rfl
@[simp] theorem basket_setRingWrite (w : Option RingWrite) (j : BasketId) : (s.setRingWrite w).basket j = s.basket j := rfl
@[simp] theorem page_setRingWrite (w : Option RingWrite) (j : PageId) : (s.setRingWrite w).page j = s.page j := rfl
@[simp] theorem terminal_setRingWrite (w : Option RingWrite) (j : TerminalId) : (s.setRingWrite w).terminal j = s.terminal j := rfl
@[simp] theorem font_setRingWrite (w : Option RingWrite) (j : FontId) : (s.setRingWrite w).font j = s.font j := rfl
@[simp] theorem memByte_setRingWrite (w : Option RingWrite) (j : Nat) : (s.setRingWrite w).memByte j = s.memByte j := rfl

/-! ## dropHead -/

@[simp] theorem dropHead_strap : (s.dropHead).strap = s.strap := rfl
@[simp] theorem dropHead_bus : (s.dropHead).bus = s.bus := rfl
@[simp] theorem dropHead_mem : (s.dropHead).mem = s.mem := rfl
@[simp] theorem dropHead_stories : (s.dropHead).stories = s.stories := rfl
@[simp] theorem dropHead_baskets : (s.dropHead).baskets = s.baskets := rfl
@[simp] theorem dropHead_measure : (s.dropHead).measure = s.measure := rfl
@[simp] theorem dropHead_pages : (s.dropHead).pages = s.pages := rfl
@[simp] theorem dropHead_dispatch : (s.dropHead).dispatch = s.dispatch := rfl
@[simp] theorem dropHead_link : (s.dropHead).link = s.link := rfl
@[simp] theorem dropHead_timebase : (s.dropHead).timebase = s.timebase := rfl
@[simp] theorem dropHead_free : (s.dropHead).free = s.free := rfl
@[simp] theorem dropHead_pending : (s.dropHead).pending = s.pending := rfl
@[simp] theorem story_dropHead (j : StoryId) : (s.dropHead).story j = s.story j := rfl
@[simp] theorem basket_dropHead (j : BasketId) : (s.dropHead).basket j = s.basket j := rfl
@[simp] theorem page_dropHead (j : PageId) : (s.dropHead).page j = s.page j := rfl
@[simp] theorem terminal_dropHead (j : TerminalId) : (s.dropHead).terminal j = s.terminal j := rfl
@[simp] theorem font_dropHead (j : FontId) : (s.dropHead).font j = s.font j := rfl
@[simp] theorem memByte_dropHead (j : Nat) : (s.dropHead).memByte j = s.memByte j := rfl

/-! ## discardNotices -/

@[simp] theorem discardNotices_strap (st : Station) : (s.discardNotices st).strap = s.strap := rfl
@[simp] theorem discardNotices_bus (st : Station) : (s.discardNotices st).bus = s.bus := rfl
@[simp] theorem discardNotices_mem (st : Station) : (s.discardNotices st).mem = s.mem := rfl
@[simp] theorem discardNotices_stories (st : Station) : (s.discardNotices st).stories = s.stories := rfl
@[simp] theorem discardNotices_baskets (st : Station) : (s.discardNotices st).baskets = s.baskets := rfl
@[simp] theorem discardNotices_measure (st : Station) : (s.discardNotices st).measure = s.measure := rfl
@[simp] theorem discardNotices_pages (st : Station) : (s.discardNotices st).pages = s.pages := rfl
@[simp] theorem discardNotices_dispatch (st : Station) : (s.discardNotices st).dispatch = s.dispatch := rfl
@[simp] theorem discardNotices_link (st : Station) : (s.discardNotices st).link = s.link := rfl
@[simp] theorem discardNotices_timebase (st : Station) : (s.discardNotices st).timebase = s.timebase := rfl
@[simp] theorem discardNotices_free (st : Station) : (s.discardNotices st).free = s.free := rfl
@[simp] theorem discardNotices_pending (st : Station) : (s.discardNotices st).pending = s.pending := rfl
@[simp] theorem story_discardNotices (st : Station) (j : StoryId) : (s.discardNotices st).story j = s.story j := rfl
@[simp] theorem basket_discardNotices (st : Station) (j : BasketId) : (s.discardNotices st).basket j = s.basket j := rfl
@[simp] theorem page_discardNotices (st : Station) (j : PageId) : (s.discardNotices st).page j = s.page j := rfl
@[simp] theorem terminal_discardNotices (st : Station) (j : TerminalId) : (s.discardNotices st).terminal j = s.terminal j := rfl
@[simp] theorem font_discardNotices (st : Station) (j : FontId) : (s.discardNotices st).font j = s.font j := rfl
@[simp] theorem memByte_discardNotices (st : Station) (j : Nat) : (s.discardNotices st).memByte j = s.memByte j := rfl

/-! ## setQueue -/

@[simp] theorem setQueue_strap (q : List StoryId) : (s.setQueue q).strap = s.strap := rfl
@[simp] theorem setQueue_bus (q : List StoryId) : (s.setQueue q).bus = s.bus := rfl
@[simp] theorem setQueue_mem (q : List StoryId) : (s.setQueue q).mem = s.mem := rfl
@[simp] theorem setQueue_stories (q : List StoryId) : (s.setQueue q).stories = s.stories := rfl
@[simp] theorem setQueue_baskets (q : List StoryId) : (s.setQueue q).baskets = s.baskets := rfl
@[simp] theorem setQueue_stations (q : List StoryId) : (s.setQueue q).stations = s.stations := rfl
@[simp] theorem setQueue_pages (q : List StoryId) : (s.setQueue q).pages = s.pages := rfl
@[simp] theorem setQueue_dispatch (q : List StoryId) : (s.setQueue q).dispatch = s.dispatch := rfl
@[simp] theorem setQueue_link (q : List StoryId) : (s.setQueue q).link = s.link := rfl
@[simp] theorem setQueue_timebase (q : List StoryId) : (s.setQueue q).timebase = s.timebase := rfl
@[simp] theorem setQueue_free (q : List StoryId) : (s.setQueue q).free = s.free := rfl
@[simp] theorem setQueue_pending (q : List StoryId) : (s.setQueue q).pending = s.pending := rfl
@[simp] theorem story_setQueue (q : List StoryId) (j : StoryId) : (s.setQueue q).story j = s.story j := rfl
@[simp] theorem basket_setQueue (q : List StoryId) (j : BasketId) : (s.setQueue q).basket j = s.basket j := rfl
@[simp] theorem page_setQueue (q : List StoryId) (j : PageId) : (s.setQueue q).page j = s.page j := rfl
@[simp] theorem terminal_setQueue (q : List StoryId) (j : TerminalId) : (s.setQueue q).terminal j = s.terminal j := rfl
@[simp] theorem font_setQueue (q : List StoryId) (j : FontId) : (s.setQueue q).font j = s.font j := rfl
@[simp] theorem memByte_setQueue (q : List StoryId) (j : Nat) : (s.setQueue q).memByte j = s.memByte j := rfl

/-! ## setEngine -/

@[simp] theorem setEngine_strap (e : Engine) : (s.setEngine e).strap = s.strap := rfl
@[simp] theorem setEngine_bus (e : Engine) : (s.setEngine e).bus = s.bus := rfl
@[simp] theorem setEngine_mem (e : Engine) : (s.setEngine e).mem = s.mem := rfl
@[simp] theorem setEngine_stories (e : Engine) : (s.setEngine e).stories = s.stories := rfl
@[simp] theorem setEngine_baskets (e : Engine) : (s.setEngine e).baskets = s.baskets := rfl
@[simp] theorem setEngine_stations (e : Engine) : (s.setEngine e).stations = s.stations := rfl
@[simp] theorem setEngine_pages (e : Engine) : (s.setEngine e).pages = s.pages := rfl
@[simp] theorem setEngine_dispatch (e : Engine) : (s.setEngine e).dispatch = s.dispatch := rfl
@[simp] theorem setEngine_link (e : Engine) : (s.setEngine e).link = s.link := rfl
@[simp] theorem setEngine_timebase (e : Engine) : (s.setEngine e).timebase = s.timebase := rfl
@[simp] theorem setEngine_free (e : Engine) : (s.setEngine e).free = s.free := rfl
@[simp] theorem setEngine_pending (e : Engine) : (s.setEngine e).pending = s.pending := rfl
@[simp] theorem story_setEngine (e : Engine) (j : StoryId) : (s.setEngine e).story j = s.story j := rfl
@[simp] theorem basket_setEngine (e : Engine) (j : BasketId) : (s.setEngine e).basket j = s.basket j := rfl
@[simp] theorem page_setEngine (e : Engine) (j : PageId) : (s.setEngine e).page j = s.page j := rfl
@[simp] theorem terminal_setEngine (e : Engine) (j : TerminalId) : (s.setEngine e).terminal j = s.terminal j := rfl
@[simp] theorem font_setEngine (e : Engine) (j : FontId) : (s.setEngine e).font j = s.font j := rfl
@[simp] theorem memByte_setEngine (e : Engine) (j : Nat) : (s.setEngine e).memByte j = s.memByte j := rfl

/-! ## setStatus -/

@[simp] theorem setStatus_strap (k : StoryId) (x : DepthStatus) : (s.setStatus k x).strap = s.strap := rfl
@[simp] theorem setStatus_bus (k : StoryId) (x : DepthStatus) : (s.setStatus k x).bus = s.bus := rfl
@[simp] theorem setStatus_mem (k : StoryId) (x : DepthStatus) : (s.setStatus k x).mem = s.mem := rfl
@[simp] theorem setStatus_baskets (k : StoryId) (x : DepthStatus) : (s.setStatus k x).baskets = s.baskets := rfl
@[simp] theorem setStatus_measure (k : StoryId) (x : DepthStatus) : (s.setStatus k x).measure = s.measure := rfl
@[simp] theorem setStatus_stations (k : StoryId) (x : DepthStatus) : (s.setStatus k x).stations = s.stations := rfl
@[simp] theorem setStatus_pages (k : StoryId) (x : DepthStatus) : (s.setStatus k x).pages = s.pages := rfl
@[simp] theorem setStatus_dispatch (k : StoryId) (x : DepthStatus) : (s.setStatus k x).dispatch = s.dispatch := rfl
@[simp] theorem setStatus_link (k : StoryId) (x : DepthStatus) : (s.setStatus k x).link = s.link := rfl
@[simp] theorem setStatus_timebase (k : StoryId) (x : DepthStatus) : (s.setStatus k x).timebase = s.timebase := rfl
@[simp] theorem setStatus_free (k : StoryId) (x : DepthStatus) : (s.setStatus k x).free = s.free := rfl
@[simp] theorem setStatus_pending (k : StoryId) (x : DepthStatus) : (s.setStatus k x).pending = s.pending := rfl
@[simp] theorem basket_setStatus (k : StoryId) (x : DepthStatus) (j : BasketId) : (s.setStatus k x).basket j = s.basket j := rfl
@[simp] theorem page_setStatus (k : StoryId) (x : DepthStatus) (j : PageId) : (s.setStatus k x).page j = s.page j := rfl
@[simp] theorem terminal_setStatus (k : StoryId) (x : DepthStatus) (j : TerminalId) : (s.setStatus k x).terminal j = s.terminal j := rfl
@[simp] theorem font_setStatus (k : StoryId) (x : DepthStatus) (j : FontId) : (s.setStatus k x).font j = s.font j := rfl
@[simp] theorem memByte_setStatus (k : StoryId) (x : DepthStatus) (j : Nat) : (s.setStatus k x).memByte j = s.memByte j := rfl

/-! ## setDispatchEngine -/

@[simp] theorem setDispatchEngine_strap (e : DispatchEngine) : (s.setDispatchEngine e).strap = s.strap := rfl
@[simp] theorem setDispatchEngine_bus (e : DispatchEngine) : (s.setDispatchEngine e).bus = s.bus := rfl
@[simp] theorem setDispatchEngine_mem (e : DispatchEngine) : (s.setDispatchEngine e).mem = s.mem := rfl
@[simp] theorem setDispatchEngine_stories (e : DispatchEngine) : (s.setDispatchEngine e).stories = s.stories := rfl
@[simp] theorem setDispatchEngine_baskets (e : DispatchEngine) : (s.setDispatchEngine e).baskets = s.baskets := rfl
@[simp] theorem setDispatchEngine_measure (e : DispatchEngine) : (s.setDispatchEngine e).measure = s.measure := rfl
@[simp] theorem setDispatchEngine_stations (e : DispatchEngine) : (s.setDispatchEngine e).stations = s.stations := rfl
@[simp] theorem setDispatchEngine_pages (e : DispatchEngine) : (s.setDispatchEngine e).pages = s.pages := rfl
@[simp] theorem setDispatchEngine_link (e : DispatchEngine) : (s.setDispatchEngine e).link = s.link := rfl
@[simp] theorem setDispatchEngine_timebase (e : DispatchEngine) : (s.setDispatchEngine e).timebase = s.timebase := rfl
@[simp] theorem setDispatchEngine_free (e : DispatchEngine) : (s.setDispatchEngine e).free = s.free := rfl
@[simp] theorem setDispatchEngine_pending (e : DispatchEngine) : (s.setDispatchEngine e).pending = s.pending := rfl
@[simp] theorem story_setDispatchEngine (e : DispatchEngine) (j : StoryId) : (s.setDispatchEngine e).story j = s.story j := rfl
@[simp] theorem basket_setDispatchEngine (e : DispatchEngine) (j : BasketId) : (s.setDispatchEngine e).basket j = s.basket j := rfl
@[simp] theorem page_setDispatchEngine (e : DispatchEngine) (j : PageId) : (s.setDispatchEngine e).page j = s.page j := rfl
@[simp] theorem terminal_setDispatchEngine (e : DispatchEngine) (j : TerminalId) : (s.setDispatchEngine e).terminal j = s.terminal j := rfl
@[simp] theorem font_setDispatchEngine (e : DispatchEngine) (j : FontId) : (s.setDispatchEngine e).font j = s.font j := rfl
@[simp] theorem memByte_setDispatchEngine (e : DispatchEngine) (j : Nat) : (s.setDispatchEngine e).memByte j = s.memByte j := rfl

/-! ## setHoldTimer -/

@[simp] theorem setHoldTimer_strap (t : Option Nat) : (s.setHoldTimer t).strap = s.strap := rfl
@[simp] theorem setHoldTimer_bus (t : Option Nat) : (s.setHoldTimer t).bus = s.bus := rfl
@[simp] theorem setHoldTimer_mem (t : Option Nat) : (s.setHoldTimer t).mem = s.mem := rfl
@[simp] theorem setHoldTimer_stories (t : Option Nat) : (s.setHoldTimer t).stories = s.stories := rfl
@[simp] theorem setHoldTimer_baskets (t : Option Nat) : (s.setHoldTimer t).baskets = s.baskets := rfl
@[simp] theorem setHoldTimer_measure (t : Option Nat) : (s.setHoldTimer t).measure = s.measure := rfl
@[simp] theorem setHoldTimer_stations (t : Option Nat) : (s.setHoldTimer t).stations = s.stations := rfl
@[simp] theorem setHoldTimer_pages (t : Option Nat) : (s.setHoldTimer t).pages = s.pages := rfl
@[simp] theorem setHoldTimer_link (t : Option Nat) : (s.setHoldTimer t).link = s.link := rfl
@[simp] theorem setHoldTimer_timebase (t : Option Nat) : (s.setHoldTimer t).timebase = s.timebase := rfl
@[simp] theorem setHoldTimer_free (t : Option Nat) : (s.setHoldTimer t).free = s.free := rfl
@[simp] theorem setHoldTimer_pending (t : Option Nat) : (s.setHoldTimer t).pending = s.pending := rfl
@[simp] theorem story_setHoldTimer (t : Option Nat) (j : StoryId) : (s.setHoldTimer t).story j = s.story j := rfl
@[simp] theorem basket_setHoldTimer (t : Option Nat) (j : BasketId) : (s.setHoldTimer t).basket j = s.basket j := rfl
@[simp] theorem page_setHoldTimer (t : Option Nat) (j : PageId) : (s.setHoldTimer t).page j = s.page j := rfl
@[simp] theorem terminal_setHoldTimer (t : Option Nat) (j : TerminalId) : (s.setHoldTimer t).terminal j = s.terminal j := rfl
@[simp] theorem font_setHoldTimer (t : Option Nat) (j : FontId) : (s.setHoldTimer t).font j = s.font j := rfl
@[simp] theorem memByte_setHoldTimer (t : Option Nat) (j : Nat) : (s.setHoldTimer t).memByte j = s.memByte j := rfl

/-! ## setPageState -/

@[simp] theorem setPageState_strap (p : PageId) (x : PageState) : (s.setPageState p x).strap = s.strap := rfl
@[simp] theorem setPageState_bus (p : PageId) (x : PageState) : (s.setPageState p x).bus = s.bus := rfl
@[simp] theorem setPageState_mem (p : PageId) (x : PageState) : (s.setPageState p x).mem = s.mem := rfl
@[simp] theorem setPageState_stories (p : PageId) (x : PageState) : (s.setPageState p x).stories = s.stories := rfl
@[simp] theorem setPageState_baskets (p : PageId) (x : PageState) : (s.setPageState p x).baskets = s.baskets := rfl
@[simp] theorem setPageState_measure (p : PageId) (x : PageState) : (s.setPageState p x).measure = s.measure := rfl
@[simp] theorem setPageState_stations (p : PageId) (x : PageState) : (s.setPageState p x).stations = s.stations := rfl
@[simp] theorem setPageState_dispatch (p : PageId) (x : PageState) : (s.setPageState p x).dispatch = s.dispatch := rfl
@[simp] theorem setPageState_link (p : PageId) (x : PageState) : (s.setPageState p x).link = s.link := rfl
@[simp] theorem setPageState_timebase (p : PageId) (x : PageState) : (s.setPageState p x).timebase = s.timebase := rfl
@[simp] theorem setPageState_free (p : PageId) (x : PageState) : (s.setPageState p x).free = s.free := rfl
@[simp] theorem setPageState_pending (p : PageId) (x : PageState) : (s.setPageState p x).pending = s.pending := rfl
@[simp] theorem story_setPageState (p : PageId) (x : PageState) (j : StoryId) : (s.setPageState p x).story j = s.story j := rfl
@[simp] theorem basket_setPageState (p : PageId) (x : PageState) (j : BasketId) : (s.setPageState p x).basket j = s.basket j := rfl
@[simp] theorem terminal_setPageState (p : PageId) (x : PageState) (j : TerminalId) : (s.setPageState p x).terminal j = s.terminal j := rfl
@[simp] theorem font_setPageState (p : PageId) (x : PageState) (j : FontId) : (s.setPageState p x).font j = s.font j := rfl
@[simp] theorem memByte_setPageState (p : PageId) (x : PageState) (j : Nat) : (s.setPageState p x).memByte j = s.memByte j := rfl

/-! ## setClosing -/

@[simp] theorem setClosing_strap (k : StoryId) (b : Bool) : (s.setClosing k b).strap = s.strap := rfl
@[simp] theorem setClosing_bus (k : StoryId) (b : Bool) : (s.setClosing k b).bus = s.bus := rfl
@[simp] theorem setClosing_mem (k : StoryId) (b : Bool) : (s.setClosing k b).mem = s.mem := rfl
@[simp] theorem setClosing_baskets (k : StoryId) (b : Bool) : (s.setClosing k b).baskets = s.baskets := rfl
@[simp] theorem setClosing_measure (k : StoryId) (b : Bool) : (s.setClosing k b).measure = s.measure := rfl
@[simp] theorem setClosing_stations (k : StoryId) (b : Bool) : (s.setClosing k b).stations = s.stations := rfl
@[simp] theorem setClosing_pages (k : StoryId) (b : Bool) : (s.setClosing k b).pages = s.pages := rfl
@[simp] theorem setClosing_dispatch (k : StoryId) (b : Bool) : (s.setClosing k b).dispatch = s.dispatch := rfl
@[simp] theorem setClosing_link (k : StoryId) (b : Bool) : (s.setClosing k b).link = s.link := rfl
@[simp] theorem setClosing_timebase (k : StoryId) (b : Bool) : (s.setClosing k b).timebase = s.timebase := rfl
@[simp] theorem setClosing_free (k : StoryId) (b : Bool) : (s.setClosing k b).free = s.free := rfl
@[simp] theorem setClosing_pending (k : StoryId) (b : Bool) : (s.setClosing k b).pending = s.pending := rfl
@[simp] theorem basket_setClosing (k : StoryId) (b : Bool) (j : BasketId) : (s.setClosing k b).basket j = s.basket j := rfl
@[simp] theorem page_setClosing (k : StoryId) (b : Bool) (j : PageId) : (s.setClosing k b).page j = s.page j := rfl
@[simp] theorem terminal_setClosing (k : StoryId) (b : Bool) (j : TerminalId) : (s.setClosing k b).terminal j = s.terminal j := rfl
@[simp] theorem font_setClosing (k : StoryId) (b : Bool) (j : FontId) : (s.setClosing k b).font j = s.font j := rfl
@[simp] theorem memByte_setClosing (k : StoryId) (b : Bool) (j : Nat) : (s.setClosing k b).memByte j = s.memByte j := rfl

/-! ## setLink -/

@[simp] theorem setLink_strap (l : Link) : (s.setLink l).strap = s.strap := rfl
@[simp] theorem setLink_bus (l : Link) : (s.setLink l).bus = s.bus := rfl
@[simp] theorem setLink_mem (l : Link) : (s.setLink l).mem = s.mem := rfl
@[simp] theorem setLink_stories (l : Link) : (s.setLink l).stories = s.stories := rfl
@[simp] theorem setLink_baskets (l : Link) : (s.setLink l).baskets = s.baskets := rfl
@[simp] theorem setLink_measure (l : Link) : (s.setLink l).measure = s.measure := rfl
@[simp] theorem setLink_stations (l : Link) : (s.setLink l).stations = s.stations := rfl
@[simp] theorem setLink_pages (l : Link) : (s.setLink l).pages = s.pages := rfl
@[simp] theorem setLink_dispatch (l : Link) : (s.setLink l).dispatch = s.dispatch := rfl
@[simp] theorem setLink_link (l : Link) : (s.setLink l).link = l := rfl
@[simp] theorem setLink_timebase (l : Link) : (s.setLink l).timebase = s.timebase := rfl
@[simp] theorem setLink_free (l : Link) : (s.setLink l).free = s.free := rfl
@[simp] theorem setLink_pending (l : Link) : (s.setLink l).pending = s.pending := rfl
@[simp] theorem story_setLink (l : Link) (j : StoryId) : (s.setLink l).story j = s.story j := rfl
@[simp] theorem basket_setLink (l : Link) (j : BasketId) : (s.setLink l).basket j = s.basket j := rfl
@[simp] theorem page_setLink (l : Link) (j : PageId) : (s.setLink l).page j = s.page j := rfl
@[simp] theorem terminal_setLink (l : Link) (j : TerminalId) : (s.setLink l).terminal j = s.terminal j := rfl
@[simp] theorem font_setLink (l : Link) (j : FontId) : (s.setLink l).font j = s.font j := rfl
@[simp] theorem memByte_setLink (l : Link) (j : Nat) : (s.setLink l).memByte j = s.memByte j := rfl

/-! ## Reading back -/

@[simp] theorem story_setStory_same (k : StoryId) (v : Story) : (s.setStory k v).story k = v :=
  tableGet_set_same _ _ _ _

@[simp] theorem story_setStory_ne {j k : StoryId} (v : Story) (h : j ≠ k) : (s.setStory k v).story j = s.story j :=
  tableGet_set_ne _ _ _ fun e => h (Fin.ext e)

theorem story_setStory (j k : StoryId) (v : Story) : (s.setStory k v).story j = if j = k then v else s.story j := by
  by_cases h : j = k
  · subst h; simp
  · simp [h]

@[simp] theorem basket_setBasket_same (k : BasketId) (v : Basket) : (s.setBasket k v).basket k = v :=
  tableGet_set_same _ _ _ _

@[simp] theorem basket_setBasket_ne {j k : BasketId} (v : Basket) (h : j ≠ k) :
    (s.setBasket k v).basket j = s.basket j :=
  tableGet_set_ne _ _ _ fun e => h (Fin.ext e)

theorem basket_setBasket (j k : BasketId) (v : Basket) :
    (s.setBasket k v).basket j = if j = k then v else s.basket j := by
  by_cases h : j = k
  · subst h; simp
  · simp [h]

@[simp] theorem page_setPage_same (k : PageId) (v : Page) : (s.setPage k v).page k = v := tableGet_set_same _ _ _ _

@[simp] theorem page_setPage_ne {j k : PageId} (v : Page) (h : j ≠ k) : (s.setPage k v).page j = s.page j :=
  tableGet_set_ne _ _ _ fun e => h (Fin.ext e)

theorem page_setPage (j k : PageId) (v : Page) : (s.setPage k v).page j = if j = k then v else s.page j := by
  by_cases h : j = k
  · subst h; simp
  · simp [h]

@[simp] theorem terminal_setTerminal_same (k : TerminalId) (v : Terminal) : (s.setTerminal k v).terminal k = v :=
  tableGet_set_same _ _ _ _

@[simp] theorem terminal_setTerminal_ne {j k : TerminalId} (v : Terminal) (h : j ≠ k) :
    (s.setTerminal k v).terminal j = s.terminal j :=
  tableGet_set_ne _ _ _ fun e => h (Fin.ext e)

theorem terminal_setTerminal (j k : TerminalId) (v : Terminal) :
    (s.setTerminal k v).terminal j = if j = k then v else s.terminal j := by
  by_cases h : j = k
  · subst h; simp
  · simp [h]

@[simp] theorem font_setFont_same (k : FontId) (v : Font) : (s.setFont k v).font k = v := tableGet_set_same _ _ _ _

@[simp] theorem font_setFont_ne {j k : FontId} (v : Font) (h : j ≠ k) : (s.setFont k v).font j = s.font j :=
  tableGet_set_ne _ _ _ fun e => h (Fin.ext e)

theorem fontWidth_setFontWidth (f : Font) (j c : Nat) (w : BitVec 6) :
    fontWidth (setFontWidth f c w) j = if j = c then w else fontWidth f j := tableGet_set _ _ _ _ _

@[simp] theorem ring_setRing_same (st : Station) (r : Ring) : (s.setRing st r).ring st = r := by
  cases st <;> simp [State.setRing, State.ring]

@[simp] theorem ring_setRing_ne {a b : Station} (r : Ring) (h : a ≠ b) : (s.setRing b r).ring a = s.ring a := by
  cases a <;> cases b <;> simp_all [State.setRing, State.ring] <;> rfl

@[simp] theorem signedOn_setRing (st a : Station) (r : Ring) : (s.setRing st r).signedOn a = s.signedOn a := by
  cases st with
  | system => rfl
  | terminal t =>
    cases a with
    | system => rfl
    | terminal u =>
      simp only [State.setRing, State.signedOn, terminal_setTerminal]
      split <;> simp_all

@[simp] theorem lastRefusal_setLastRefusal_same (st : Station) (r : Reason) :
    (s.setLastRefusal st r).lastRefusal st = r := by
  cases st <;> simp [State.setLastRefusal, State.lastRefusal]

@[simp] theorem signedOn_setLastRefusal (st a : Station) (r : Reason) :
    (s.setLastRefusal st r).signedOn a = s.signedOn a := by
  cases st with
  | system => rfl
  | terminal t =>
    cases a with
    | system => rfl
    | terminal u =>
      simp only [State.setLastRefusal, State.signedOn, terminal_setTerminal]
      split <;> simp_all

end Sys2Proof.Machine
end

