-- ==== Sys2Proof/Laws/Frames.lean ====
section
/-! SUPPORT. What the shared operations leave alone, said once for each: `butStations`, `butStories` and `outer` gather the
fields an operation keeps, so that one equation per operation gives each of them. -/

namespace Sys2Proof.Machine

/-- A function applied over a list keeps what each application keeps. -/
theorem foldl_keeps {σ α β : Type} (φ : σ → β) (f : σ → α → σ) (h : ∀ s x, φ (f s x) = φ s) (l : List α) (s : σ) :
    φ (l.foldl f s) = φ s := by
  induction l generalizing s with
  | nil => rfl
  | cons x l ih => rw [List.foldl_cons, ih, h]

/-- What a property-keeping function over a list keeps. -/
theorem foldl_invariant {σ α : Type} (p : σ → Prop) (f : σ → α → σ) (h : ∀ s x, p s → p (f s x)) (l : List α) (s : σ)
    (hs : p s) : p (l.foldl f s) := by
  induction l generalizing s with
  | nil => exact hs
  | cons x l ih => exact ih _ (h _ _ hs)

/-! ## Tests and answers -/

theorem asStation_some {code : StationCode} {st : Station} (h : stationOf code = some st) (s : State)
    (op : Station → State) : asStation code s op = op st := by simp [asStation, h]

theorem asStation_none {code : StationCode} (h : stationOf code = none) (s : State) (op : Station → State) :
    asStation code s op = s.refuseUnknown := by simp [asStation, h]

@[simp] theorem testing_nil (st : Station) (s taken : State) : testing st [] s taken = taken := rfl

@[simp] theorem testing_cons (st : Station) (b : Bool) (r : Reason) (ts : List (Bool × Reason)) (s taken : State) :
    testing st ((b, r) :: ts) s taken = if b then s.refuse st r else testing st ts s taken := by
  cases b <;> simp [testing]

/-- What the tests of a word answer: the request is taken and no condition is met, or the first condition met gives the
refusal. -/
theorem testing_cases (st : Station) (ts : List (Bool × Reason)) (s taken : State) :
    (testing st ts s taken = taken ∧ ∀ t ∈ ts, t.1 = false) ∨
      ∃ t ∈ ts, t.1 = true ∧ testing st ts s taken = s.refuse st t.2 := by
  unfold testing
  cases h : ts.find? (fun t => t.1) with
  | none => exact .inl ⟨rfl, fun t ht => by simpa using List.find?_eq_none.1 h t ht⟩
  | some t => exact .inr ⟨t, List.mem_of_find?_eq_some h, List.find?_some h, rfl⟩

/-! ## Operations that touch the station unit alone -/

/-- Everything but the station unit. -/
def butStations (s : State) :=
  (s.strap, s.bus, s.mem, s.stories, s.baskets, s.measure, s.pages, s.dispatch, s.link, s.timebase, s.free, s.pending)

@[simp] theorem butStations_setTerminal (s : State) (t : TerminalId) (v : Terminal) :
    butStations (s.setTerminal t v) = butStations s := rfl

@[simp] theorem butStations_setRing (s : State) (st : Station) (r : Ring) :
    butStations (s.setRing st r) = butStations s := by cases st <;> rfl

@[simp] theorem butStations_setOverrun (s : State) (st : Station) : butStations (s.setOverrun st) = butStations s := by
  cases st <;> rfl

@[simp] theorem butStations_refreshLines (s : State) : butStations s.refreshLines = butStations s := rfl

@[simp] theorem butStations_countHold (s : State) (st : Station) (f : Nat → Nat) :
    butStations (s.countHold st f) = butStations s := by cases st <;> rfl

@[simp] theorem butStations_raise (s : State) (st : Station) (n : Notice) : butStations (s.raise st n) = butStations s := by
  unfold State.raise
  split
  · split
    · rfl
    · simp
  · rfl

@[simp] theorem butStations_raiseAll (s : State) (ns : List Outgoing) : butStations (s.raiseAll ns) = butStations s :=
  foldl_keeps _ _ (fun _ _ => butStations_raise _ _ _) _ _

@[simp] theorem butStations_dropHead (s : State) : butStations s.dropHead = butStations s := rfl

@[simp] theorem butStations_setRingWrite (s : State) (w : Option RingWrite) :
    butStations (s.setRingWrite w) = butStations s := rfl

@[simp] theorem butStations_discardNotices (s : State) (st : Station) :
    butStations (s.discardNotices st) = butStations s := rfl

@[simp] theorem butStations_ringWriteStart (s : State) : butStations s.ringWriteStart = butStations s := by
  unfold State.ringWriteStart
  split
  · split
    · split <;> simp
    · simp
  · rfl

@[simp] theorem butStations_noteContested (s : State) (o : Station) (off n : Nat) :
    butStations (s.noteContested o off n) = butStations s := by
  unfold State.noteContested
  split
  · split <;> simp
  · rfl

@[simp] theorem butStations_setReadIndex (s : State) (o : Station) (v : Word) :
    butStations (s.setReadIndex o v) = butStations s := by simp [State.setReadIndex]

/-- Two states that agree on everything but the station unit agree on every record but the stations'. -/
theorem butStations_eq {s t : State} (h : butStations t = butStations s) : t = { s with stations := t.stations } := by
  cases s; cases t
  simp only [butStations, Prod.mk.injEq] at h
  obtain ⟨rfl, rfl, rfl, rfl, rfl, rfl, rfl, rfl, rfl, rfl, rfl, rfl⟩ := h
  rfl

/-! ## Operations that touch the story table and the station unit alone -/

/-- Everything but the story table and the station unit. -/
def butStories (s : State) :=
  (s.strap, s.bus, s.mem, s.baskets, s.measure, s.pages, s.dispatch, s.link, s.timebase, s.free, s.pending)

theorem butStories_of_butStations {s t : State} (h : butStations t = butStations s) : butStories t = butStories s := by
  simp only [butStations, Prod.mk.injEq] at h
  simp [butStories, h]

@[simp] theorem butStories_setStory (s : State) (k : StoryId) (v : Story) : butStories (s.setStory k v) = butStories s := rfl

@[simp] theorem butStories_raise (s : State) (st : Station) (n : Notice) : butStories (s.raise st n) = butStories s :=
  butStories_of_butStations (by simp)

@[simp] theorem butStories_raiseAll (s : State) (ns : List Outgoing) : butStories (s.raiseAll ns) = butStories s :=
  butStories_of_butStations (by simp)

@[simp] theorem butStories_countHold (s : State) (st : Station) (f : Nat → Nat) :
    butStories (s.countHold st f) = butStories s := butStories_of_butStations (by simp)

@[simp] theorem butStories_gainHold (s : State) (k : StoryId) (st : Station) :
    butStories (s.gainHold k st) = butStories s := by simp [State.gainHold]

@[simp] theorem butStories_loseHold (s : State) (k : StoryId) : butStories (s.loseHold k) = butStories s := by
  unfold State.loseHold
  split <;> simp

@[simp] theorem butStories_setStatus (s : State) (k : StoryId) (x : DepthStatus) :
    butStories (s.setStatus k x) = butStories s := rfl

@[simp] theorem butStories_setClosing (s : State) (k : StoryId) (b : Bool) :
    butStories (s.setClosing k b) = butStories s := rfl

@[simp] theorem butStories_markClosing (s : State) (p : PageId) (b : Bool) :
    butStories (s.markClosing p b) = butStories s := foldl_keeps _ _ (fun _ _ => butStories_setClosing _ _ _) _ _

@[simp] theorem butStories_freeze (s : State) (k : StoryId) : butStories (s.freeze k) = butStories s := rfl

@[simp] theorem butStories_dropViewer (s : State) (k : StoryId) (t : TerminalId) :
    butStories (s.dropViewer k t) = butStories s := rfl

@[simp] theorem butStories_registerView (s : State) (k : StoryId) (t : TerminalId) :
    butStories (s.registerView k t) = butStories s := by simp [State.registerView]

@[simp] theorem butStories_viewBy (s : State) (st : Station) (k : StoryId) :
    butStories (s.viewBy st k) = butStories s := by
  unfold State.viewBy
  split
  · split <;> simp
  · rfl

@[simp] theorem butStories_markViewers (s : State) (k : StoryId) (w : Station) :
    butStories (s.markViewers k w) = butStories s := by simp [State.markViewers]

@[simp] theorem butStories_evaluateOverset (s : State) (k : StoryId) (c : Option Station) :
    butStories (s.evaluateOverset k c) = butStories s := by
  unfold State.evaluateOverset
  simp only
  split <;> simp

@[simp] theorem butStories_allowanceChanged (s : State) (k : StoryId) (w : Station) :
    butStories (s.allowanceChanged k w) = butStories s := by
  unfold State.allowanceChanged
  split <;> simp

@[simp] theorem butStories_unfreeze (s : State) (k : StoryId) : butStories (s.unfreeze k) = butStories s := by
  unfold State.unfreeze
  split <;> simp

/-! ## Operations inside the part: bus, memory, baskets, timebase and queue are kept -/

/-- What no operation of the measure unit, the dispatch engine or the link touches. -/
def outer (s : State) := (s.strap, s.bus, s.mem, s.baskets, s.timebase, s.free, s.pending)

theorem outer_of_butStories {s t : State} (h : butStories t = butStories s) : outer t = outer s := by
  simp only [butStories, Prod.mk.injEq] at h
  simp [outer, h]

theorem outer_of_butStations {s t : State} (h : butStations t = butStations s) : outer t = outer s :=
  outer_of_butStories (butStories_of_butStations h)

@[simp] theorem outer_setStory (s : State) (k : StoryId) (v : Story) : outer (s.setStory k v) = outer s := rfl
@[simp] theorem outer_setPage (s : State) (p : PageId) (v : Page) : outer (s.setPage p v) = outer s := rfl
@[simp] theorem outer_setPageState (s : State) (p : PageId) (x : PageState) : outer (s.setPageState p x) = outer s := rfl
@[simp] theorem outer_setFont (s : State) (f : FontId) (v : Font) : outer (s.setFont f v) = outer s := rfl
@[simp] theorem outer_setQueue (s : State) (q : List StoryId) : outer (s.setQueue q) = outer s := rfl
@[simp] theorem outer_setEngine (s : State) (e : Engine) : outer (s.setEngine e) = outer s := rfl
@[simp] theorem outer_setStatus (s : State) (k : StoryId) (x : DepthStatus) : outer (s.setStatus k x) = outer s := rfl
@[simp] theorem outer_setLink (s : State) (l : Link) : outer (s.setLink l) = outer s := rfl
@[simp] theorem outer_setDispatchEngine (s : State) (e : DispatchEngine) : outer (s.setDispatchEngine e) = outer s := rfl
@[simp] theorem outer_setSend (s : State) (x : SendState) : outer (s.setSend x) = outer s := rfl
@[simp] theorem outer_setHoldTimer (s : State) (t : Option Nat) : outer (s.setHoldTimer t) = outer s := rfl
@[simp] theorem outer_handOver (s : State) (f : Frame) : outer (s.handOver f) = outer s := rfl
@[simp] theorem outer_leaveQueue (s : State) (p : PageId) : outer (s.leaveQueue p) = outer s := rfl
@[simp] theorem outer_promote (s : State) (p : PageId) : outer (s.promote p) = outer s := rfl
@[simp] theorem outer_handText (s : State) (x : SendState) (n : Nat) : outer (s.handText x n) = outer s := rfl
@[simp] theorem outer_postDepth (s : State) (k : StoryId) (r : Breaker) : outer (s.postDepth k r) = outer s := rfl

@[simp] theorem outer_raise (s : State) (st : Station) (n : Notice) : outer (s.raise st n) = outer s :=
  outer_of_butStations (by simp)

@[simp] theorem outer_raiseAll (s : State) (ns : List Outgoing) : outer (s.raiseAll ns) = outer s :=
  outer_of_butStations (by simp)

@[simp] theorem outer_markClosing (s : State) (p : PageId) (b : Bool) : outer (s.markClosing p b) = outer s :=
  outer_of_butStories (by simp)

@[simp] theorem outer_loseHold (s : State) (k : StoryId) : outer (s.loseHold k) = outer s :=
  outer_of_butStories (by simp)

@[simp] theorem outer_evaluateOverset (s : State) (k : StoryId) (c : Option Station) :
    outer (s.evaluateOverset k c) = outer s := outer_of_butStories (by simp)

@[simp] theorem outer_leaveMeasuring (s : State) : outer s.leaveMeasuring = outer s := by
  unfold State.leaveMeasuring
  split <;> rfl

@[simp] theorem outer_abandonPass (s : State) (k : StoryId) : outer (s.abandonPass k) = outer s := by
  unfold State.abandonPass
  split <;> simp

@[simp] theorem outer_queueStale (s : State) (k : StoryId) : outer (s.queueStale k) = outer s := by
  simp [State.queueStale]

@[simp] theorem outer_stale (s : State) (k : StoryId) : outer (s.stale k) = outer s := by
  unfold State.stale
  split <;> simp

@[simp] theorem outer_staleAll (s : State) (ks : List StoryId) : outer (s.staleAll ks) = outer s :=
  foldl_keeps _ _ (fun _ _ => outer_stale _ _) _ _

@[simp] theorem outer_staleFont (s : State) (f : FontId) : outer (s.staleFont f) = outer s := by simp [State.staleFont]

@[simp] theorem outer_pumpText (s : State) (x : SendState) : outer (s.pumpText x) = outer s := by
  unfold State.pumpText
  split
  · rfl
  · split
    · split <;> rfl
    · rfl

@[simp] theorem outer_handSlot (s : State) (p : PageId) (x : SendState) (n : SlotId) :
    outer (s.handSlot p x n) = outer s := by
  unfold State.handSlot
  split <;> rfl

@[simp] theorem outer_completePage (s : State) (e : Queued) : outer (s.completePage e) = outer s := by
  have h : ∀ (l : List StoryId) (u : State), outer (l.foldl State.freeze u) = outer u :=
    fun l u => foldl_keeps outer State.freeze (fun _ _ => rfl) l u
  simp [State.completePage, h]

@[simp] theorem outer_failRecord (s : State) (e : Queued) (f : Failing) : outer (s.failRecord e f) = outer s := by
  simp only [State.failRecord, outer_leaveQueue, outer_raise, outer_setPage]
  split <;> split <;> simp

@[simp] theorem outer_failEngine (s : State) (p : PageId) (a b : Bool) : outer (s.failEngine p a b) = outer s := by
  unfold State.failEngine
  split
  · rfl
  · split <;> rfl

@[simp] theorem outer_failPage (s : State) (e : Queued) (f : Failing) : outer (s.failPage e f) = outer s := by
  simp [State.failPage]

@[simp] theorem outer_wantHold (s : State) (e : Queued) (ns : SlotId × Slot) : outer (s.wantHold e ns) = outer s := by
  unfold State.wantHold
  split
  · split
    · rfl
    · simp only [outer_raise]
      rfl
  · rfl

@[simp] theorem outer_enterWaiting (s : State) (e : Queued) : outer (s.enterWaiting e) = outer s := by
  unfold State.enterWaiting
  simp only
  rw [foldl_keeps outer _ (fun _ _ => outer_wantHold _ _ _)]
  simp

@[simp] theorem outer_enterSending (s : State) (e : Queued) : outer (s.enterSending e) = outer s := by
  unfold State.enterSending
  split <;> rfl

@[simp] theorem outer_advanceUpTo (n : Nat) (s : State) : outer (State.advanceUpTo n s) = outer s := by
  induction n generalizing s with
  | zero => rfl
  | succ n ih =>
    unfold State.advanceUpTo
    split
    · split
      · simp only
        split
        · rw [ih]; simp
        · simp
        · simp
      · rfl
    · rfl

@[simp] theorem outer_advance (s : State) : outer s.advance = outer s := outer_advanceUpTo _ _

@[simp] theorem outer_fail (s : State) (e : Queued) (f : Failing) : outer (s.fail e f) = outer s := by simp [State.fail]

@[simp] theorem outer_evaluate (s : State) : outer s.evaluate = outer s := by
  unfold State.evaluate
  split
  · split <;> simp
  · rfl

@[simp] theorem outer_handEvent (s : State) (k : StoryId) : outer (s.handEvent k) = outer s := by
  unfold State.handEvent
  split <;> simp

@[simp] theorem outer_complete (s : State) (e : Queued) : outer (s.complete e) = outer s := by simp [State.complete]

@[simp] theorem outer_nextFrame (s : State) : outer s.nextFrame = outer s := by
  unfold State.nextFrame
  split
  · split
    · simp
    · simp
    · simp
    · split <;> simp
    · simp
  · rfl

@[simp] theorem outer_failSend (s : State) (c : Cause) : outer (s.failSend c) = outer s := by
  unfold State.failSend
  split <;> simp

@[simp] theorem outer_abortEnd (s : State) : outer s.abortEnd = outer s := by
  unfold State.abortEnd
  split <;> simp

@[simp] theorem outer_returnToQueued (s : State) : outer s.returnToQueued = outer s := by
  unfold State.returnToQueued
  split <;> simp

@[simp] theorem outer_linkLost (s : State) : outer s.linkLost = outer s := by
  unfold State.linkLost
  split <;> simp

@[simp] theorem outer_holdWaitExpiry (s : State) : outer s.holdWaitExpiry = outer s := by
  unfold State.holdWaitExpiry
  split <;> simp

@[simp] theorem outer_sendTextRead (s : State) (fault : Bool) : outer (s.sendTextRead fault) = outer s := by
  unfold State.sendTextRead
  split
  · split
    · rfl
    · split
      · split
        · simp
        · simp only
          split <;> simp
      · rfl
  · rfl

@[simp] theorem outer_cancelPage (s : State) (p : PageId) (st : Station) : outer (s.cancelPage p st) = outer s := by
  unfold State.cancelPage
  split <;> simp

@[simp] theorem outer_queuePage (s : State) (p : PageId) (r : Resting) : outer (s.queuePage p r) = outer s := by
  simp only [State.queuePage, outer_advance]
  rfl

@[simp] theorem outer_takePass (s : State) : outer s.takePass = outer s := by
  unfold State.takePass
  split <;> simp

@[simp] theorem outer_measureBlock (s : State) : outer s.measureBlock = outer s := by
  unfold State.measureBlock
  split
  · split <;> simp
  · rfl

@[simp] theorem outer_completePass (s : State) : outer s.completePass = outer s := by
  unfold State.completePass
  split <;> simp

@[simp] theorem outer_faultPass (s : State) : outer s.faultPass = outer s := by
  unfold State.faultPass
  split <;> simp

@[simp] theorem outer_fontWaitExpiry (s : State) : outer s.fontWaitExpiry = outer s := by
  unfold State.fontWaitExpiry
  split <;> rfl

@[simp] theorem outer_releaseHold (s : State) (k : StoryId) : outer (s.releaseHold k) = outer s := by
  simp [State.releaseHold]

@[simp] theorem outer_leaveUp (s : State) (b : Bool) : outer (s.leaveUp b) = outer s := by
  simp [State.leaveUp, State.raiseLink]

@[simp] theorem outer_presentHigh (s : State) : outer s.presentHigh = outer s := by
  unfold State.presentHigh
  simp only
  split <;> simp

@[simp] theorem outer_presentLow (s : State) : outer s.presentLow = outer s := by
  unfold State.presentLow
  simp only
  split <;> simp

@[simp] theorem outer_trainingExpiry (s : State) : outer s.trainingExpiry = outer s := by
  unfold State.trainingExpiry
  split <;> simp

@[simp] theorem outer_takeAbility (s : State) (m l : Byte) : outer (s.takeAbility m l) = outer s := by
  unfold State.takeAbility
  split
  · rfl
  · simp [State.trained, State.raiseLink]
  · unfold State.retrained
    simp only
    split <;> simp

@[simp] theorem outer_frameDone (s : State) (f : Frame) : outer (s.frameDone f) = outer s := by
  unfold State.frameDone
  split <;> simp

@[simp] theorem outer_frameEnded (s : State) (f : Frame) (c : Cause) : outer (s.frameEnded f c) = outer s := by
  unfold State.frameEnded
  split <;> simp

@[simp] theorem outer_failedTry (s : State) (o : Outstanding) : outer (s.failedTry o) = outer s := by
  unfold State.failedTry
  split <;> simp

@[simp] theorem outer_takeAck (s : State) : outer s.takeAck = outer s := by
  unfold State.takeAck
  split <;> simp [State.settled]

@[simp] theorem outer_takeWait (s : State) : outer s.takeWait = outer s := by
  unfold State.takeWait
  split <;> simp [State.waitSet]

@[simp] theorem outer_takeNak (s : State) (r : NakReason) : outer (s.takeNak r) = outer s := by
  unfold State.takeNak
  split
  · split
    · simp
    · split <;> simp [State.settled]
    · simp [State.settled]
  · rfl

@[simp] theorem outer_takeReady (s : State) : outer s.takeReady = outer s := by
  unfold State.takeReady
  split
  · split <;> simp
  · rfl

@[simp] theorem outer_takeIncoming (s : State) (f : Incoming) : outer (s.takeIncoming f) = outer s := by
  cases f <;> simp [State.takeIncoming]

@[simp] theorem outer_frameArrives (s : State) (f : Incoming) : outer (s.frameArrives f) = outer s := by
  unfold State.frameArrives
  split <;> simp

@[simp] theorem outer_waitExpiry (s : State) : outer s.waitExpiry = outer s := by
  unfold State.waitExpiry
  split <;> simp

@[simp] theorem outer_replyExpiry (s : State) : outer s.replyExpiry = outer s := by
  unfold State.replyExpiry
  split <;> simp

@[simp] theorem outer_tryEnd (s : State) : outer s.tryEnd = outer s := by
  unfold State.tryEnd
  split <;> simp

@[simp] theorem outer_abilityEnd (s : State) : outer s.abilityEnd = outer s := by
  unfold State.abilityEnd
  split <;> simp

@[simp] theorem outer_gapExpiry (s : State) : outer s.gapExpiry = outer s := by
  unfold State.gapExpiry
  split <;> simp

@[simp] theorem outer_byteArrives (s : State) (b : Byte) : outer (s.byteArrives b) = outer s := by
  unfold State.byteArrives
  split
  · rfl
  · split <;> simp
  · unfold State.byteWithin
    split
    · simp
    · split
      · split <;> simp
      · simp

/-- The fields `outer` gathers. -/
theorem outer_fields {s t : State} (h : outer t = outer s) :
    t.strap = s.strap ∧ t.bus = s.bus ∧ t.mem = s.mem ∧ t.baskets = s.baskets ∧ t.timebase = s.timebase ∧
      t.free = s.free ∧ t.pending = s.pending := by
  simpa [outer] using h

end Sys2Proof.Machine
end

