-- ==== Sys2Proof/Laws/Operations.lean ====
section
/-! SUPPORT. What each shared operation can do, said once: notices and attention lines, holds, closing markers, failures,
the advance of the dispatch queue, the slots of a page, the frames of the link and the stories of a table. -/

namespace Sys2Proof.Machine

/-! ## Notices -/

/-- A notice for a signed-on station joins a queue with room. -/
theorem raise_taken (s : State) (st : Station) (n : Notice) (h : s.signedOn st = true)
    (hl : s.stations.outgoing.length < 256) :
    s.raise st n =
      { s with stations := { s.stations with outgoing := s.stations.outgoing ++ [{ recipient := st, notice := n }] } } := by
  simp [State.raise, h, outgoingPlaces, hl]

/-- A notice for a station that is not signed on is discarded. -/
theorem raise_off (s : State) (st : Station) (n : Notice) (h : s.signedOn st = false) : s.raise st n = s := by
  simp [State.raise, h]

/-- A notice that finds the queue full sets the overrun flag. -/
theorem raise_full (s : State) (st : Station) (n : Notice) (h : s.signedOn st = true)
    (hl : 256 ≤ s.stations.outgoing.length) : s.raise st n = s.setOverrun st := by
  simp [State.raise, h, outgoingPlaces, Nat.not_lt.2 hl]

/-- Handing over a notice keeps who is signed on. -/
@[simp] theorem raise_signedOn (s : State) (st o : Station) (n : Notice) : (s.raise st n).signedOn o = s.signedOn o := by
  unfold State.raise
  split
  · split
    · cases o <;> rfl
    · cases o with
      | system => rfl
      | terminal u => cases st with
        | system => rfl
        | terminal v => simp only [State.signedOn, State.setOverrun, State.setRing, State.terminal, State.setTerminal]
                        rw [tableGet_set]
                        split
                        · rename_i hh
                          rw [Fin.val_inj.1 hh]
                        · rfl
  · rfl

/-- Notices for signed-on stations join a queue with room for all of them, in their order. -/
theorem raiseAll_taken : ∀ (ns : List Outgoing) (s : State), (∀ o ∈ ns, s.signedOn o.recipient = true) →
    s.stations.outgoing.length + ns.length ≤ 256 →
    s.raiseAll ns = { s with stations := { s.stations with outgoing := s.stations.outgoing ++ ns } }
  | [], s, _, _ => by simp [State.raiseAll]
  | o :: ns, s, h, hl => by
    have h1 := raise_taken s o.recipient o.notice (h o (.head _)) (by simp at hl; omega)
    have h2 := raiseAll_taken ns (s.raise o.recipient o.notice)
      (fun x hx => by rw [raise_signedOn]; exact h x (.tail _ hx))
      (by rw [h1]; simp at hl ⊢; omega)
    show (s.raise o.recipient o.notice).raiseAll ns = _
    rw [h2, h1]
    simp

/-! ## Attention lines -/

/-- The bits of a word built up from the flags of a list. -/
theorem fold_flags (p : Group → Bool) (l : List Group) (v : BitVec 8) (i : Nat) :
    (l.foldl (fun v g => if p g then v ||| BitVec.twoPow 8 g.val else v) v).getLsbD i = true ↔
      v.getLsbD i = true ∨ ∃ g ∈ l, p g = true ∧ g.val = i := by
  induction l generalizing v with
  | nil => simp
  | cons g l ih =>
    rw [List.foldl_cons, ih]
    by_cases hg : p g = true
    · have hb : (v ||| BitVec.twoPow 8 g.val).getLsbD i = true ↔ v.getLsbD i = true ∨ g.val = i := by
        rw [BitVec.getLsbD_or, Bool.or_eq_true, BitVec.getLsbD_twoPow]
        simp only [Bool.and_eq_true, decide_eq_true_eq]
        exact or_congr_right ⟨fun h => h.2, fun h => ⟨g.isLt, h⟩⟩
      rw [if_pos hg, hb, or_assoc]
      refine or_congr_right ⟨fun h => ?_, fun ⟨x, hx, h⟩ => ?_⟩
      · rcases h with h | ⟨x, hx, h⟩
        · exact ⟨g, .head _, hg, h⟩
        · exact ⟨x, .tail _ hx, h⟩
      · rcases List.mem_cons.1 hx with rfl | hx
        · exact .inl h.2
        · exact .inr ⟨x, hx, h⟩
    · rw [if_neg hg]
      refine or_congr_right ⟨fun ⟨x, hx, h⟩ => ⟨x, .tail _ hx, h⟩, fun ⟨x, hx, h⟩ => ?_⟩
      rcases List.mem_cons.1 hx with rfl | hx
      · exact absurd h.1 hg
      · exact ⟨x, hx, h⟩

/-- Each group line stands by its condition once the lines have been set. -/
theorem groupsDue_bit (s : State) (g : Group) : s.groupsDue.getLsbD g.val = s.groupDue g := by
  rw [Bool.eq_iff_iff]
  have := fold_flags s.groupDue (List.finRange 8) 0 g.val
  simp only [State.groupsDue]
  rw [this]
  simp
  constructor
  · rintro ⟨x, hx, hv⟩
    rwa [← Fin.ext hv]
  · intro h
    exact ⟨g, h, rfl⟩

/-- Once the attention lines have been set, they stand as R115 says. -/
theorem refreshLines_lineLaw (s : State) : Safety.LineLaw s.refreshLines := by
  refine ⟨fun g => ?_, by simp [State.refreshLines]⟩
  show s.groupsDue.getLsbD g.val = true ↔ _
  rw [groupsDue_bit]
  have he : s.refreshLines.stations.enables = s.stations.enables := rfl
  simp only [State.groupDue, allTerminals, Bool.and_eq_true, List.any_eq_true, List.mem_finRange, true_and,
    decide_eq_true_eq, beq_iff_eq, and_assoc, he, terminal_refreshLines]

/-! ## Holds and the dispatch engine told of them -/

/-- An event of a story that is not closing, or with no page WAITING at the head, changes nothing. -/
theorem handEvent_quiet (s : State) (k : StoryId) (h : (s.story k).closing = false ∨ s.waitingHead = none) :
    s.handEvent k = s := by
  rcases h with h | h
  · simp [State.handEvent, h]
  · simp [State.handEvent, State.evaluate, h]

/-- The head of the dispatch queue does not advance while the engine is at work. -/
theorem advance_busy (s : State) (h : s.dispatch.engine ≠ .idle) : s.advance = s := by
  unfold State.advance
  cases s.dispatch.queue.length with
  | zero => rfl
  | succ n =>
    unfold State.advanceUpTo
    split
    · contradiction
    · rfl

/-- The head of the dispatch queue does not advance while the link is not UP. -/
theorem advance_linkDown (s : State) (h : s.link.state ≠ .up) : s.advance = s := by
  unfold State.advance
  cases s.dispatch.queue.length with
  | zero => rfl
  | succ n =>
    unfold State.advanceUpTo
    split
    · contradiction
    · rfl

/-- Nothing advances from an empty dispatch queue. -/
theorem advance_empty (s : State) (h : s.dispatch.queue = []) : s.advance = s := by
  simp [State.advance, h, State.advanceUpTo]

/-- What ending a hold leaves: the story unheld, and its old holder's count one lower. -/
theorem loseHold_held (s : State) (k : StoryId) (st : Station) (h : (s.story k).holder = some st) :
    s.loseHold k = (s.setStory k { s.story k with holder := none }).countHold st (· - 1) := by
  simp [State.loseHold, h]

/-- Ending the hold of a story nobody holds changes nothing. -/
theorem loseHold_free (s : State) (k : StoryId) (h : (s.story k).holder = none) : s.loseHold k = s := by
  simp [State.loseHold, h]

/-- The terminals once a station's hold count has moved. -/
theorem countHold_terminal (s : State) (st : Station) (f : Nat → Nat) (u : TerminalId) :
    (s.countHold st f).terminal u =
      if st = .terminal u then { s.terminal u with holdCount := f (s.terminal u).holdCount } else s.terminal u := by
  cases st with
  | system => simp [State.countHold]
  | terminal v =>
    by_cases h : v = u
    · subst h
      simp [State.countHold, State.terminal, State.setTerminal]
    · have h' : (u : Nat) ≠ v := fun x => h (Fin.ext x).symm
      simp [State.countHold, State.terminal, State.setTerminal, h, h']

/-! ## Stories of a table, and staling -/

/-- Whether a story's depth record leaves its status for STALE when a cause reaches it (R86). -/
def stales (x : DepthStatus) : Bool := x == .fresh || x == .faulted || x == .measuring

/-- A staling cause on a story whose pass is not in flight: the status becomes STALE, and the story joins the queue
unless it was STALE or NONE. -/
theorem stale_eq (s : State) (k : StoryId) (h : s.inPass k = false) :
    s.stale k = if stales (s.story k).depth.status then s.queueStale k else s := by
  unfold State.stale
  cases hs : (s.story k).depth.status <;> simp [stales, State.abandonPass, h]

/-- A staling cause on several stories, each named once, while no pass of theirs is in flight. -/
theorem staleAll_story : ∀ (ks : List StoryId) (s : State), ks.Nodup → (∀ k ∈ ks, s.inPass k = false) →
    (∀ k, (s.staleAll ks).story k =
      if k ∈ ks ∧ (s.story k).depth.status ≠ .none then
        { s.story k with depth := { (s.story k).depth with status := .stale } }
      else s.story k) ∧
    s.staleAll ks = { s with
      stories := (s.staleAll ks).stories
      measure := { s.measure with
        queue := s.measure.queue ++ ks.filter fun k => stales (s.story k).depth.status } }
  | [], s, _, _ => by simp [State.staleAll]
  | a :: ks, s, hn, hp => by
    have ha := stale_eq s a (hp a (.head _))
    have hn' := List.nodup_cons.1 hn
    have hpass : ∀ k, (s.stale a).inPass k = s.inPass k := fun k => by
      rw [ha]
      split <;> rfl
    have hne : ∀ k, k ≠ a → (s.stale a).story k = s.story k := fun k hk => by
      rw [ha]
      split
      · simp [State.queueStale, State.setStatus, State.setQueue, State.story, State.setStory, Fin.val_inj, hk]
      · rfl
    have hsame : (s.stale a).story a =
        if (s.story a).depth.status ≠ .none then
          { s.story a with depth := { (s.story a).depth with status := .stale } }
        else s.story a := by
      rw [ha]
      cases hs : (s.story a).depth.status <;>
        simp [stales, State.queueStale, State.setStatus, State.setQueue, State.story, State.setStory]
      simp [State.story] at hs
      rw [← hs]
    obtain ⟨ih1, ih2⟩ := staleAll_story ks (s.stale a) hn'.2 fun k hk => by
      rw [hpass]
      exact hp k (.tail _ hk)
    refine ⟨fun k => ?_, ?_⟩
    · show ((s.stale a).staleAll ks).story k = _
      rw [ih1]
      by_cases hk : k = a
      · subst hk
        simp only [hn'.1, false_and, if_false, hsame, List.mem_cons, true_or, true_and]
      · simp only [hne k hk, List.mem_cons, hk, false_or]
    · have hf : ks.filter (fun k => stales ((s.stale a).story k).depth.status) =
          ks.filter fun k => stales (s.story k).depth.status :=
        List.filter_congr fun k hk => by rw [hne k fun h => hn'.1 (h ▸ hk)]
      show (s.stale a).staleAll ks = _
      rw [ih2, hf, List.filter_cons]
      have hst : ((s.stale a).staleAll ks).stories = (s.staleAll (a :: ks)).stories := rfl
      rw [ha] at hst ⊢
      split
      · rename_i hs
        rw [if_pos hs] at hst
        rw [hst]
        simp [State.queueStale, State.setQueue, State.setStatus, State.setStory]
      · rename_i hs
        rw [if_neg hs] at hst
        rw [hst]

/-! ## Closing markers -/

/-- Marking a page's stories changes nothing but the story table. -/
theorem markClosing_frame (s : State) (p : PageId) (b : Bool) :
    s.markClosing p b = { s with stories := (s.markClosing p b).stories } := by
  have h : ∀ (l : List StoryId) (t : State),
      l.foldl (fun u k => u.setClosing k b) t = { t with stories := (l.foldl (fun u k => u.setClosing k b) t).stories } := by
    intro l
    induction l with
    | nil => exact fun _ => rfl
    | cons a l ih => exact fun t => by rw [List.foldl_cons, ih]; rfl
  exact h _ _

/-- Marking a page's stories sets the closing marker of each and keeps every other entry. -/
theorem markClosing_story (s : State) (p : PageId) (b : Bool) (k : StoryId) :
    (s.markClosing p b).story k = if k ∈ s.pageStories p then { s.story k with closing := b } else s.story k := by
  have h : ∀ (l : List StoryId) (t : State), (l.foldl (fun u k => u.setClosing k b) t).story k =
      if k ∈ l then { t.story k with closing := b } else t.story k := by
    intro l
    induction l with
    | nil => exact fun _ => by simp
    | cons a l ih =>
      intro t
      rw [List.foldl_cons, ih]
      by_cases hk : k = a
      · subst hk
        by_cases hm : k ∈ l <;> simp [State.setClosing, hm]
      · simp [State.setClosing, story_setStory_ne, hk]
  exact h _ _

/-! ## The failure of a page -/

/-- What the record of a failure leaves: the page at rest, FAILED, out of the queue, its closing markers clear if it was
WAITING or SENDING, the hold-wait timer stopped if it was WAITING, and PAGE-FAILED in a queue with room. -/
theorem failRecord_eq (s : State) (e : Queued) (f : Failing) (hl : s.stations.outgoing.length < 256) :
    s.failRecord e f = { s with
      stories :=
        if isWaiting (s.page e.page).state || isSending (s.page e.page).state then (s.markClosing e.page false).stories
        else s.stories
      pages := (s.setPage e.page { s.page e.page with
        state := .resting (restingOf (s.page e.page).state), lastResult := .failed f.cause }).pages
      dispatch := { s.dispatch with
        queue := s.dispatch.queue.filter fun q => q.page != e.page
        holdWaitTimer := if isWaiting (s.page e.page).state then none else s.dispatch.holdWaitTimer
        wanted := if (s.dispatch.queue.head?.map Queued.page) = some e.page then noneWanted else s.dispatch.wanted }
      stations := { s.stations with
        outgoing := s.stations.outgoing ++ [{ recipient := .system, notice := s.failedNotice e f }] } } := by
  have hn : ∀ t : State, t.pages.edition = s.pages.edition → t.timebase = s.timebase →
      (∀ k, (t.story k).placement = (s.story k).placement ∧ (t.story k).basket = (s.story k).basket ∧
        (t.story k).prio = (s.story k).prio ∧ (t.story k).depth = (s.story k).depth) →
      t.failedNotice e f = s.failedNotice e f := by
    intro t h1 h2 h3
    unfold State.failedNotice State.maybeStoryNotice
    split
    · rename_i k _
      simp [State.storyNotice, State.plainNotice, h1, h2, (h3 k).2.1, (h3 k).2.2.1, (h3 k).2.2.2]
    · simp [State.plainNotice, h1, h2]
  have hm : ∀ k, ((s.markClosing e.page false).story k).placement = (s.story k).placement ∧
      ((s.markClosing e.page false).story k).basket = (s.story k).basket ∧
      ((s.markClosing e.page false).story k).prio = (s.story k).prio ∧
      ((s.markClosing e.page false).story k).depth = (s.story k).depth := by
    intro k
    rw [markClosing_story]
    split <;> simp
  have hr : ∀ t : State, t.stations = s.stations → t.pages.edition = s.pages.edition → t.timebase = s.timebase →
      (∀ k, (t.story k).placement = (s.story k).placement ∧ (t.story k).basket = (s.story k).basket ∧
        (t.story k).prio = (s.story k).prio ∧ (t.story k).depth = (s.story k).depth) →
      t.raise .system (t.failedNotice e f) = { t with stations := { s.stations with
        outgoing := s.stations.outgoing ++ [{ recipient := .system, notice := s.failedNotice e f }] } } := by
    intro t h0 h1 h2 h3
    rw [raise_taken t _ _ rfl (by rw [h0]; exact hl), hn t h1 h2 h3, h0]
  unfold State.failRecord
  by_cases hb : (isWaiting (s.page e.page).state || isSending (s.page e.page).state) = true
  · simp only [if_pos hb]
    rw [markClosing_frame s e.page false]
    by_cases hw : isWaiting (s.page e.page).state = true
    · simp only [if_pos hw]
      rw [hr]
      exacts [rfl, rfl, rfl, rfl, hm]
    · simp only [if_neg hw]
      rw [hr]
      exacts [rfl, rfl, rfl, rfl, hm]
  · have hw : ¬ isWaiting (s.page e.page).state = true := fun h => hb (by rw [h]; rfl)
    simp only [if_neg hb, if_neg hw]
    rw [hr]
    exacts [rfl, rfl, rfl, rfl, fun _ => ⟨rfl, rfl, rfl, rfl⟩]

/-! ## The slots of a page -/

/-- The occupied slots are those that hold a story. -/
theorem mem_occupied (p : Page) (n : SlotId) (sl : Slot) : (n, sl) ∈ occupied p ↔ p.slots[n.val] = some sl := by
  simp [occupied, allSlots, Option.map_eq_some_iff]

/-- The stories of a page are those its slots hold. -/
theorem mem_pageStories (s : State) (p : PageId) (k : StoryId) :
    k ∈ s.pageStories p ↔ ∃ n sl, s.slotOf p n = some sl ∧ sl.story = k := by
  simp only [State.pageStories, List.mem_map]
  constructor
  · rintro ⟨⟨n, sl⟩, h, rfl⟩
    exact ⟨n, sl, (mem_occupied _ _ _).1 h, rfl⟩
  · rintro ⟨n, sl, h, rfl⟩
    exact ⟨(n, sl), (mem_occupied _ _ _).2 h, rfl⟩

/-! ## The frames of the link -/

/-- A try that is no longer the outstanding frame's sends the same bytes. -/
@[simp] theorem transmissionBytes_orphan (t : Transmission) : transmissionBytes (orphan t) = transmissionBytes t := by
  cases t <;> rfl

/-- Settling the outstanding frame takes no frame from the transmitter. -/
@[simp] theorem settle_bytes (l : Link) :
    (settle l).transmitter.map transmissionBytes = l.transmitter.map transmissionBytes := by
  simp [settle]

/-- A frame of a send handed over is outstanding with one try, which joins the transmitter unless the WAIT hold is set. -/
theorem handFrame_eq (l : Link) (f : Frame) :
    handFrame l f = { l with
      outstanding := some { frame := f, tries := 1 }
      transmitter := l.transmitter ++ if l.waitHold then [] else [.attempt f true] } := by
  unfold handFrame
  split <;> simp [transmit, *]

/-- An ABORT handed over is outstanding with one try behind all that the transmitter holds, and the WAIT hold has ended. -/
theorem handAbort_eq (l : Link) (p : PageId) :
    handAbort l p = { l with
      outstanding := some { frame := .abort p, tries := 1 }, waitHold := false, replyTimer := none, waitTimer := none
      transmitter := l.transmitter.map orphan ++ [.attempt (.abort p) true] } := rfl

end Sys2Proof.Machine
end

