-- ==== Sys2Proof/Tests/Slice0.lean ====
section
/-! SUPPORT. The model's own tests: ill-formed commands, the manual's worked values, one step of the commands on small states, and
for every statement with hypotheses a state and operands that meet them. -/

open Sys2Proof Sys2Proof.Machine Sys2Proof.Safety

namespace Sys2Proof.Tests

/-! ## Small states -/

/-- Whether a command answers a next state of which a test holds. -/
def answers (c : Instr) (s : State) (p : State → Bool) : Bool :=
  match exec c s with
  | .next t => p t
  | _ => false

/-- Whether a command answers a given next state. -/
def gives (c : Instr) (s t : State) : Bool := answers c s fun u => decide (u = t)

/-- Whether a command is refused for a reason. -/
def refuses (c : Instr) (s : State) (st : Station) (r : Reason) : Bool := gives c s (s.refuse st r)

/-- Terminals 5 (group 1, makeup right) and 9 are signed on. -/
def desk : State :=
  (State.reset.setTerminal 5 { offTerminal with signedOn := true, group := 1, makeup := true }).setTerminal 9
    { offTerminal with signedOn := true }

/-- A LIVE story, measured: 480 quarter points in 10 lines of font 0. -/
def fresh : Story :=
  { unusedStory with phase := .live, depth := { noDepth with status := .fresh, depth := 480, lines := 10, fonts := 1 } }

/-- Story 7 is LIVE, FRESH and unheld. -/
def free : State := desk.setStory 7 fresh

/-- Terminal 5 holds story 7. -/
def held : State :=
  (desk.setStory 7 { fresh with holder := some (.terminal 5) }).setTerminal 5
    { desk.terminal 5 with holdCount := 1 }

/-- The link UP, with every font installed. -/
def linkUp : Link :=
  { powerOnLink with state := .up, present := true, mask := 0xFF, largest := 64, agreed := 64 }

/-- A slot that holds story 7 with room for 1000 quarter points. -/
def slot7 : Slot := { story := 7, span := 1, allowance := 1000, policy := .hold }

/-- Page 3 with story 7 in slot 2. -/
def page3 (st : PageState) : Page := { setSlot emptyPage 2 (some slot7) with state := st }

/-- A state in which story 7 is placed in slot 2 of page 3. -/
def placedAs (v : Story) (st : PageState) : State :=
  (desk.setStory 7 { v with placement := some (3, 2) }).setPage 3 (page3 st)

/-- Page 3 made and at rest. -/
def made : State := placedAs fresh (.resting .made)

/-- Page 3 sent: its story is FROZEN. -/
def sentPage : State := placedAs { fresh with phase := .frozen } (.resting .sent)

/-- The entry of page 3 in the dispatch queue. -/
def entry : Queued := { page := 3, stamp := 2 }

/-- Page 3 is WAITING for story 7, which terminal 5 holds. -/
def waitingHeld : State :=
  let s := placedAs { fresh with holder := some (.terminal 5), closing := true } (.waiting .made)
  { (s.setTerminal 5 { desk.terminal 5 with holdCount := 1 }) with
    link := linkUp
    dispatch := { s.dispatch with queue := [entry], engine := .waiting, holdWaitTimer := some 120000 } }

/-- A send of page 3 before its first block is read. -/
def send0 : SendState :=
  { slot := 2, stage := .pageBegin, a := 0, b := 0
    reader := { block := 0, breaker := newRun, trim := none, chars := [], framed := 0, finished := false } }

/-- The frame outstanding in the states of a send. -/
def begin3 : Frame := .pageBegin 3 2 120 12 6048 1

/-- Page 3 is SENDING at a stage, with a frame outstanding. -/
def sendingAt (st : Stage) : State :=
  let s := placedAs { fresh with closing := true } (.sending .made)
  { s with
    link := { linkUp with outstanding := some { frame := begin3, tries := 1 }
                          transmitter := [.attempt begin3 true] }
    dispatch := { s.dispatch with queue := [entry], engine := .sending { send0 with stage := st } } }

/-- An ABORT of page 3 is outstanding at a try. -/
def abortAt (n : Nat) : State :=
  { made with
    link := { linkUp with outstanding := some { frame := .abort 3, tries := n }, replyTimer := some 400 }
    dispatch := { made.dispatch with engine := .aborting } }

/-- A pass of story 7 is in flight. -/
def inPass7 : State :=
  let s := desk.setStory 7 { fresh with depth := { fresh.depth with status := .measuring } }
  { s with measure := { s.measure with
      engine := .measuring { story := 7, measure := 17280, block := 0, breaker := newRun } } }

/-- The page-end of a send of page 3. -/
def atPageEnd : State := sendingAt .pageEnd

/-- A tick waits at reset. -/
def ticking : State := State.reset.withCommand .timebaseTick

/-- The state after `ticking`'s step. -/
def ticked : State := { State.reset with timebase := 1 }

/-! ## Ill-formed commands -/

theorem test_wf_textRead : (Instr.textRead 5 7 1 .word false).wellFormed = false := by decide
theorem test_wf_textWrite : (Instr.textWrite 5 7 8 .burst 0 false).wellFormed = false := by decide
theorem test_wf_header_alignment : (Instr.headerPlainWrite 5 7 0x1D .half 0 false).wellFormed = false := by decide
theorem test_wf_header_live_part : (Instr.headerPlainWrite 5 7 0x18 .word 0 false).wellFormed = false := by decide
theorem test_wf_plain : (Instr.plainPassThrough 5 false 2 .word 0 false).wellFormed = false := by decide
theorem test_wf_outside : (Instr.accessOutsideWindow 5 true 1 .half 0 false).wellFormed = false := by decide
theorem test_wf_ring : (Instr.ringSlotWrite 5 (.terminal 5) 8 .burst 0 false).wellFormed = false := by decide
theorem test_wf_live : (Instr.liveWordWrite 127 0x010E0002 .word 0 false).wellFormed = false := by decide
theorem test_wf_widths : (Instr.widthTableWrite 127 0 0x41 .half 0).wellFormed = false := by decide
theorem test_wf_linkStatus : (Instr.linkStatusRead 127 1 .half false).wellFormed = false := by decide
theorem test_misaligned_is_refused : exec (.textRead 5 7 1 .word false) desk = .refused .misaligned := by rfl

/-! ## The manual's worked values -/

/-- R82: the check of the bytes 0x41, 0x42 by hand: a is 0x41 then 0x83, b is 0x41 then 0xC4. -/
theorem test_check : checkOf [0x41, 0x42] = [0xC4, 0x83] := by decide

/-- A typesetter's ABILITY with mask 0x3F and largest payload 0x80 (R153), its check by hand. -/
theorem test_valid_ability : validFrame [0x61, 0x02, 0x3F, 0x80, 0x8A, 0x23] = some (.ability 0x3F 0x80) := by decide

/-- A NAK whose reason is none of the three is not valid (R153): kind 0x63, length 1, reason 4, check by hand. -/
theorem test_nak_reason : validFrame [0x63, 0x01, 0x04, 0x30, 0x68] = none := by decide

/-- R69: the largest width of one character is 63 × 288 = 18,144 fine units. -/
theorem test_widest : charWidth { size := 288, leading := 320, widths := [(0x57, 63)] } 0x57 = 18144 := by decide

/-- R68: span 2 with the power-on geometry is 2 × 120 + 12 points. -/
theorem test_slot_measure : slotMeasure emptyPage { slot7 with span := 2 } = 252 := by decide

/-- Event 1 of chapter 11: 0x0000_020C written to ROUTE names basket 12, ROUTINE. -/
theorem test_route_value : routeAsked 0x0000020C = .basket 12 .routine := by decide

/-- Chapter 11: 0x0000_0101 written to HOLD names no station and is refused. -/
theorem test_hold_bad_value :
    gives (.liveWordWrite 127 0x010001C0 .word 0x101 false) free (free.refuse .system .badValue) = true := by decide

/-- Section 11.9: PAGE-BEGIN of page 3, edition 2, width 120, gutter 12, depth 6048 and one slot. -/
theorem test_begin_bytes :
    (transmissionBytes (.attempt begin3 true)).take 11 = [0xA5, 0x42, 8, 3, 2, 0, 120, 12, 0x17, 0xA0, 1] := by decide

/-! ## One step of each command -/

theorem test_text_read : answers (.textRead 9 7 0 .byte false) free
    (fun t => decide ((t.story 7).viewers = [{ terminal := 9, stale := false }] ∧ t.bus.data = some 0)) = true := by decide
theorem test_text_write : answers (.textWrite 5 7 4 .byte 0x41 false) held
    (fun t => decide (t.mem = [(0xE004, 0x41)] ∧ t.measure.queue = [7] ∧ t.bus = doneBus)) = true := by decide
theorem test_text_write_not_holder :
    gives (.textWrite 9 7 4 .byte 0x41 false) held (held.refuse (.terminal 9) .heldByOther) = true := by decide
theorem test_header_write : answers (.headerPlainWrite 5 7 0x20 .half 0x4241 false) held
    (fun t => decide (t.mem = [(0x10001E0, 0x41), (0x10001E1, 0x42)])) = true := by decide
theorem test_plain_write : answers (.plainPassThrough 9 true 0x010C6000 .byte 0x41 false) desk
    (fun t => decide (t.mem = [(0x10C6000, 0x41)])) = true := by decide
theorem test_outside : answers (.accessOutsideWindow 125 true 0x02000000 .byte 0x41 false) desk
    (fun t => decide (t.mem = [(0x2000000, 0x41)] ∧ t.bus = doneBus)) = true := by decide
theorem test_ring_slot_write : answers (.ringSlotWrite 9 (.terminal 9) 16 .byte 0x41 false) desk
    (fun t => decide (t.mem = [(0x1022410, 0x41)])) = true := by decide
theorem test_live_word_write : answers (.liveWordWrite 127 0x010E0000 .word 99 false) desk
    (fun t => decide (t.pages.edition = 15)) = true := by decide
theorem test_claim : answers (.claim 5 7 .word) free
    (fun t => decide ((t.story 7).holder = some (.terminal 5) ∧ (t.terminal 5).holdCount = 1)) = true := by decide
theorem test_release : answers (.release 5 7 .word) held
    (fun t => decide ((t.story 7).holder = none ∧ (t.terminal 5).holdCount = 0)) = true := by decide
theorem test_break : answers (.breakHold 127 7 .word) held
    (fun t => decide (t.stations.outgoing.map (fun o => (o.recipient, o.notice.kind)) =
      [(.terminal 5, .holdBroken)])) = true := by decide
theorem test_route : answers (.routeToBasket 9 12 .word 4 .urgent) desk
    (fun t => decide ((t.basket 4).list = [{ story := 12, prio := .urgent }] ∧ t.measure.queue = [12])) = true := by decide
theorem test_route_to_none : answers (.routeToNone 5 7 .word) held
    (fun t => decide ((t.story 7).holder = none ∧ (t.story 7).phase = .live)) = true := by decide
theorem test_purge : answers (.purge 5 7 .word) held (fun t => decide (t.story 7 = unusedStory)) = true := by decide
theorem test_reopen : answers (.reopen 127 7 .word) sentPage
    (fun t => decide ((t.story 7).phase = .live ∧ (t.page 3).state = .resting .changed)) = true := by decide
theorem test_limit : answers (.limitWrite 127 4 .word 0) desk (fun t => decide ((t.basket 4).limit = 1)) = true := by decide
theorem test_watchers : answers (.watchersWrite 127 4 3 .word 0xFF000001) desk
    (fun t => decide ((t.basket 4).watchers = 1#120 <<< 96)) = true := by decide
theorem test_size : answers (.sizeWrite 127 1 .word 60) desk
    (fun t => decide (((t.font 1).size, (t.font 1).leading) = (60, 60))) = true := by decide
theorem test_leading : answers (.leadingWrite 127 1 .word 20) desk
    (fun t => decide ((t.font 1).leading = 40)) = true := by decide
theorem test_widths : answers (.widthTableWrite 127 1 0x40 .half 0xFF40) desk
    (fun t => decide (fontWidth (t.font 1) 0x40 = 0 ∧ fontWidth (t.font 1) 0x41 = 63)) = true := by decide
theorem test_font_retry : answers (.sizeWrite 127 1 .word 60) inPass7
    (fun t => decide (t.bus = retryBus ∧ t.measure.fontWait = true ∧ (t.font 1).size = 40)) = true := by decide
theorem test_standard_measure : answers (.standardMeasureWrite 127 .word 59) free
    (fun t => decide (t.measure.standard = 60 ∧ t.measure.queue = [7])) = true := by decide
theorem test_read_index : answers (.noticeReadIndexWrite 127 (.terminal 9) .word 1) desk
    (fun t => decide ((t.ring (.terminal 9)).read = 0)) = true := by decide
theorem test_sign_on : answers (.signOn 20 (.terminal 20) .word) desk
    (fun t => decide ((t.terminal 20).signedOn = true)) = true := by decide
theorem test_sign_off : answers (.signOff 5 (.terminal 5) .word) held
    (fun t => decide ((t.story 7).holder = none ∧ (t.terminal 5).signedOn = false)) = true := by decide
theorem test_rights : answers (.rightsWrite 127 (.terminal 9) .word 0x103) desk
    (fun t => decide ((t.terminal 9).group = 3 ∧ (t.terminal 9).makeup = true)) = true := by decide
theorem test_width : answers (.columnWidthWrite 5 3 .word 240) made
    (fun t => decide ((t.page 3).width = 240 ∧ t.measure.queue = [7])) = true := by decide
theorem test_depth : answers (.columnDepthWrite 5 3 .word 400) made
    (fun t => decide (((t.slotOf 3 2).map Slot.allowance) = some 400 ∧ (t.story 7).depth.overset = true)) = true := by decide +kernel
theorem test_place : answers (.place 5 3 0 .word 7) free
    (fun t => decide ((t.story 7).placement = some (3, 0) ∧ (t.page 3).state = .resting .made)) = true := by decide
theorem test_remove : answers (.remove 5 3 2 .word) sentPage
    (fun t => decide ((t.story 7).phase = .live ∧ (t.story 7).revision = 1 ∧ (t.page 3).state = .resting .empty)) = true := by
  decide
theorem test_dispatch_empty :
    gives (.dispatch 127 3 .word) desk (desk.refuse .system .badState) = true := by decide
theorem test_dispatch : answers (.dispatch 127 3 .word) made
    (fun t => decide ((t.page 3).state = .queued .made ∧ t.dispatch.queue = [{ page := 3, stamp := 1 }])) = true := by decide
theorem test_pass_taken : answers .measurePassTaken { free with measure := { free.measure with queue := [7] } }
    (fun t => decide (t.inPass 7 = true ∧ (t.story 7).depth.status = .measuring)) = true := by decide
theorem test_measure_fault : answers .measureFault inPass7
    (fun t => decide ((t.story 7).depth.status = .faulted ∧ t.measure.engine = .idle)) = true := by decide
theorem test_hold_wait_expiry : answers .holdWaitExpiry waitingHeld
    (fun t => decide ((t.page 3).lastResult = .failed .held ∧ t.dispatch.engine = .idle)) = true := by decide
theorem test_last_release_sends : answers (.release 5 7 .word) waitingHeld
    (fun t => decide ((t.page 3).state = .sending .made ∧ t.link.outstanding.isSome = true)) = true := by decide
theorem test_ack_completes : answers .ack atPageEnd
    (fun t => decide ((t.page 3).state = .resting .sent ∧ (t.story 7).phase = .frozen ∧ (t.page 3).editionSent = 2)) = true := by
  decide
theorem test_wait_holds_next : answers .wait (sendingAt .pageBegin)
    (fun t => decide (t.link.waitHold = true ∧ t.link.transmitter = [.attempt begin3 false])) = true := by decide
theorem test_handed_try_goes_out : answers .ack
    { sendingAt .pageBegin with link := { (sendingAt .pageBegin).link with transmitter := [.ability, .attempt begin3 true] } }
    (fun t => decide (t.link.transmitter.take 2 = [.ability, .attempt begin3 false] ∧ t.link.transmitter.length = 3)) = true := by
  decide
theorem test_nak_refused : answers (.nak .refused) (sendingAt .pageBegin)
    (fun t => decide ((t.page 3).lastResult = .failed .typesetter ∧ t.dispatch.engine = .aborting)) = true := by decide
theorem test_third_failure : answers .replyTimerExpiry (abortAt 3)
    (fun t => decide (t.link.state = .training ∧ t.link.lost = true ∧ t.dispatch.engine = .idle)) = true := by decide
theorem test_present : answers .typesetterPresentHigh desk
    (fun t => decide (t.link.state = .training ∧ t.link.transmitter = [.ability])) = true := by decide
theorem test_incoming_byte : answers (.incomingByte 0xA5) { desk with link := linkUp }
    (fun t => decide (t.link.receiver = .within [] ∧ t.link.gapTimer = some 20)) = true := by decide
theorem test_bus_reset : answers .busReset held
    (fun t => decide ((t.story 7).holder = none ∧ (t.terminal 5).signedOn = false ∧ (t.terminal 5).group = 1)) = true := by
  decide +kernel
theorem test_power_on : answers (.powerOn 3 true) held
    (fun t => decide (t.base = 0x6000000 ∧ t.link.state = .training ∧ t.stories = [])) = true := by decide
theorem test_tick_wraps : answers .timebaseTick { desk with timebase := 0xFFFFFFFF }
    (fun t => decide (t.timebase = 0)) = true := by decide

/-! ## Witnesses: a state and operands that meet the hypotheses of each statement -/

theorem witness_step : step ticking = .next ticked ∧ State.reset.pending = [] := ⟨rfl, rfl⟩

theorem ticking_slots (p : PageId) (n : SlotId) : ticking.slotOf p n = none := by
  simp [ticking, State.withCommand, State.slotOf, State.page, State.reset, emptyPage]

theorem witness_canonical : Canonical ticking ∧ InSpace ticking :=
  ⟨⟨rfl, rfl, rfl, rfl, fun _ => rfl, rfl, rfl⟩, ⟨fun _ h => (nomatch h), fun _ h => (nomatch h)⟩⟩

theorem witness_ring : RingLaw ticking ∧ OutgoingLaw ticking ∧ LineLaw ticking := by
  refine ⟨⟨fun st => ?_, fun _ _ => rfl, fun _ h => (nomatch h)⟩, ⟨by decide, fun _ h => (nomatch h)⟩,
    ⟨fun g => ⟨fun h => ?_, fun ⟨_, _, h, _⟩ => (nomatch h)⟩, by decide⟩⟩
  · cases st <;> exact (by decide : Machine.unread emptyRing ≤ 32)
  · simp [ticking, State.withCommand, State.reset] at h

theorem ticking_plan : PlanLaw ticking :=
  ⟨fun p n _ h => (nomatch (ticking_slots p n).symm.trans h), fun _ _ _ h => (nomatch h), fun _ _ => rfl⟩

theorem witness_plan : PlanLaw ticking := ticking_plan

theorem witness_basket : BasketLaw ticking :=
  ⟨fun _ => List.nodup_nil, fun _ => List.Pairwise.nil, fun _ => Nat.zero_le _,
   fun _ => ⟨(by decide : 1 ≤ emptyBasket.limit), (by decide : emptyBasket.limit ≤ 2048)⟩,
   fun _ _ h => (nomatch h), fun _ _ h => (nomatch h), fun _ _ => rfl⟩

theorem witness_viewer_hold : ViewerLaw ticking ∧ HoldLaw ticking := by
  refine ⟨⟨fun _ => Nat.zero_le _, fun _ => List.nodup_nil, fun _ _ h => (nomatch h), fun _ _ h => (nomatch h),
      fun _ _ => rfl⟩,
    ⟨fun u => (List.countP_eq_zero.2 fun k _ => ?_).symm, fun _ => Nat.zero_le _, fun _ _ => rfl, fun _ _ => rfl⟩⟩
  simp [ticking, State.withCommand, State.story, State.reset, unusedStory]

theorem ticking_queue : QueueLaw ticking :=
  ⟨List.nodup_nil, fun _ => ⟨fun h => (nomatch h), fun h => (nomatch h)⟩,
   fun _ => ⟨fun h => (nomatch h), fun h => (nomatch h)⟩, fun _ => ⟨fun _ => rfl, fun _ => rfl⟩⟩

theorem witness_queue : PlanLaw ticking ∧ QueueLaw ticking ∧ FontWaitLaw ticking :=
  ⟨ticking_plan, ticking_queue, ⟨by decide, fun h => (nomatch h), fun _ => rfl⟩⟩

theorem ticking_dispatch : DispatchLaw ticking :=
  ⟨List.nodup_nil, fun _ => ⟨fun h => (nomatch h), fun h => (nomatch h)⟩, fun _ h => (nomatch h), by decide,
   ⟨fun ⟨_, h⟩ => (nomatch h), fun h => (nomatch h)⟩, fun h => absurd rfl h, by decide,
   fun _ => ⟨fun h => (nomatch h), fun ⟨_, _, h, _⟩ => (nomatch h)⟩, fun _ _ => rfl⟩

theorem witness_dispatch : PlanLaw ticking ∧ DispatchLaw ticking := ⟨ticking_plan, ticking_dispatch⟩

theorem witness_frozen : (PlanLaw ticking ∧ DispatchLaw ticking) ∧ FrozenLaw ticking :=
  ⟨witness_dispatch, ⟨fun _ h => (nomatch h), fun _ _ _ h => (nomatch h), fun p => ⟨fun _ n => ticking_slots p n, fun _ => rfl⟩,
    fun _ h => (nomatch h)⟩⟩

theorem witness_send : (PlanLaw ticking ∧ DispatchLaw ticking ∧ QueueLaw ticking) ∧ SendLaw ticking :=
  ⟨⟨ticking_plan, ticking_dispatch, ticking_queue⟩, ⟨fun _ _ _ h => (nomatch h), fun _ h => (nomatch h)⟩⟩

theorem witness_link : (PlanLaw ticking ∧ DispatchLaw ticking) ∧ LinkLaw ticking :=
  ⟨witness_dispatch, ⟨by decide, by decide, by decide, fun _ => ⟨rfl, rfl⟩, fun _ => ⟨rfl, rfl⟩, fun _ h => (nomatch h),
    fun h => (nomatch h), fun _ h => (nomatch h), by decide, fun _ => rfl, fun _ _ h => (nomatch h), fun h => (nomatch h)⟩⟩

theorem witness_range : RangeLaw ticking where
  depth _ := ⟨(by decide : noDepth.depth ≤ 65535), (by decide : noDepth.lines ≤ 4095)⟩
  font _ := (by decide : 16 ≤ powerOnFont.size ∧ powerOnFont.size ≤ 288 ∧ powerOnFont.size ≤ powerOnFont.leading ∧
    powerOnFont.leading ≤ 576)
  geometry _ := (by decide : 60 ≤ emptyPage.width ∧ emptyPage.width ≤ 480 ∧ emptyPage.gutter ≤ 36 ∧
    400 ≤ emptyPage.depth ∧ emptyPage.depth ≤ 8000)
  slot p n _ h := nomatch (ticking_slots p n).symm.trans h
  edition := by decide
  sent _ := (by decide : emptyPage.editionSent ≤ 15)
  stamp _ h := nomatch h
  sums _ h := nomatch h
  standard := by decide
  holdWait := by decide
  largest := .inl rfl
  agreed := rfl
  recorded h := nomatch h
  holdWaitTimer _ h := nomatch h
  fontWaitTimer _ h := nomatch h
  trainingTimer _ h := nomatch h
  replyTimer _ h := nomatch h
  waitTimer _ h := nomatch h
  gapTimer _ h := nomatch h

theorem witness_only_misaligned :
    (Instr.textRead 5 7 4 .word false).wellFormed = true ∧ aligned 1 .half = false ∧
      aligned (0x02000001#32).toNat .half = false := by decide

theorem witness_unknown_station :
    windowCode desk (.claim 120 7 .word) = some 120 ∧ windowCode desk (.claim 126 7 .word) = some 126 ∧
      windowCode desk (.plainPassThrough 120 false 0x01000000 .word 0 false) = some 120 ∧
      windowCode desk (.liveWordWrite 126 0x010E0000 .word 0 false) = some 126 ∧
      120 ≤ (120#7).toNat ∧ (126#7).toNat ≤ 126 ∧ (Instr.claim 126 7 .word).wellFormed = true ∧
      (Instr.liveWordWrite 126 0x010E0000 .word 0 false).wellFormed = true := by decide

theorem witness_refusal :
    windowCode held (.claim 9 7 .word) = some 9 ∧ stationOf 9#7 = some (.terminal 9) ∧ faulted (.claim 9 7 .word) = false ∧
      answers (.claim 9 7 .word) held (fun t => decide (t.bus.answer = .refuse)) = true ∧
      windowCode held (.liveWordWrite 9 0x010E0000 .word 3 false) = some 9 ∧
      answers (.liveWordWrite 9 0x010E0000 .word 3 false) held (fun t => decide (t.bus.answer = .refuse)) = true := by decide

theorem witness_refusal_pinned :
    answers (.sizeWrite 127 0 .word 40)
      { sendingAt .text with measure := { (sendingAt .text).measure with engine := .held } }
      (fun t => decide (t.bus.answer = .refuse ∧ t.measure.engine = .idle)) = true := by decide +kernel

theorem witness_word_write :
    accessCode (.editionWrite 127 .word 3) = some 127 ∧
      wordWritten (.editionWrite 127 .word 3) = some (0x10E0000, 3) := by decide

theorem witness_fixed :
    exec .timebaseTick desk = .next { desk with timebase := 1 } ∧ (sendingAt .text).sendingHead.isSome = true ∧
      ∃ p, inPass7.measure.engine = .measuring p := ⟨rfl, rfl, _, rfl⟩

theorem witness_text_changes :
    answers (.textWrite 5 7 8191 .byte 0x41 false) held (fun t =>
      decide (t.memByte (held.textAddr 7 8191) ≠ held.memByte (held.textAddr 7 8191))) = true ∧
    answers (.headerPlainWrite 5 7 0x1C .byte 0x41 false) held (fun t =>
      decide (t.memByte (held.headerAddr 7 0x1C) ≠ held.memByte (held.headerAddr 7 0x1C))) = true := by decide

theorem witness_not_admitted :
    aligned (8191 : Fin 8192).val .byte = true ∧ aligned (0x1C : Fin 64).val .byte = true ∧ 0x1C ≤ (0x1C : Fin 64).val ∧
    (∀ st, stationOf 5#7 = some st → ¬((free.story 7).phase = .live ∧ (free.story 7).closing = false ∧
      ((free.story 7).holder = some st ∨ (st = .system ∧ (free.story 7).holder = none)))) ∧
    ∀ st, stationOf 126#7 = some st → ¬((held.story 7).phase = .live ∧ (held.story 7).closing = false ∧
      ((held.story 7).holder = some st ∨ (st = .system ∧ (held.story 7).holder = none))) := by
  refine ⟨by decide, by decide, by decide, fun st h => ?_, fun st h => (nomatch h)⟩
  cases (by decide : stationOf 5#7 = some (.terminal 5)).symm.trans h
  decide

theorem witness_phases :
    answers (.claim 5 9 .word) free (fun t => decide ((free.story 9).phase = .unused ∧ (t.story 9).phase = .live)) = true ∧
    answers (.liveWordWrite 127 (windowAddr free 0x10001C4) .word 0x2FF false) free
      (fun t => decide ((t.story 7).phase = .live)) = true ∧
    answers (.purge 5 7 .word) held (fun t => decide (t.story 7 = unusedStory)) = true ∧
    answers .wait atPageEnd (fun t => decide ((t.story 7).phase = .frozen)) = true ∧
    answers (.reopen 127 7 .word) sentPage (fun t => decide ((t.story 7).phase = .live ∧ (t.story 7).revision = 1)) = true ∧
    answers (.remove 5 3 2 .word) sentPage (fun t => decide ((t.story 7).phase = .live ∧ (t.story 7).revision = 1)) = true := by
  decide

/-- The link TRAINING, and UP with nothing outstanding. -/
def training : State :=
  { State.reset with link := { powerOnLink with present := true, state := .training, trainingTimer := some 1000 } }

theorem witness_link_notice_up :
    LinkLaw training ∧ training.link.state = .training ∧ training.stations.outgoing.length < 256 ∧
      answers (.typesetterAbility 0xFF 0xF0) training (fun t => decide (t.link.state = .up)) = true := by
  refine ⟨⟨by decide, by decide, by decide, fun _ => ⟨rfl, rfl⟩, fun h => (nomatch h), fun _ h => (nomatch h),
    fun h => (nomatch h), fun _ h => (nomatch h), by decide, fun _ => rfl, fun _ _ h => (nomatch h), fun h => (nomatch h)⟩,
    rfl, by decide, by decide⟩

theorem witness_link_notice_down :
    LinkLaw { State.reset with link := linkUp } ∧
      answers .typesetterPresentLow { State.reset with link := linkUp } (fun t => decide (t.link.state = .down)) = true := by
  refine ⟨⟨by decide, by decide, by decide, fun h => absurd rfl h, fun h => (nomatch h), fun _ h => (nomatch h),
    fun h => (nomatch h), fun _ h => (nomatch h), by decide, fun _ => rfl, fun _ _ h => (nomatch h), fun h => (nomatch h)⟩,
    by decide⟩

theorem witness_pass_read : ∃ t, exec .measureTextRead inPass7 = .next t := ⟨_, rfl⟩

theorem witness_text_read_no_view :
    stationOf 127#7 = some .system ∧ aligned (8188 : Fin 8192).val .word = true ∧
      (free.story 9).phase = .unused := by decide

/-- Story 7 with four viewers, the last of them terminal 9. -/
def crowded : State :=
  desk.setStory 7 { fresh with
    viewers := [⟨1, false⟩, ⟨2, true⟩, ⟨3, false⟩, ⟨9, true⟩] }

theorem witness_text_read_view :
    stationOf 5#7 = some (.terminal 5) ∧ (crowded.story 7).phase ≠ .unused ∧ (crowded.terminal 5).signedOn = true ∧
      (crowded.story 7).holder ≠ some (.terminal 5) ∧ (othersThan crowded 7 5).drop 3 = [⟨9, true⟩] ∧
      (crowded.terminal 9).signedOn = true ∧ crowded.stations.outgoing.length < 256 ∧
      (othersThan free 7 5).length ≤ 3 := by decide

theorem witness_text_write :
    stationOf 5#7 = some (.terminal 5) ∧ aligned (8176 : Fin 8192).val .burst = true ∧ admits held (.terminal 5) 7 ∧
      (held.story 7).depth.status = .fresh ∧ validViewers held 7 = [] ∧ admits inPass7 .system 7 ∧
      (inPass7.story 7).depth.status = .measuring ∧ inPass7.inPass 7 = true ∧
      admits { held with measure := { held.measure with queue := [7] } } (.terminal 5) 7 := by decide

theorem witness_text_write_viewers :
    validViewers (crowded.setStory 7 { crowded.story 7 with viewers := [⟨9, false⟩] }) 7 = [⟨9, false⟩] ∧
      (crowded.terminal 9).signedOn = true ∧ admits crowded .system 7 := by decide

theorem witness_plain_words :
    stationOf 5#7 = some (.terminal 5) ∧ admits held (.terminal 5) 7 ∧ aligned (0x30 : Fin 64).val .burst = true ∧
      aligned (496 : Fin 512).val .burst = true ∧ desk.signedOn (.terminal 5) = true ∧
      desk.inWindow (0x010C6000#32).toNat = true ∧ placeOf ((0x010C6000#32).toNat - desk.base) = .plain ∧
      touchesLive ((0x010C6000#32).toNat - desk.base) .burst = false ∧ aligned (0x010C6000#32).toNat .burst = true ∧
      desk.inWindow (0x02000000#32).toNat = false ∧ desk.stations.ringWrite = none := by decide

theorem witness_claim :
    stationOf 5#7 = some (.terminal 5) ∧ free.signedOn (.terminal 5) = true ∧ (free.terminal 5).holdCount < 16 ∧
      (free.story 7).phase = .live ∧ (free.story 7).closing = false ∧ (free.story 7).holder = none ∧
      (free.story 7).basket = none ∧ (free.story 9).phase = .unused ∧ (held.story 7).holder = some (.terminal 5) := by
  decide

theorem witness_refused_in_order :
    gives (.textWrite 20 7 0 .byte 0 false) free (free.refuse (.terminal 20) .notSignedOn) = true ∧
      gives (.textWrite 5 9 0 .byte 0 false) free (free.refuse (.terminal 5) .badState) = true ∧
      gives (.textWrite 5 7 0 .byte 0 false) sentPage (sentPage.refuse (.terminal 5) .frozen) = true ∧
      gives (.headerPlainWrite 5 7 0x1C .word 0 false) free (free.refuse (.terminal 5) .notHolder) = true ∧
      refuses (.ringSlotWrite 9 (.terminal 5) 16 .word 0 false) desk (.terminal 9) .noRight = true := by decide +kernel

theorem witness_hold_refusals :
    refuses (.claim 5 7 .half) free (.terminal 5) .badSize = true ∧
      refuses (.claim 9 7 .word) held (.terminal 9) .heldByOther = true ∧
      refuses (.claim 5 9 .word) (desk.setTerminal 5 { desk.terminal 5 with holdCount := 16 }) (.terminal 5) .holdLimit = true ∧
      refuses (.release 9 7 .word) held (.terminal 9) .notHolder = true ∧
      refuses (.breakHold 20 7 .word) held (.terminal 20) .notSignedOn = true ∧
      refuses (.breakHold 5 7 .word) held (.terminal 5) .noRight = true ∧
      refuses (.liveWordWrite 9 0x010001C0 .word 5 false) held (.terminal 9) .badValue = true := by decide +kernel

/-- Page 3 WAITING for an unheld story 7. -/
def waitingFree : State := waitingHeld.setStory 7 { waitingHeld.story 7 with holder := none }

theorem witness_reopen_refusals :
    refuses (.reopen 5 7 .word) sentPage (.terminal 5) .noRight = true ∧
      refuses (.reopen 20 7 .word) sentPage (.terminal 20) .noRight = true ∧
      refuses (.reopen 127 7 .byte) sentPage .system .badSize = true ∧
      refuses (.reopen 127 9 .word) free .system .badState = true ∧
      refuses (.reopen 127 7 .word) waitingFree .system .closing = true ∧
      refuses (.liveWordWrite 127 0x010001C8 .word 2 false) sentPage .system .badValue = true := by decide +kernel

/-- Story 7 is filed unheld in basket 2, which terminal 9 alone watches and which is full. -/
def filed : State :=
  (desk.setStory 7 { fresh with basket := some 2 }).setBasket 2 { limit := 1, watchers := 0x200, list := [⟨7, .flash⟩] }

theorem witness_route_refusals :
    refuses (.routeToBasket 9 7 .word 4 .flash) held (.terminal 9) .heldByOther = true ∧
      refuses (.routeToBasket 5 7 .word 4 .flash) filed (.terminal 5) .noRight = true ∧
      refuses (.routeToBasket 5 9 .word 2 .flash) filed (.terminal 5) .basketFull = true ∧
      refuses (.routeToNone 20 7 .word) filed (.terminal 20) .notSignedOn = true ∧
      refuses (.routeToNone 5 7 .word) filed (.terminal 5) .noRight = true ∧
      refuses (.routeToNone 9 9 .word) filed (.terminal 9) .badState = true ∧
      refuses (.liveWordWrite 9 0x010001C4 .word 0x20 false) filed (.terminal 9) .badValue = true := by decide +kernel

theorem witness_purge_refusals :
    refuses (.purge 5 7 .half) held (.terminal 5) .badSize = true ∧
      refuses (.purge 20 7 .word) held (.terminal 20) .notSignedOn = true ∧
      refuses (.purge 5 9 .word) held (.terminal 5) .badState = true ∧
      refuses (.purge 127 7 .word) sentPage .system .frozen = true ∧
      refuses (.purge 5 7 .word) waitingHeld (.terminal 5) .closing = true ∧
      refuses (.purge 9 7 .word) held (.terminal 9) .heldByOther = true ∧
      refuses (.purge 9 7 .word) free (.terminal 9) .notHolder = true ∧
      refuses (.purge 127 7 .word) made .system .badState = true := by decide +kernel

theorem witness_release :
    stationOf 5#7 = some (.terminal 5) ∧ held.signedOn (.terminal 5) = true ∧
      (held.story 7).holder = some (.terminal 5) ∧ held.stations.outgoing.length < 256 ∧
      (free.story 7).holder = none ∧ (free.story 7).holder ≠ some (.terminal 5) ∧
      (held.story 7).closing = false ∧ (waitingHeld.story 7).closing = true ∧ waitingHeld.waitingHead = some entry ∧
      (waitingHeld.page 3).state = .waiting .made ∧ (waitingHeld.story 7).holder = some (.terminal 5) ∧
      waitingHeld.signedOn (.terminal 5) = true := by decide

/-- Page 3 WAITING for story 7 with a depth record, unheld: what is left when the last hold has ended. -/
def waitingWith (d : DepthRecord) (mask : BitVec 8) : State :=
  let s := waitingHeld.setStory 7 { waitingHeld.story 7 with holder := none, depth := d }
  { s with link := { s.link with mask := mask } }

theorem witness_evaluated :
    (waitingWith fresh.depth 0xFF).dispatch.queue = [entry] ∧ (waitingWith fresh.depth 0xFF).dispatch.engine = .waiting ∧
      (waitingWith fresh.depth 0xFF).stations.outgoing.length < 256 ∧
      (∀ d mask, (waitingWith d mask).slotOf 3 2 = some slot7) ∧
      (∀ n : SlotId, n ≠ 2 → (waitingWith fresh.depth 0xFF).slotOf 3 n = none) ∧
      slotFails (waitingWith { fresh.depth with status := .faulted } 0xFF) slot7 .fault ∧
      slotFails (waitingWith fresh.depth 0xFE) slot7 .font ∧
      slotFails (waitingWith { fresh.depth with overset := true } 0xFF) slot7 .overset ∧
      slotStalls (waitingWith { fresh.depth with status := .stale } 0xFF) slot7 ∧ slotStalls waitingHeld slot7 ∧
      (∀ c, ¬ slotFails (waitingWith fresh.depth 0xFF) slot7 c) ∧ ¬ slotStalls (waitingWith fresh.depth 0xFF) slot7 ∧
      (waitingWith fresh.depth 0xFF).pageStories 3 ≠ [] := by
  refine ⟨by decide, by decide, by decide, fun _ _ => rfl, by decide, ?_, ?_, ?_, ?_, ?_, ?_, ?_, by decide⟩
  · exact .inl (by decide)
  · exact .inr (.inl (by decide))
  · exact .inr (.inr (by decide))
  · exact .inr (.inl (by decide))
  · exact .inl (by decide)
  · rintro c (h | h | h)
    · exact absurd h.1 (by decide)
    · exact absurd h.2.1 (by decide)
    · exact absurd h.2.2.2.1 (by decide)
  · rintro (h | h | h) <;> exact absurd h (by decide)

theorem witness_last_release :
    waitingHeld.waitingHead = some entry ∧ (waitingHeld.page 3).state = .waiting .made ∧
      (waitingHeld.story 7).closing = true ∧ (waitingHeld.story 7).holder = some (.terminal 5) ∧
      waitingHeld.pageStories 3 = [7] ∧ (waitingHeld.story 7).depth.status = .fresh ∧
      (waitingHeld.story 7).depth.fonts &&& ~~~ waitingHeld.link.mask = 0 ∧
      (waitingHeld.story 7).depth.overset = false ∧
      (∀ n, n ≠ 2 → waitingHeld.slotOf 3 n = none) ∧ waitingHeld.slotOf 3 2 = some slot7 := by decide

theorem witness_reopen :
    (sentPage.story 7).closing = false ∧ (sentPage.story 7).phase = .frozen ∧
      (sentPage.story 7).placement = some (3, 2) ∧ (sentPage.page 3).state = .resting .sent ∧
      ((placedAs { fresh with phase := .frozen } (.queued .sent)).page 3).state = .queued .sent ∧
      (free.story 7).phase = .live ∧ (free.story 9).phase = .unused := by decide

theorem witness_route :
    stationOf 127#7 = some .system ∧ (free.story 7).phase ≠ .unused ∧ mayRoute free .system 7 ∧
      (free.basket 4).list.length < (free.basket 4).limit ∧ (free.basket 4).watchers = 0 ∧
      (free.story 7).basket ≠ some 4 ∧ (free.story 9).phase = .unused ∧ free.stations.outgoing.length + 120 ≤ 256 := by
  refine ⟨by decide, by decide, .inr (.inr ⟨by decide, fun _ _ h => nomatch h⟩), by decide, by decide, by decide, by decide,
    by decide⟩

/-- Terminal 5, which watches basket 4 beside terminal 9, holds story 7 of basket 2. -/
def watched : State :=
  let s := held.setStory 7 { held.story 7 with basket := some 2, prio := .routine }
  (s.setBasket 2 { emptyBasket with list := [⟨7, .routine⟩] }).setBasket 4 { emptyBasket with watchers := 0x220 }

theorem witness_route_by_holder :
    mayRoute watched (.terminal 5) 7 ∧ (watched.story 7).holder = some (.terminal 5) ∧ (watched.story 7).basket = some 2 ∧
      (watched.basket 4).list.length < (watched.basket 4).limit ∧
      (arrivals watched 4 (.terminal 5) (arrivalNotice watched 7 4 .flash (.terminal 5))).map Outgoing.recipient =
        [.terminal 9] ∧
      (arrivalNotice watched 7 4 .flash (.terminal 5)).detail = 2 ∧
      (arrivalNotice watched 7 4 .flash (.terminal 5)).urgent = true ∧
      (watched.story 7).closing = false ∧ (waitingHeld.story 7).closing = true ∧
      mayRoute waitingHeld (.terminal 5) 7 ∧ mayRoute held .system 7 ∧ (held.story 7).holder ≠ some .system :=
  ⟨.inl (by decide), by decide, by decide, by decide, by decide +kernel, by decide, by decide, by decide, by decide,
    .inl (by decide), .inr (.inl (by decide)), by decide⟩

theorem witness_route_full :
    (((free.setBasket 4 { limit := 1, watchers := 0, list := [⟨9, .flash⟩] }).basket 4).limit ≤
      ((free.setBasket 4 { limit := 1, watchers := 0, list := [⟨9, .flash⟩] }).basket 4).list.length) := by decide

theorem witness_route_within :
    ((desk.setStory 7 { fresh with basket := some 4, prio := .urgent }).story 7).basket = some 4 ∧
      ((desk.setStory 7 { fresh with basket := some 4, prio := .urgent }).story 7).prio ≠ .flash := by decide

theorem witness_unfile :
    (held.story 7).phase = .live ∧ (held.story 7).closing = false ∧ (held.story 7).placement = none ∧
      (held.story 7).holder = some (.terminal 5) ∧ (held.story 7).viewers = [] ∧
      (free.story 7).holder = none ∧ (free.story 7).basket = none ∧ (free.story 7).phase = .live ∧
      (free.story 7).closing = false ∧ (free.story 7).placement = none ∧ (free.story 7).viewers = [] ∧
      (inPass7.story 7).phase = .live ∧ (inPass7.story 7).placement = none ∧ inPass7.inPass 7 = true := by decide

/-- R13 step 3: the system station's purge of another station's story moves that station's count. -/
theorem test_purge_by_system : answers (.purge 127 7 .word) held
    (fun t => decide (t.story 7 = unusedStory ∧ (t.terminal 5).holdCount = 0)) = true := by decide

theorem witness_font : Canonical free ∧ free.sendingHead = none ∧ free.measure.engine = .idle ∧
    aligned (255 : Fin 256).val .byte = true := by
  refine ⟨⟨by decide, by decide, by decide, by decide, fun _ => rfl, by decide, by decide⟩, by decide⟩

theorem witness_system_words_refusals :
    refuses (.limitWrite 5 4 .word 9) desk (.terminal 5) .noRight = true ∧
      refuses (.watchersWrite 20 4 3 .word 9) desk (.terminal 20) .noRight = true ∧
      refuses (.standardMeasureWrite 5 .half 90) desk (.terminal 5) .badSize = true ∧
      refuses (.editionWrite 127 .burst 2) desk .system .badSize = true ∧
      refuses (.sizeWrite 127 0 .half 40) desk .system .badSize = true ∧
      refuses (.widthTableWrite 5 0 0x40 .burst 40) desk (.terminal 5) .badSize = true := by decide +kernel

theorem witness_font_waits :
    (sendingAt .text).sendingHead.isSome = true ∧ (sendingAt .text).measure.engine ≠ .held ∧
      { (sendingAt .text).measure with engine := .held, fontWait := true, fontWaitTimer := some 5 }.engine = .held ∧
      inPass7.sendingHead = none ∧ (∃ p, inPass7.measure.engine = .measuring p) ∧
      stationOf 5#7 = some (.terminal 5) ∧ aligned (0x40 : Fin 256).val .half = true :=
  ⟨rfl, by decide, rfl, rfl, ⟨_, rfl⟩, rfl, rfl⟩

theorem witness_standard_measure :
    max 60 (min 4092 (59#32).toNat) ≠ free.measure.standard ∧
      max 60 (min 4092 (120#32).toNat) = free.measure.standard ∧ free.measure.engine = .idle := by decide

theorem witness_desk_words :
    stationOf 9#7 = some (.terminal 9) ∧ (Station.terminal 9) ≠ .system ∧ Size.half ≠ .word ∧
      (∃ t, exec (.powerOn 1 true) desk = .next t) ∧ ∃ t, exec .busReset desk = .next t :=
  ⟨rfl, by decide, by decide, ⟨_, rfl⟩, ⟨_, rfl⟩⟩

theorem witness_hold_wait_bounds :
    max 1 (min 600 (0#32).toNat) = 1 ∧ max 1 (min 600 (1#32).toNat) = 1 ∧ max 1 (min 600 (600#32).toNat) = 600 ∧
      max 1 (min 600 (601#32).toNat) = 600 ∧
      answers (.holdWaitWrite 127 .word 0) desk (fun t => decide (t.dispatch.holdWait = 1)) = true ∧
      answers (.holdWaitWrite 127 .word 601) desk (fun t => decide (t.dispatch.holdWait = 600)) = true := by decide

theorem witness_status_words :
    stationOf 9#7 = some (.terminal 9) ∧ (0x1040004 + 16384 * 31 = 0x1040004 + 16384 * (31 : BasketId).val) := by decide

theorem witness_words :
    stationOf 119#7 = some (.terminal 119) ∧ (made.page 3).state = .resting .made ∧ (sendingAt .text).dispatch.queue = [entry] ∧
      ((sendingAt .text).page 3).state = .sending .made ∧ (waitingHeld.page 3).state = .waiting .made ∧
      (∀ e ∈ waitingHeld.dispatch.queue, e.page ≠ 4) ∧ (∀ q ∈ ([entry] : List Queued).take 0, q.page ≠ 3) ∧
      (watched.basket 2).list[0]? = some ⟨7, .routine⟩ ∧ (watched.basket 2).list[2047]? = none ∧
      (119 : TerminalId).val = 32 * (3 : Fin 4).val + 23 ∧ 120 ≤ 32 * (3 : Fin 4).val + 24 ∧
      32 * (3 : Fin 4).val + 30 ≤ 126 ∧ 32 * (3 : Fin 4).val + 31 = 127 := by decide

/-- Terminal 9 with 32 notices unread. -/
def fullRing : State :=
  desk.setTerminal 9 { desk.terminal 9 with ring := { write := 32, read := 0, overrun := true } }

theorem witness_read_index :
    stationOf 9#7 = some (.terminal 9) ∧ fullRing.signedOn (.terminal 9) = true ∧
      ((fullRing.ring (.terminal 9)).write - (0#32).setWidth 6).toNat = 32 ∧
      32 < ((fullRing.ring (.terminal 9)).write - (33#32).setWidth 6).toNat ∧
      fullRing.inFlight (.terminal 9) = 0 ∧
      (fullRing.setRingWrite (some ⟨.terminal 9, fullRing.plainNotice .link 1, 0, true, []⟩)).inFlight
        (.terminal 9) = 1 ∧
      ((fullRing.ring (.terminal 9)).write - (1#32).setWidth 6).toNat = 31 ∧
      desk.signedOn .system = true ∧ desk.signedOn (.terminal 20) = false := by decide

theorem witness_station_refusals :
    refuses (.noticeReadIndexWrite 9 (.terminal 5) .word 0) desk (.terminal 9) .noRight = true ∧
      refuses (.noticeReadIndexWrite 20 (.terminal 20) .word 0) desk (.terminal 20) .notSignedOn = true ∧
      refuses (.noticeReadIndexWrite 9 .system .half 0) desk (.terminal 9) .badSize = true ∧
      refuses (.signOn 9 (.terminal 20) .word) desk (.terminal 9) .noRight = true ∧
      refuses (.signOff 9 (.terminal 5) .word) desk (.terminal 9) .noRight = true ∧
      refuses (.signOff 127 .system .word) desk .system .badState = true ∧
      refuses (.liveWordWrite 127 0x01022600 .word 3 false) desk .system .badValue = true ∧
      refuses (.rightsWrite 9 (.terminal 9) .word 0x100) desk (.terminal 9) .noRight = true ∧
      refuses (.rightsWrite 127 .system .word 1) desk .system .badState = true ∧
      refuses (.rightsWrite 127 (.terminal 9) .word 8) desk .system .badValue = true ∧
      (desk.terminal 20).signedOn = false ∧ (desk.terminal 5).signedOn = true := by decide +kernel

theorem witness_sign : stationOf 20#7 = some (.terminal 20) ∧ (desk.terminal 20).signedOn = false ∧
    (desk.terminal 5).signedOn = true ∧ HoldLaw desk ∧ desk.waitingHead = none := by
  refine ⟨rfl, by decide, by decide, ⟨fun u => ?_, by decide, by decide, fun _ _ => rfl⟩, rfl⟩
  have h : heldCount desk u = 0 := by
    refine List.countP_eq_zero.2 fun k _ => ?_
    simp [desk, State.setTerminal, State.story, State.reset, unusedStory]
  rw [h]
  clear h
  revert u
  decide

theorem placedAs_story (v : Story) (st : PageState) (k : StoryId) (hk : k ≠ 7) :
    (placedAs v st).story k = unusedStory := by
  have : (k : Nat) ≠ 7 := fun h => hk (Fin.ext h)
  simp [placedAs, State.story, State.setPage, State.setStory, desk, State.setTerminal, State.reset, this]

theorem placedAs_page (v : Story) (st : PageState) (p : PageId) (hp : p ≠ 3) : (placedAs v st).page p = emptyPage := by
  have : (p : Nat) ≠ 3 := fun h => hp (Fin.ext h)
  simp [placedAs, State.page, State.setPage, State.setStory, desk, State.setTerminal, State.reset, this]

theorem placedAs_slot (v : Story) (st : PageState) (p : PageId) (n : SlotId) (sl : Slot)
    (h : (placedAs v st).slotOf p n = some sl) : p = 3 ∧ n = 2 ∧ sl = slot7 := by
  by_cases hp : p = 3
  · subst hp
    have hn : ∀ m : SlotId, m ≠ 2 → (placedAs v st).slotOf 3 m = none := by
      intro m
      revert m
      exact (by decide : ∀ m : SlotId, m ≠ 2 → (page3 (.resting .made)).slots[m.val] = none)
    by_cases h2 : n = 2
    · subst h2
      exact ⟨rfl, rfl, (Option.some.inj h).symm⟩
    · exact nomatch (hn n h2).symm.trans h
  · rw [State.slotOf, placedAs_page v st p hp] at h
    simp [emptyPage] at h

theorem placedAs_seven (v : Story) (st : PageState) : (placedAs v st).story 7 = { v with placement := some (3, 2) } := by
  change (desk.setStory 7 _).story 7 = _
  simp [State.story, State.setStory]

theorem placed_plan (v : Story) (st : PageState) (hv : v.phase ≠ .unused) : PlanLaw (placedAs v st) := by
  refine ⟨fun p n sl h => ?_, fun k p n h => ?_, fun k h => ?_⟩
  · obtain ⟨rfl, rfl, rfl⟩ := placedAs_slot v st p n sl h
    exact congrArg Story.placement (placedAs_seven v st)
  · by_cases hk : k = 7
    · subst hk
      rw [placedAs_seven] at h
      cases h
      exact ⟨slot7, rfl, rfl⟩
    · rw [placedAs_story v st k hk] at h
      exact nomatch h
  · by_cases hk : k = 7
    · subst hk
      rw [placedAs_seven] at h
      exact absurd h hv
    · rw [placedAs_story v st k hk]
      rfl

theorem placed_frozen (v : Story) (st : PageState) (hv : v.phase = .live) (hs : restingOf st = .made) :
    (∀ k, ((placedAs v st).story k).phase ≠ .frozen) ∧
    (∀ p n sl, restingOf ((placedAs v st).page p).state = .sent → (placedAs v st).slotOf p n ≠ some sl) ∧
    ∀ p, restingOf ((placedAs v st).page p).state = .empty ↔ ∀ n, (placedAs v st).slotOf p n = none := by
  refine ⟨fun k h => ?_, fun p n sl h hn => ?_, fun p => ⟨fun h n => ?_, fun h => ?_⟩⟩
  · by_cases hk : k = 7
    · subst hk
      rw [placedAs_seven] at h
      exact nomatch hv.symm.trans h
    · rw [placedAs_story v st k hk] at h
      exact nomatch h
  · obtain ⟨rfl, -, -⟩ := placedAs_slot v st p n sl hn
    exact nomatch hs.symm.trans h
  · match hn : (placedAs v st).slotOf p n with
    | none => rfl
    | some sl =>
      obtain ⟨rfl, -, -⟩ := placedAs_slot v st p n sl hn
      exact nomatch hs.symm.trans h
  · by_cases hp : p = 3
    · subst hp
      exact nomatch (h 2)
    · rw [placedAs_page v st p hp]
      rfl

theorem made_plan : PlanLaw made := placed_plan _ _ (by decide)

/-- Page 3 QUEUED while the link is DOWN. -/
def queuedOne : State :=
  let s := placedAs fresh (.queued .made)
  { s with dispatch := { s.dispatch with queue := [entry] } }

theorem made_laws : PlanLaw made ∧ FrozenLaw made ∧ DispatchLaw made ∧ Canonical made := by
  have hf := placed_frozen fresh (.resting .made) rfl rfl
  have hb : ∀ p : PageId, busy made p = false := by decide +kernel
  have hc : ∀ k : StoryId, (made.story k).closing = false := by decide +kernel
  refine ⟨made_plan, ⟨fun k h => absurd h (hf.1 k), fun p n sl h hn => absurd hn (hf.2.1 p n sl h), hf.2.2,
    fun _ h => (nomatch h)⟩, ⟨by decide, by decide +kernel, by decide, by decide, ⟨fun ⟨_, h⟩ => (nomatch h), fun h => ?_⟩,
    by decide, by decide, fun k => ⟨fun h => ?_, fun ⟨p, _, _, h⟩ => ?_⟩, fun _ _ => rfl⟩,
    ⟨by decide, by decide, by decide, by decide, fun _ => rfl, by decide, by decide⟩⟩
  · exact absurd h (by decide)
  · exact nomatch (hc k).symm.trans h
  · exact nomatch (hb p).symm.trans h

theorem witness_queued_laws : PlanLaw queuedOne ∧ FrozenLaw queuedOne ∧ DispatchLaw queuedOne ∧ Canonical queuedOne := by
  have hp := placed_plan fresh (.queued .made) (by decide)
  have hf := placed_frozen fresh (.queued .made) rfl rfl
  have hb : ∀ p : PageId, busy queuedOne p = false := by decide +kernel
  have hc : ∀ k : StoryId, (queuedOne.story k).closing = false := by decide +kernel
  refine ⟨⟨hp.slot, hp.placement, hp.unused⟩, ⟨fun k h => absurd h (hf.1 k), fun p n sl h hn => absurd hn (hf.2.1 p n sl h),
    hf.2.2, by decide⟩, ⟨by decide, by decide +kernel, by decide, by decide, ⟨fun ⟨_, h⟩ => (nomatch h), fun h => ?_⟩,
    by decide, by decide, fun k => ⟨fun h => ?_, fun ⟨p, _, _, h⟩ => ?_⟩, fun _ h => (nomatch h)⟩,
    ⟨by decide, by decide, by decide, by decide, fun _ => rfl, by decide, by decide⟩⟩
  · exact absurd h (by decide)
  · exact nomatch (hc k).symm.trans h
  · exact nomatch (hb p).symm.trans h

/-- Page 3 QUEUED with a second story, FRESH like the first, in its last slot, and an unplaced one. -/
def queuedPair : State :=
  let s := (queuedOne.setStory 8 { fresh with placement := some (3, 11) }).setStory 9 fresh
  s.setPage 3 (setSlot (s.page 3) 11 (some { slot7 with story := 8 }))

theorem witness_plan_writes :
    stationOf 5#7 = some (.terminal 5) ∧ mayPlan made (.terminal 5) ∧ editable made 3 ∧ editable queuedOne 3 ∧
      mayPlan queuedOne (.terminal 5) ∧ made.measure.engine = .idle ∧ made.stations.outgoing.length + 25 ≤ 256 ∧
      made.slotOf 3 2 = some slot7 ∧ made.slotOf 3 0 = none ∧ made.inPass 7 = false ∧ (made.story 7).phase ≠ .unused ∧
      (queuedOne.page 3).state = .queued .made ∧ entry ∈ queuedOne.dispatch.queue ∧ entry.page = 3 ∧
      queuedOne.slotOf 3 2 = some slot7 ∧ (∀ m : SlotId, m ≠ 2 → queuedOne.slotOf 3 m = none) ∧
      queuedOne.inPass 7 = false ∧ queuedOne.stations.outgoing.length + 25 ≤ 256 ∧
      queuedPair.slotOf 3 11 = some { slot7 with story := 8 } ∧ (queuedPair.page 3).state = .queued .made ∧
      (queuedPair.story 9).phase ≠ .unused ∧ (queuedPair.story 9).placement = none ∧ queuedPair.slotOf 3 0 = none ∧
      (queuedPair.story 9).depth.status = .fresh ∧ (queuedPair.story 7).depth.status = .fresh ∧
      mayPlan queuedPair (.terminal 5) :=
  ⟨by decide, by decide, .inl ⟨_, rfl⟩, .inr ⟨_, rfl⟩, by decide +kernel⟩

theorem witness_plan_refusals :
    refuses (.columnWidthWrite 127 3 .half 90) made .system .badSize = true ∧
      refuses (.gutterWrite 20 3 .word 9) made (.terminal 20) .notSignedOn = true ∧
      refuses (.columnDepthWrite 9 3 .word 900) made (.terminal 9) .noRight = true ∧
      refuses (.columnDepthWrite 5 3 .word 900) waitingHeld (.terminal 5) .closing = true ∧
      refuses (.place 9 3 0 .word 7) free (.terminal 9) .noRight = true ∧
      refuses (.place 5 3 0 .word 9) free (.terminal 5) .badState = true ∧
      refuses (.place 5 3 0 .word 7) made (.terminal 5) .badState = true ∧
      refuses (.remove 127 3 2 .word) (sendingAt .text) .system .closing = true ∧
      refuses (.liveWordWrite 5 0x010C0360 .word 2048 false) made (.terminal 5) .badValue = true := by decide +kernel

theorem witness_slot_refusals :
    refuses (.spanWrite 5 3 0 .word 2) made (.terminal 5) .badState = true ∧
      refuses (.allowanceWrite 9 3 2 .word 2) made (.terminal 9) .noRight = true ∧
      refuses (.policyWrite 5 3 0 .word 2) made (.terminal 5) .badValue = true ∧
      refuses (.policyWrite 5 3 0 .word 1) made (.terminal 5) .badState = true ∧
      afterPlanTests made (.terminal 5) 3 .word .none = .none ∧ made.slotOf 3 0 = none := by decide +kernel

theorem witness_holders_on : holdersOn made 3 ∧ holdersOn queuedOne 3 := by
  refine ⟨fun n sl st h hs => ?_, fun n sl st h hs => ?_⟩
  · obtain ⟨-, -, rfl⟩ := placedAs_slot _ _ 3 n sl h
    exact nomatch hs
  · obtain ⟨-, -, rfl⟩ := placedAs_slot fresh (.queued .made) 3 n sl h
    exact nomatch hs

theorem witness_overset_moves :
    (oversetTold made 7 400 (.terminal 5)).map (fun o => (o.recipient, o.notice.cause)) = [(.system, some (.terminal 5))] ∧
      (oversetTold made 7 479 (.terminal 5)).length = 1 ∧ oversetTold made 7 480 (.terminal 5) = [] ∧
      max 400 (min 8000 (400#32).toNat) ≠ (made.page 3).depth ∧ 400 < slot7.allowance ∧ 479 ≠ slot7.allowance ∧
      480 ≠ slot7.allowance ∧ max 1 (min (made.page 3).depth (479#32).toNat) = 479 := by decide

/-! ### Dispatch -/

/-- The link DOWN with pages 3 and 4 QUEUED, in that order. -/
def queuedTwo : State :=
  let s := ((placedAs fresh (.queued .made)).setStory 8 { fresh with placement := some (4, 0) }).setPage 4
    { setSlot emptyPage 0 (some { slot7 with story := 8 }) with state := .queued .changed }
  { s with dispatch := { s.dispatch with queue := [entry, { page := 4, stamp := 15 }] } }

theorem queuedTwo_dispatch : DispatchLaw queuedTwo := by
  have hb : ∀ p : PageId, busy queuedTwo p = false := by decide +kernel
  have hc : ∀ k : StoryId, (queuedTwo.story k).closing = false := by decide +kernel
  refine ⟨by decide, by decide +kernel, by decide, by decide, ⟨fun ⟨_, h⟩ => (nomatch h), fun h => ?_⟩, by decide, by decide,
    fun k => ⟨fun h => ?_, fun ⟨p, _, _, h⟩ => ?_⟩, by decide⟩
  · exact absurd h (by decide)
  · exact nomatch (hc k).symm.trans h
  · exact nomatch (hb p).symm.trans h

theorem witness_dispatch_command :
    (desk.page 3).state = .resting .empty ∧ (made.page 3).state = .resting .made ∧ Resting.made ≠ .empty ∧
      made.link.state ≠ .up ∧ (abortAt 1).dispatch.engine ≠ .idle ∧ ((abortAt 1).page 3).state = .resting .made := by
  decide

theorem witness_page_command_refusals :
    refuses (.dispatch 5 3 .word) made (.terminal 5) .noRight = true ∧
      refuses (.cancel 5 3 .word) queuedOne (.terminal 5) .noRight = true ∧
      refuses (.cancel 127 3 .byte) queuedOne .system .badSize = true ∧
      refuses (.dispatch 127 4 .word) made .system .badState = true ∧
      refuses (.liveWordWrite 127 0x010C0310 .word 3 false) made .system .badValue = true := by decide +kernel

theorem witness_cancel_queued :
    (queuedTwo.page 4).state = .queued .changed ∧ (⟨4, 15⟩ : Queued) ∈ queuedTwo.dispatch.queue.tail ∧
      DispatchLaw queuedTwo ∧ queuedTwo.stations.outgoing.length < 256 :=
  ⟨by decide, by decide, queuedTwo_dispatch, by decide⟩

/-- Page 3 made with story 7 held by terminal 5 and the link UP. -/
def madeHeld : State :=
  { placedAs { fresh with holder := some (.terminal 5) } (.resting .made) with link := linkUp }

theorem witness_dispatched_head_waits :
    (madeHeld.page 3).state = .resting .made ∧ madeHeld.link.state = .up ∧ madeHeld.dispatch.engine = .idle ∧
      madeHeld.dispatch.queue = [] ∧ madeHeld.dispatch.wanted = Vector.replicate 12 none ∧
      madeHeld.slotOf 3 2 = some slot7 ∧ (∀ n : SlotId, n ≠ 2 → madeHeld.slotOf 3 n = none) ∧
      (madeHeld.story 7).holder = some (.terminal 5) ∧ madeHeld.signedOn (.terminal 5) = true ∧
      (madeHeld.story 7).depth.status = .fresh ∧ (madeHeld.story 7).depth.fonts &&& ~~~ madeHeld.link.mask = 0 ∧
      (madeHeld.story 7).depth.overset = false ∧ madeHeld.stations.outgoing.length + 12 ≤ 256 := by
  decide +kernel

/-! ### The measure engine -/

theorem witness_pass_taken :
    inPass7.measure.engine ≠ .idle ∧ free.measure.queue = [] ∧ free.measure.engine = .idle ∧
      inPass7.lastBlock 7 0 = false ∧ inPass7.lastBlock 7 510 = false ∧ inPass7.lastBlock 7 511 = true := by
  decide +kernel

theorem witness_pass_ends :
    (∃ p, inPass7.measure.engine = .measuring p ∧ p.story = 7) ∧ (inPass7.story 7).closing = false ∧
      (inPass7.story 7).holder = none ∧ inPass7.stations.outgoing.length + 3 ≤ 256 ∧
      (inPass7.story 7).placement = none := ⟨⟨_, rfl, rfl⟩, by decide⟩

theorem witness_pass_ends_placed :
    (made.story 7).placement = some (3, 2) ∧ made.slotOf 3 2 = some slot7 ∧ (made.story 7).holder = none ∧
      (made.story 7).closing = false := by decide

/-- Page 3 is WAITING for the pass of story 7. -/
def waitingPass : State :=
  let s := placedAs { fresh with closing := true, depth := { fresh.depth with status := .measuring } } (.waiting .made)
  { s with
    link := linkUp
    measure := { s.measure with
      engine := .measuring { story := 7, measure := 17280, block := 0, breaker := newRun } }
    dispatch := { s.dispatch with queue := [entry], engine := .waiting, holdWaitTimer := some 120000 } }

theorem witness_waiting_page_fails :
    (∃ p, waitingPass.measure.engine = .measuring p ∧ p.story = 7) ∧ waitingPass.dispatch.queue = [entry] ∧
      (waitingPass.page 3).state = .waiting .made ∧ waitingPass.dispatch.engine = .waiting ∧
      (waitingPass.story 7).closing = true ∧ waitingPass.slotOf 3 2 = some slot7 ∧
      (∀ m : SlotId, m ≠ 2 → waitingPass.slotOf 3 m = none) ∧ (waitingPass.story 7).holder = none ∧
      waitingPass.stations.outgoing.length + 2 ≤ 256 := ⟨⟨_, rfl, rfl⟩, by decide +kernel⟩

theorem witness_wait_timers :
    State.reset.measure.fontWaitTimer = none ∧ State.reset.dispatch.holdWaitTimer = none ∧
      { State.reset.measure with engine := .held, fontWait := true, fontWaitTimer := some 5 }.fontWaitTimer ≠ none ∧
      waitingHeld.dispatch.holdWaitTimer ≠ none ∧ waitingHeld.dispatch.queue = [entry] ∧
      (waitingHeld.page 3).state = .waiting .made ∧ waitingHeld.dispatch.engine = .waiting ∧
      waitingHeld.slotOf 3 2 = some slot7 ∧ (waitingHeld.story 7).holder ≠ none ∧
      waitingPass.dispatch.holdWaitTimer ≠ none ∧ (waitingPass.story 7).holder = none ∧
      (waitingPass.story 7).depth.status = .measuring ∧ (∀ m : SlotId, m ≠ 2 → waitingPass.slotOf 3 m = none) ∧
      (waitingWith fresh.depth 0xFF).dispatch.holdWaitTimer ≠ none ∧
      ((waitingWith fresh.depth 0xFF).story 7).holder = none ∧
      ((waitingWith fresh.depth 0xFF).story 7).depth.status = .fresh := by decide

/-! ### The send -/

/-- Forty characters have been read for a send, and the link agreed on sixteen. -/
def readForty : State :=
  let s := sendingAt .text
  { s with
    link := { s.link with agreed := 16, outstanding := none, transmitter := [] }
    dispatch := { s.dispatch with
      engine := .sending { send0 with
        stage := .text, reader := { send0.reader with chars := List.replicate 40 0x41#8 } } } }

theorem witness_send_text :
    (∃ x, readForty.dispatch.engine = .sending x ∧ x.stage = .text ∧ x.reader.finished = false ∧
      readForty.link.agreed ≤ certain (readSendBlock (slotMeasure (readForty.page 3) slot7 * 144) readForty.font
        slot7.allowance x.reader (readForty.textBlock 7 x.reader.block))) ∧
      readForty.slotOf 3 2 = some slot7 ∧ readForty.link.outstanding = none ∧ readForty.link.waitHold = false ∧
      (readForty.page 3).state = .sending .made ∧ readForty.link.state = .up ∧
      (sendingAt .text).link.outstanding ≠ none := ⟨⟨_, rfl, by decide +kernel⟩, by decide⟩

/-- The send of page 3 at the end of slot 2, with a second story in its last slot. -/
def nextSlot : State :=
  let s := (sendingAt .slotEnd).setStory 8 { fresh with placement := some (3, 11), closing := true }
  s.setPage 3 (setSlot (s.page 3) 11 (some { slot7 with story := 8 }))

theorem witness_next_frame :
    (∃ x, (sendingAt .pageBegin).dispatch.engine = .sending x ∧ x.stage = .pageBegin ∧ x.slot = 2) ∧
      (sendingAt .pageBegin).slotOf 3 2 = some slot7 ∧ (sendingAt .pageBegin).link.state = .up ∧
      (sendingAt .pageBegin).link.waitHold = false ∧
      (sendingAt .pageBegin).link.outstanding = some ⟨begin3, 1⟩ ∧ isAbort begin3 = false ∧
      (∃ x, nextSlot.dispatch.engine = .sending x ∧ x.stage = .slotEnd ∧ x.slot = 2) ∧
      nextSlot.slotOf 3 11 = some { slot7 with story := 8 } ∧
      (∀ j : SlotId, 2 < j → j < 11 → nextSlot.slotOf 3 j = none) ∧
      (∀ j : SlotId, 2 < j → (sendingAt .slotEnd).slotOf 3 j = none) :=
  ⟨⟨_, rfl, rfl, rfl⟩, by decide, rfl, rfl, rfl, rfl, ⟨_, rfl, rfl, rfl⟩, by decide +kernel⟩

/-- A send in the text of its story: what has been read, whether reading has stopped, and the trim. -/
def inText (n : Nat) (finished : Bool) (trim : Option Trim) : SendState :=
  { send0 with
    stage := .text, reader := { send0.reader with chars := List.replicate n 0x41#8, finished := finished, trim := trim } }

theorem witness_text_follows :
    textFollows 64 (inText 64 false none) (textFormed (inText 64 false none) 64) (some (.text (List.replicate 64 0x41#8))) ∧
    textFollows 64 (inText 64 true none) (textFormed (inText 64 true none) 64) (some (.text (List.replicate 64 0x41#8))) ∧
    textFollows 64 (inText 63 true none) (textFormed (inText 63 true none) 63) (some (.text (List.replicate 63 0x41#8))) ∧
    textFollows 64 (inText 0 true none) { inText 0 true none with stage := .slotEnd } (some (.slotEnd 2 0 0 false)) ∧
    textFollows 64 (inText 0 true (some { newTrim with depth := 96, lines := 2, cut := true }))
      { inText 0 true (some { newTrim with depth := 96, lines := 2, cut := true }) with stage := .slotEnd }
      (some (.slotEnd 2 96 2 true)) ∧
    textFollows 64 (inText 63 false none) (inText 63 false none) none ∧
    textFollows 64 (inText 80 false (some { newTrim with mark := 63 }))
      (inText 80 false (some { newTrim with mark := 63 })) none :=
  ⟨.inl (by decide +kernel), .inl (by decide +kernel), .inr (.inl (by decide +kernel)),
    .inr (.inr (.inl ⟨rfl, rfl, rfl, .inr ⟨rfl, rfl⟩⟩)), .inr (.inr (.inl ⟨rfl, rfl, rfl, .inl ⟨_, rfl, rfl⟩⟩)),
    .inr (.inr (.inr (by decide +kernel))), .inr (.inr (.inr (by decide +kernel)))⟩

theorem witness_slot_and_text :
    (sendingAt .slot).link.outstanding = some ⟨begin3, 1⟩ ∧ (sendingAt .slot).link.waitHold = false ∧
      (sendingAt .slot).link.state = .up ∧ (sendingAt .slot).dispatch.queue = [entry] ∧
      textFollows (sendingAt .slot).link.agreed { send0 with stage := .slot } { send0 with stage := .text } none ∧
      textFollows (sendingAt .text).link.agreed { send0 with stage := .text } { send0 with stage := .text } none :=
  ⟨rfl, rfl, rfl, rfl, .inr (.inr (.inr (by decide))), .inr (.inr (.inr (by decide)))⟩

theorem witness_page_end :
    (∃ x, atPageEnd.dispatch.engine = .sending x ∧ x.stage = .pageEnd) ∧ atPageEnd.dispatch.queue = [entry] ∧
      atPageEnd.link.state = .up ∧ atPageEnd.link.waitHold = false ∧
      atPageEnd.link.outstanding = some ⟨begin3, 1⟩ ∧ isAbort begin3 = false ∧
      atPageEnd.stations.outgoing.length < 256 := ⟨⟨_, rfl, rfl⟩, by decide⟩

/-! ### Ring writes -/

/-- A notice waits for terminal 9. -/
def told (s : State) : State :=
  { s with stations := { s.stations with outgoing := [⟨.terminal 9, s.plainNotice .link 1⟩] } }

/-- The ring write of the notice of `told` is in flight. -/
def ringing (voided : Bool) : State :=
  let s := told desk
  { s with stations := { s.stations with
      ringWrite := some ⟨.terminal 9, s.plainNotice .link 1, 31, voided, []⟩ } }

theorem witness_ring_writes :
    (told State.reset).signedOn (.terminal 9) = false ∧ (told desk).stations.ringWrite = none ∧
      (told fullRing).signedOn (.terminal 9) = true ∧ unread ((told fullRing).ring (.terminal 9)) = 32 ∧
      unread (((told fullRing).setRing (.terminal 9) ⟨31, 0, false⟩).ring (.terminal 9)) = 31 ∧
      (told desk).signedOn (.terminal 9) = true ∧
      unread ((told desk).ring (.terminal 9)) = 0 ∧ (ringing false).stations.ringWrite ≠ none ∧
      State.reset.stations.outgoing = [] ∧ State.reset.stations.ringWrite = none := by decide

theorem witness_ring_write_ends :
    (∃ w, (ringing false).stations.ringWrite = some w ∧ w.voided = false ∧ w.contested = [] ∧ w.slot = 31) ∧
      (∃ w, (ringing true).stations.ringWrite = some w ∧ w.voided = true) ∧
      (∃ o, (ringing false).stations.outgoing = [o]) ∧
      answers .busReset (ringing false) (fun t =>
        decide (t.stations.outgoing = [] ∧ t.stations.ringWrite.map RingWrite.voided = some true)) = true :=
  ⟨⟨_, rfl, rfl, rfl, rfl⟩, ⟨_, rfl, rfl⟩, ⟨_, rfl⟩, by decide +kernel⟩

/-! ### The typesetter link -/

theorem witness_link_status : stationOf 127#7 = some .system ∧ stationOf 119#7 = some (.terminal 119) := by decide

theorem witness_training :
    desk.link.state = .down ∧ training.link.state = .training ∧ training.link.trainingTimer ≠ none ∧
      linkUp.state ≠ .down ∧ desk.link.trainingTimer = none ∧ training.dispatch.queue = [] ∧
      training.stations.outgoing.length < 256 ∧ linkUp.state = .up ∧ (∀ x, made.dispatch.engine ≠ .sending x) :=
  ⟨rfl, rfl, by decide, by decide, rfl, rfl, by decide, rfl, fun _ h => nomatch h⟩

/-- The third try of a frame of a send is outstanding. -/
def thirdTry : State :=
  let s := sendingAt .text
  { s with link := { s.link with outstanding := some ⟨begin3, 3⟩, transmitter := [], replyTimer := some 400 } }

theorem witness_failed_tries :
    (abortAt 2).link.state = .up ∧ (abortAt 2).link.waitHold = false ∧
      (abortAt 2).link.outstanding = some ⟨.abort 3, 2⟩ ∧ failsTheTry (abortAt 2) ⟨.abort 3, 2⟩ .replyTimerExpiry ∧
      failsTheTry (sendingAt .text) ⟨begin3, 1⟩ (.nak .page) ∧ failsTheTry (sendingAt .text) ⟨begin3, 1⟩ (.nak .frame) ∧
      (sendingAt .text).link.outstanding = some ⟨begin3, 1⟩ ∧ (sendingAt .text).link.state = .up ∧
      (sendingAt .text).link.waitHold = false ∧
      (abortAt 3).link.outstanding = some ⟨.abort 3, 3⟩ ∧ thirdTry.link.outstanding = some ⟨begin3, 3⟩ ∧
      failsTheTry thirdTry ⟨begin3, 3⟩ .replyTimerExpiry ∧ thirdTry.link.state = .up ∧ thirdTry.link.waitHold = false ∧
      thirdTry.stations.outgoing.length < 256 :=
  ⟨rfl, rfl, rfl, .inr (.inr (by decide)), .inr (.inl (by decide)), .inl rfl, rfl, rfl, rfl, rfl, rfl, .inr (.inr (by decide)),
    rfl, rfl, by decide⟩

theorem witness_leaving_up :
    madeHeld.link.state = .up ∧ madeHeld.dispatch.engine = .idle ∧ (abortAt 3).link.state = .up ∧
      (abortAt 3).dispatch.engine = .aborting ∧ waitingHeld.link.state = .up ∧ waitingHeld.dispatch.engine = .waiting ∧
      waitingHeld.waitingHead = some entry ∧ (waitingHeld.page 3).state = .waiting .made ∧
      (∃ x, thirdTry.dispatch.engine = .sending x) ∧ thirdTry.dispatch.queue = [entry] ∧
      (thirdTry.page 3).state = .sending .made ∧ thirdTry.stations.outgoing.length + 1 < 256 :=
  ⟨rfl, rfl, rfl, rfl, rfl, rfl, by decide, by decide, ⟨_, rfl⟩, rfl, by decide, by decide⟩

/-- The page-end of page 3 is outstanding and held after a WAIT. -/
def stalled : State :=
  let s := sendingAt .pageEnd
  { s with link := { s.link with
      outstanding := some ⟨.pageEnd 3 0 0, 1⟩, transmitter := [], waitHold := true, waitTimer := some 30000 } }

theorem witness_failed_sends :
    failsTheSend (sendingAt .text) entry { send0 with stage := .text } (.cancel 127#7 3 .word) .cancelled
      (failedOutgoing (sendingAt .text) entry 10 (some .system)) doneBus (sendingAt .text).link ∧
    failsTheSend (sendingAt .text) entry { send0 with stage := .text } (.nak .refused) .typesetter
      (failedOutgoing (sendingAt .text) entry 9 none) (sendingAt .text).bus
      { (sendingAt .text).link with receiver := .hunting, gapTimer := none } ∧
    failsTheSend (sendingAt .text) entry { send0 with stage := .text } (.sendTextRead true) .fault
      (failedAt (sendingAt .text) entry .fault 2 7) (sendingAt .text).bus (sendingAt .text).link ∧
    failsTheSend (sendingAt .text) entry { send0 with stage := .text } (.typesetterAbility 0xFF 0x10) .link
      (failedOutgoing (sendingAt .text) entry 6 none) (sendingAt .text).bus
      { (sendingAt .text).link with
        mask := 0xFF, largest := 16, agreed := 16, transmitter := [.attempt begin3 true, .ability], receiver := .hunting
        gapTimer := none } ∧
    failsTheSend stalled entry { send0 with stage := .pageEnd } .waitTimerExpiry .stalled (failedOutgoing stalled entry 7 none)
      stalled.bus stalled.link ∧
    (sendingAt .text).link.state = .up ∧ (sendingAt .text).dispatch.queue = [entry] ∧
    (sendingAt .text).dispatch.engine = .sending { send0 with stage := .text } ∧
    ((sendingAt .text).page 3).state = .sending .made ∧ (sendingAt .text).stations.outgoing.length < 256 ∧
    stalled.link.state = .up ∧ stalled.dispatch.queue = [entry] ∧
    stalled.dispatch.engine = .sending { send0 with stage := .pageEnd } ∧ (stalled.page 3).state = .sending .made :=
  ⟨.inl ⟨rfl, rfl, rfl, rfl, rfl⟩,
    .inr ⟨rfl, .inl ⟨⟨begin3, 1⟩, rfl, rfl, rfl, .inl ⟨rfl, rfl⟩, rfl, rfl⟩⟩,
    .inr ⟨rfl, .inr (.inr (.inl ⟨slot7, rfl, rfl, rfl, rfl, rfl, rfl⟩))⟩,
    .inr ⟨rfl, .inr (.inr (.inr ⟨0xFF, 0x10, rfl, rfl, rfl, rfl⟩))⟩,
    .inr ⟨rfl, .inr (.inl ⟨rfl, by decide, rfl, rfl, rfl⟩)⟩,
    rfl, rfl, rfl, by decide, by decide, rfl, rfl, rfl, by decide⟩

/-- The page-end of page 3 is outstanding and not held. -/
def lastFrame : State :=
  let s := sendingAt .pageEnd
  { s with link := { s.link with outstanding := some ⟨.pageEnd 3 0 0, 1⟩, transmitter := [] } }

theorem witness_check_fails :
    failsTheSend lastFrame entry { send0 with stage := .pageEnd } (.nak .page) .check (failedOutgoing lastFrame entry 8 none)
      lastFrame.bus { lastFrame.link with receiver := .hunting, gapTimer := none } ∧
    lastFrame.link.state = .up ∧ lastFrame.dispatch.queue = [entry] ∧
    lastFrame.dispatch.engine = .sending { send0 with stage := .pageEnd } ∧ (lastFrame.page 3).state = .sending .made :=
  ⟨.inr ⟨rfl, .inl ⟨⟨.pageEnd 3 0 0, 1⟩, rfl, rfl, rfl, .inr ⟨rfl, rfl, rfl⟩, rfl, rfl⟩⟩, rfl, rfl, rfl, by decide⟩

/-- A WAIT hold with no frame held. -/
def heldLine : State := { desk with link := { linkUp with waitHold := true, waitTimer := some 30000 } }

theorem witness_stall_without_send :
    heldLine.dispatch.engine = .idle ∧ heldLine.link.waitTimer ≠ none ∧ heldLine.link.outstanding = none ∧
      heldLine.link.replyTimer = none ∧ desk.link.waitTimer = none := by decide

theorem witness_unsolicited :
    desk.link.receiver = .hunting ∧ desk.link.gapTimer = none ∧ desk.link.state ≠ .up ∧ linkUp.outstanding = none ∧
      heldLine.link.waitHold = true ∧ linkUp.waitHold = false ∧ linkUp.receiver = .hunting ∧
      linkUp.gapTimer = none := by decide

theorem witness_abort_ends :
    (abortAt 1).link.state = .up ∧ (abortAt 1).link.waitHold = false ∧
      (abortAt 1).link.outstanding = some ⟨.abort 3, 1⟩ ∧ (abortAt 1).dispatch.engine = .aborting ∧
      (abortAt 1).dispatch.queue = [] ∧ heldLine.link.state = .up ∧ heldLine.link.waitHold = true ∧
      heldLine.link.outstanding = none := by decide

theorem witness_transmitter :
    (sendingAt .text).link.transmitter = [.attempt begin3 true] ∧
      (abortAt 1).link.transmitter.head? ≠ some .ability ∧ (abortAt 1).link.transmitter = [] ∧
      ({ linkUp with transmitter := [.ability] } : Link).transmitter = [.ability] ∧
      ({ linkUp with transmitter := [.attempt begin3 false] } : Link).transmitter = [.attempt begin3 false] := by decide

theorem witness_whole_frames :
    answers (.typesetterAbility 0xFF 0x10) (sendingAt .text) (fun t =>
      decide (t.link.state = .up ∧
        t.link.transmitter = [.attempt begin3 false, .ability, .attempt (.abort 3) true])) = true := by decide

/-- The receiver within a frame of which some bytes have come. -/
def gathering (xs : List Byte) : State := { desk with link := { linkUp with receiver := .within xs, gapTimer := some 20 } }

theorem witness_receiver :
    desk.link.state = .down ∧ linkUp.receiver = .hunting ∧ (gathering [0x61#8]).link.state ≠ .down ∧
      (gathering [0x61#8]).link.receiver = .within [0x61#8] ∧ 240 < (241#8).toNat ∧ (240#8).toNat ≤ 240 ∧
      ([0x00#8] : List Byte).length < (0#8).toNat + 1 + 1 ∧
      [0xC4#8, 0x63#8] ≠ checkOf [0x62#8, 0x00#8] ∧ [0xC4#8, 0x62#8] = checkOf [0x62#8, 0x00#8] ∧
      (gathering []).link.gapTimer ≠ none ∧ desk.link.gapTimer = none := by decide

theorem witness_frames_mean :
    frameMeans 0x61 [0x3F, 0x80] = some (.typesetterAbility 0x3F 0x80) ∧ frameMeans 0x62 [] = some .ack ∧
      frameMeans 0x63 [1] = some (.nak .frame) ∧ frameMeans 0x63 [2] = some (.nak .page) ∧
      frameMeans 0x63 [3] = some (.nak .refused) ∧ frameMeans 0x64 [] = some .wait ∧ frameMeans 0x65 [] = some .ready ∧
      frameMeans 0x61 [0x3F] = none ∧ frameMeans 0x62 [0] = none ∧ frameMeans 0x63 [0] = none ∧ frameMeans 0x63 [4] = none ∧
      frameMeans 0x66 [] = none ∧ frameMeans 0x41 [1, 240, 0xFF] = none ∧
      [0x8A#8, 0x23#8] = checkOf [0x61#8, 0x02#8, 0x3F#8, 0x80#8] ∧ [0x30#8, 0x68#8] = checkOf [0x63#8, 0x01#8, 0x04#8] ∧
      ([0x3F#8, 0x80#8] : List Byte).length = (0x02#8).toNat := by decide

theorem waitingHeld_plan : PlanLaw waitingHeld :=
  let h := placed_plan { fresh with holder := some (.terminal 5), closing := true } (.waiting .made) (by decide)
  ⟨h.slot, h.placement, h.unused⟩

theorem waitingHeld_story (k : StoryId) (hk : k ≠ 7) : waitingHeld.story k = unusedStory :=
  placedAs_story { fresh with holder := some (.terminal 5), closing := true } (.waiting .made) k hk

theorem waitingHeld_dispatch : DispatchLaw waitingHeld := by
  have hb : ∀ p : PageId, busy waitingHeld p = true → p = 3 := by decide +kernel
  have hc : ∀ k : StoryId, (waitingHeld.story k).closing = true → k = 7 := fun k h =>
    Decidable.byContradiction fun hk => (nomatch (waitingHeld_story k hk ▸ h : unusedStory.closing = true))
  have hp : ∀ k : StoryId, (waitingHeld.story k).placement ≠ none → k = 7 := fun k h =>
    Decidable.byContradiction fun hk => h (by rw [waitingHeld_story k hk]; rfl)
  refine ⟨by decide, by decide +kernel, fun _ h => (nomatch h), by decide, ⟨fun ⟨_, h⟩ => (nomatch h), fun h => ?_⟩,
    fun _ => rfl, by decide, fun k => ⟨fun h => ?_, fun ⟨p, n, h, _⟩ => ?_⟩, fun h => (nomatch h)⟩
  · exact absurd h (by decide)
  · cases hc k h
    exact ⟨3, 2, by decide, by decide⟩
  · cases hp k (h ▸ Option.some_ne_none _)
    decide

theorem waitingHeld_hold : HoldLaw waitingHeld := by
  have h5 : heldCount waitingHeld 5 = 1 := by decide +kernel
  have ho : ∀ u : TerminalId, u ≠ 5 → heldCount waitingHeld u = 0 := by
    refine fun u hu => List.countP_eq_zero.2 fun k _ h => ?_
    by_cases hk : k = 7
    · subst hk
      have : (waitingHeld.story 7).holder = some (.terminal 5) := by decide
      have hh := this.symm.trans (of_decide_eq_true h)
      injection hh with hh
      injection hh with hh
      exact hu hh.symm
    · have := of_decide_eq_true h
      rw [waitingHeld_story k hk] at this
      exact nomatch this
  refine ⟨fun u => ?_, by decide +kernel, by decide +kernel, fun k h => ?_⟩
  · by_cases hu : u = 5
    · subst hu
      exact h5.symm ▸ (by decide)
    · rw [ho u hu]
      revert u
      decide +kernel
  · by_cases hk : k = 7
    · subst hk
      exact absurd h (by decide)
    · rw [waitingHeld_story k hk]
      rfl

theorem witness_bus_reset :
    PlanLaw waitingHeld ∧ DispatchLaw waitingHeld ∧ waitingHeld.waitingHead = some entry ∧
      (waitingHeld.page 3).state = .waiting .made ∧ (waitingHeld.story 7).closing = true ∧
      (waitingHeld.story 7).holder ≠ none ∧ made.waitingHead = none ∧ PlanLaw made ∧ DispatchLaw made :=
  ⟨waitingHeld_plan, waitingHeld_dispatch, by decide, by decide, by decide, by decide, by decide, made_plan, made_laws.2.2.1⟩

theorem witness_sign_off_evaluates :
    (waitingHeld.terminal 5).signedOn = true ∧ HoldLaw waitingHeld ∧ PlanLaw waitingHeld ∧ DispatchLaw waitingHeld ∧
      waitingHeld.stations.outgoing.length < 256 ∧ (waitingHeld.story 7).holder = some (.terminal 5) ∧
      (waitingHeld.terminal 9).signedOn = true ∧
      (∀ k, (waitingHeld.story k).closing = true → (waitingHeld.story k).holder ≠ some (.terminal 9)) :=
  ⟨by decide, waitingHeld_hold, waitingHeld_plan, waitingHeld_dispatch, by decide, by decide, by decide, by decide +kernel⟩

end Sys2Proof.Tests
end

section
/-! PROOFS. The moves of the part: every operation of the model is a chain of small updates of its records. A `Move` is one
such update with what it may touch, a `Scope`, and each law of Safety.lean is kept by the moves of the scopes that leave its
records alone. -/

namespace Sys2Proof.Machine

open Safety

/-! ## The ranges of a record -/

/-- The depth and lines of a depth record are in range (R9). -/
def DepthRange (d : DepthRecord) : Prop := d.depth ≤ 65535 ∧ d.lines ≤ 4095

/-- A font's size and leading are in range (R63). -/
def FontRange (f : Font) : Prop := 16 ≤ f.size ∧ f.size ≤ 288 ∧ f.size ≤ f.leading ∧ f.leading ≤ 576

/-- The fonts, the standard measure and the font-wait timer are in range (R63, R95, R96). -/
def MeasureRange (m : MeasureUnit) : Prop :=
  (∀ f : FontId, FontRange (tableGet (fun _ => powerOnFont) m.fonts f.val)) ∧ (60 ≤ m.standard ∧ m.standard ≤ 4092) ∧
    ∀ n, m.fontWaitTimer = some n → n = 5

/-- A slot's terms are in range for a column depth (R119). -/
def SlotRange (d : Nat) (sl : Slot) : Prop := 1 ≤ sl.span ∧ sl.span ≤ 8 ∧ 1 ≤ sl.allowance ∧ sl.allowance ≤ d

/-- A page's geometry is in range (R119). -/
def GeometryRange (v : Page) : Prop :=
  60 ≤ v.width ∧ v.width ≤ 480 ∧ v.gutter ≤ 36 ∧ 400 ≤ v.depth ∧ v.depth ≤ 8000

/-- A page's geometry, slots and edition sent are in range (R119). -/
def PageRange (v : Page) : Prop :=
  GeometryRange v ∧ (∀ (n : SlotId) sl, v.slots[n.val] = some sl → SlotRange v.depth sl) ∧ v.editionSent ≤ 15

/-- An edition is in range (R129). -/
def EditionRange (n : Nat) : Prop := 1 ≤ n ∧ n ≤ 15

/-- The page check sums of a send are in range (R82). -/
def SumsRange (e : DispatchEngine) : Prop := ∀ x, e = .sending x → x.a ≤ 254 ∧ x.b ≤ 254

/-- A running hold-wait timer has a period of whole seconds in the range of HOLD WAIT (R131, R149). -/
def HoldTimerRange (t : Option Nat) : Prop :=
  ∀ n, t = some n → ∃ seconds, 1 ≤ seconds ∧ seconds ≤ 600 ∧ n = 1000 * seconds

/-- The stamps, sums, HOLD WAIT and timer of the dispatch unit are in range (R131, R149). -/
def DispatchRange (d : DispatchUnit) : Prop :=
  (∀ e ∈ d.queue, EditionRange e.stamp) ∧ SumsRange d.engine ∧ (1 ≤ d.holdWait ∧ d.holdWait ≤ 600) ∧
    HoldTimerRange d.holdWaitTimer

/-- The lengths and the timers of the link are in range (R154). -/
structure LinkRange (l : Link) : Prop where
  largest : l.largest = 0 ∨ (16 ≤ l.largest ∧ l.largest ≤ 240)
  agreed : l.agreed = min 240 l.largest
  recorded : l.state = .up → 16 ≤ l.largest
  training : ∀ n, l.trainingTimer = some n → n = 1000
  reply : ∀ n, l.replyTimer = some n → n = 400
  wait : ∀ n, l.waitTimer = some n → n = 30000
  gap : ∀ n, l.gapTimer = some n → n = 20

/-- The law of ranges, record by record. -/
theorem rangeLaw_iff (s : State) :
    RangeLaw s ↔ (∀ k, DepthRange (s.story k).depth) ∧ MeasureRange s.measure ∧ (∀ p, PageRange (s.page p)) ∧
      EditionRange s.pages.edition ∧ DispatchRange s.dispatch ∧ LinkRange s.link := by
  constructor
  · intro h
    exact ⟨h.depth, ⟨h.font, h.standard, h.fontWaitTimer⟩, fun p => ⟨h.geometry p, h.slot p, h.sent p⟩, h.edition,
      ⟨h.stamp, h.sums, h.holdWait, h.holdWaitTimer⟩,
      ⟨h.largest, h.agreed, h.recorded, h.trainingTimer, h.replyTimer, h.waitTimer, h.gapTimer⟩⟩
  · rintro ⟨hd, ⟨hf, hs, ht⟩, hp, he, ⟨hst, hsum, hw, hwt⟩, hl⟩
    exact ⟨hd, hf, fun p => (hp p).1, fun p => (hp p).2.1, he, fun p => (hp p).2.2, hst, hsum, hs, hw, hl.largest,
      hl.agreed, hl.recorded, hwt, ht, hl.training, hl.reply, hl.wait, hl.gap⟩

/-! ## Moves -/

/-- Which stories' phases a chain of moves may change, and how (R3). -/
inductive PhaseEffect where
  | none
  | create (k : StoryId)
  | purge (k : StoryId)
  | thaw (k : StoryId)
  | freeze (ks : List StoryId)

/-- Whether an effect leaves which stories are UNUSED. -/
def PhaseEffect.keepsUse : PhaseEffect → Prop
  | .create _ | .purge _ => False
  | _ => True

/-- What a chain of moves may touch: phases; which story sits in which slot; the depth statuses with the measure queue and
engine; and the dispatch engine with its queue, page states, closing markers and the link's state. -/
structure Scope where
  phases : PhaseEffect := .none
  plans : Prop := False
  measures : Prop := False
  engine : Prop := False

/-- Which of the four kinds of state a page is in: at rest, QUEUED, WAITING or SENDING (R120). -/
def pageKind : PageState → Nat
  | .resting _ => 0
  | .queued _ => 1
  | .waiting _ => 2
  | .sending _ => 3

/-- The records a move is about: all but the bus, memory, the baskets, the station unit, the strap and the time. -/
def inner (s : State) := (s.stories, s.measure, s.pages, s.dispatch, s.link)

/-- One small update of the part's records within a scope. Each says that what it sets is in range if all was before. -/
inductive Move (sc : Scope) : State → State → Prop
  | around {s t : State} (h : inner t = inner s) : Move sc s t
  | story {s : State} (k : StoryId) (v : Story)
      (phase : v.phase = (s.story k).phase ∧ v.revision = (s.story k).revision)
      (closing : sc.engine ∨ v.closing = (s.story k).closing)
      (placement : sc.plans ∨ v.placement = (s.story k).placement)
      (status : sc.measures ∨ v.depth.status = (s.story k).depth.status)
      (range : DepthRange (s.story k).depth → DepthRange v.depth) : Move sc s (s.setStory k v)
  | create {s : State} (k : StoryId) (h : sc.phases = .create k) (unused : (s.story k).phase = .unused) :
      Move sc s (s.setStory k { unusedStory with phase := .live })
  | purge {s : State} (k : StoryId) (h : sc.phases = .purge k) (live : (s.story k).phase = .live)
      (placement : (s.story k).placement = none) : Move sc s (s.setStory k unusedStory)
  | thaw {s : State} (k : StoryId) (h : sc.phases = .thaw k) : Move sc s (s.unfreeze k)
  | freeze {s : State} (k : StoryId) (ks : List StoryId) (h : sc.phases = .freeze ks) (mem : k ∈ ks) (engine : sc.engine) :
      Move sc s (s.freeze k)
  | page {s : State} (p : PageId) (v : Page)
      (kind : sc.engine ∨ pageKind v.state = pageKind (s.page p).state)
      (slots : sc.plans ∨ ∀ n : SlotId, (v.slots[n.val]).map Slot.story = ((s.page p).slots[n.val]).map Slot.story)
      (range : PageRange (s.page p) → DispatchRange s.dispatch → PageRange v) : Move sc s (s.setPage p v)
  | edition {s : State} (n : Nat) (range : EditionRange n) : Move sc s { s with pages := { s.pages with edition := n } }
  | measure {s : State} (m : MeasureUnit)
      (same : sc.measures ∨ (m.queue = s.measure.queue ∧ m.engine = s.measure.engine ∧
        m.fontWait = s.measure.fontWait ∧ m.fontWaitTimer = s.measure.fontWaitTimer))
      (range : MeasureRange s.measure → MeasureRange m) : Move sc s { s with measure := m }
  | promote {s : State} (p : PageId) (h : sc.engine) : Move sc s (s.promote p)
  | dispatch {s : State} (d : DispatchUnit)
      (same : sc.engine ∨ (d.queue = s.dispatch.queue ∧ d.engine = s.dispatch.engine ∧
        d.holdWaitTimer = s.dispatch.holdWaitTimer))
      (range : EditionRange s.pages.edition → DispatchRange s.dispatch → DispatchRange d) :
      Move sc s { s with dispatch := d }
  | link {s : State} (l : Link) (same : sc.engine ∨ l.state = s.link.state) (range : LinkRange s.link → LinkRange l) :
      Move sc s (s.setLink l)

/-- A chain of moves within a scope. -/
def Moves (sc : Scope) : State → State → Prop := Relation.ReflTransGen (Move sc)

variable {sc : Scope} {s t u : State}

theorem Moves.refl (sc : Scope) (s : State) : Moves sc s s := Relation.ReflTransGen.refl

theorem Moves.trans (h : Moves sc s t) (h' : Moves sc t u) : Moves sc s u := Relation.ReflTransGen.trans h h'

theorem Moves.move (h : Moves sc s t) (h' : Move sc t u) : Moves sc s u := Relation.ReflTransGen.tail h h'

/-- What every move keeps, a chain of moves keeps. -/
theorem Moves.keeps {p : State → Prop} (h : Moves sc s t) (step : ∀ s t, p s → Move sc s t → p t) (hs : p s) : p t := by
  induction h with
  | refl => exact hs
  | tail _ hm ih => exact step _ _ ih hm

/-- A wider scope: one that may touch all that another may. -/
structure Scope.Within (sc sc' : Scope) : Prop where
  phases : sc.phases = .none ∨ sc.phases = sc'.phases
  plans : sc.plans → sc'.plans
  measures : sc.measures → sc'.measures
  engine : sc.engine → sc'.engine

theorem Move.mono {sc' : Scope} (hw : sc.Within sc') (h : Move sc s t) : Move sc' s t := by
  have hx : ∀ {x}, sc.phases = x → x ≠ .none → sc'.phases = x := fun h hn =>
    (hw.phases.resolve_left fun h' => hn (h.symm.trans h')).symm.trans h
  cases h with
  | around h => exact .around h
  | story k v phase closing placement status range =>
    exact .story k v phase (closing.imp_left hw.engine) (placement.imp_left hw.plans) (status.imp_left hw.measures) range
  | create k h unused => exact .create k (hx h (by simp)) unused
  | purge k h live placement => exact .purge k (hx h (by simp)) live placement
  | thaw k h => exact .thaw k (hx h (by simp))
  | freeze k ks h mem engine => exact .freeze k ks (hx h (by simp)) mem (hw.engine engine)
  | page p v kind slots range => exact .page p v (kind.imp_left hw.engine) (slots.imp_left hw.plans) range
  | edition n range => exact .edition n range
  | measure m same range => exact .measure m (same.imp_left hw.measures) range
  | promote p h => exact .promote p (hw.engine h)
  | dispatch d same range => exact .dispatch d (same.imp_left hw.engine) range
  | link l same range => exact .link l (same.imp_left hw.engine) range

/-- A chain of moves within a scope is one within any wider scope. -/
theorem Moves.mono {sc' : Scope} (h : Moves sc s t) (hw : sc.Within sc') : Moves sc' s t :=
  h.keeps (p := Moves sc' _) (fun _ _ hs hm => hs.move (hm.mono hw)) (.refl _ _)

theorem inner_fields (h : inner t = inner s) : t.stories = s.stories ∧ t.measure = s.measure ∧ t.pages = s.pages ∧
    t.dispatch = s.dispatch ∧ t.link = s.link := by
  simpa [inner] using h

theorem inner_of_butStations (h : butStations t = butStations s) : inner t = inner s := by
  simp only [butStations, Prod.mk.injEq] at h
  simp [inner, h]

theorem story_of_inner (h : inner t = inner s) (k : StoryId) : t.story k = s.story k := by
  simp [State.story, (inner_fields h).1]

theorem page_of_inner (h : inner t = inner s) (p : PageId) : t.page p = s.page p := by
  simp [State.page, (inner_fields h).2.2.1]

/-! ## What every move keeps: ranges -/

theorem Move.rangeLaw (h : Move sc s t) (hr : RangeLaw s) : RangeLaw t := by
  rw [rangeLaw_iff] at hr ⊢
  obtain ⟨hd, hm, hp, he, hdis, hl⟩ := hr
  cases h with
  | around h =>
    obtain ⟨h1, h2, h3, h4, h5⟩ := inner_fields h
    simp only [story_of_inner h, page_of_inner h, h2, h3, h4, h5]
    exact ⟨hd, hm, hp, he, hdis, hl⟩
  | story k v _ _ _ _ range =>
    refine ⟨fun j => ?_, hm, hp, he, hdis, hl⟩
    rw [story_setStory]
    split
    · exact range (hd k)
    · exact hd j
  | create k _ _ =>
    refine ⟨fun j => ?_, hm, hp, he, hdis, hl⟩
    rw [story_setStory]
    split
    · exact ⟨Nat.zero_le _, Nat.zero_le _⟩
    · exact hd j
  | purge k _ _ =>
    refine ⟨fun j => ?_, hm, hp, he, hdis, hl⟩
    rw [story_setStory]
    split
    · exact ⟨Nat.zero_le _, Nat.zero_le _⟩
    · exact hd j
  | thaw k _ =>
    unfold State.unfreeze
    split
    · refine ⟨fun j => ?_, hm, hp, he, hdis, hl⟩
      rw [story_setStory]
      split
      · exact hd k
      · exact hd j
    · exact ⟨hd, hm, hp, he, hdis, hl⟩
  | freeze k =>
    refine ⟨fun j => ?_, hm, hp, he, hdis, hl⟩
    rw [State.freeze, story_setStory]
    split
    · exact hd k
    · exact hd j
  | page p v _ _ range =>
    refine ⟨hd, hm, fun q => ?_, he, hdis, hl⟩
    rw [page_setPage]
    split
    · exact range (hp p) hdis
    · exact hp q
  | edition n range => exact ⟨hd, hm, hp, range, hdis, hl⟩
  | measure m _ range => exact ⟨hd, range hm, hp, he, hdis, hl⟩
  | promote p => exact ⟨hd, hm, hp, he, hdis, hl⟩
  | dispatch d _ range => exact ⟨hd, hm, hp, he, range he hdis, hl⟩
  | link l _ range => exact ⟨hd, hm, hp, he, hdis, range hl⟩

/-- Every chain of moves keeps every quantity in range. -/
theorem Moves.rangeLaw (h : Moves sc s t) (hr : RangeLaw s) : RangeLaw t := h.keeps (fun _ _ hs hm => hm.rangeLaw hs) hr

/-! ## What moves do to phases and revisions -/

/-- A story's phase and revision have stayed. -/
def SamePhase (v w : Story) : Prop := w.phase = v.phase ∧ w.revision = v.revision

/-- What a chain of moves with an effect on phases does to story `j`, of entry `v` before and `w` after (R3, R7). -/
def PhaseChange (x : PhaseEffect) (j : StoryId) (v w : Story) : Prop :=
  SamePhase v w ∨
  (x = .create j ∧ v.phase = .unused ∧ w.phase = .live ∧ w.revision = 0) ∨
  (x = .purge j ∧ v.phase = .live ∧ w.phase = .unused ∧ w.revision = 0) ∨
  (x = .thaw j ∧ v.phase = .frozen ∧ w.phase = .live ∧ w.revision = v.revision + 1) ∨
  ∃ ks, x = .freeze ks ∧ j ∈ ks ∧ v.phase = .live ∧ w.phase = .frozen ∧ w.revision = v.revision

theorem PhaseChange.of_eq {x : PhaseEffect} {j : StoryId} {v w : Story} (h : w = v) : PhaseChange x j v w :=
  .inl (by rw [h]; exact ⟨rfl, rfl⟩)

/-- One effect changes a story's phase once at most: none of the three changes can follow itself. -/
theorem PhaseChange.trans {x : PhaseEffect} {j : StoryId} {u v w : Story} (h : PhaseChange x j u v)
    (h' : PhaseChange x j v w) : PhaseChange x j u w := by
  rcases h with ⟨hp, hr⟩ | ⟨hx, hu, hv, hr⟩ | ⟨hx, hu, hv, hr⟩ | ⟨hx, hu, hv, hr⟩ | ⟨ks, hx, hm, hu, hv, hr⟩
  · simpa only [PhaseChange, SamePhase, hp, hr] using h'
  · rcases h' with ⟨hp', hr'⟩ | ⟨-, hv', -⟩ | ⟨hx', -⟩ | ⟨hx', -⟩ | ⟨ks, hx', -⟩
    · exact .inr (.inl ⟨hx, hu, hp'.trans hv, hr'.trans hr⟩)
    · simp [hv] at hv'
    all_goals simp [hx] at hx'
  · rcases h' with ⟨hp', hr'⟩ | ⟨hx', -⟩ | ⟨-, hv', -⟩ | ⟨hx', -⟩ | ⟨ks, hx', -⟩
    · exact .inr (.inr (.inl ⟨hx, hu, hp'.trans hv, hr'.trans hr⟩))
    · simp [hx] at hx'
    · simp [hv] at hv'
    all_goals simp [hx] at hx'
  · rcases h' with ⟨hp', hr'⟩ | ⟨hx', -⟩ | ⟨hx', -⟩ | ⟨-, hv', -⟩ | ⟨ks, hx', -⟩
    · exact .inr (.inr (.inr (.inl ⟨hx, hu, hp'.trans hv, hr'.trans hr⟩)))
    · simp [hx] at hx'
    · simp [hx] at hx'
    · simp [hv] at hv'
    · simp [hx] at hx'
  · rcases h' with ⟨hp', hr'⟩ | ⟨hx', -⟩ | ⟨hx', -⟩ | ⟨hx', -⟩ | ⟨ks', -, -, hv', -⟩
    · exact .inr (.inr (.inr (.inr ⟨ks, hx, hm, hu, hp'.trans hv, hr'.trans hr⟩)))
    · simp [hx] at hx'
    · simp [hx] at hx'
    · simp [hx] at hx'
    · simp [hv] at hv'

/-- Setting an entry whose change is allowed changes no other story. -/
theorem phaseChange_setStory {x : PhaseEffect} {k : StoryId} {v : Story} (h : PhaseChange x k (s.story k) v) (j : StoryId) :
    PhaseChange x j (s.story j) ((s.setStory k v).story j) := by
  rw [story_setStory]
  split
  · rename_i hj
    subst hj
    exact h
  · exact .of_eq rfl

theorem Move.phaseChange (h : Move sc s t) (j : StoryId) : PhaseChange sc.phases j (s.story j) (t.story j) := by
  cases h with
  | around h => exact .of_eq (story_of_inner h j)
  | story k v phase => exact phaseChange_setStory (.inl phase) j
  | create k hx unused => exact phaseChange_setStory (.inr (.inl ⟨hx, unused, rfl, rfl⟩)) j
  | purge k hx live => exact phaseChange_setStory (.inr (.inr (.inl ⟨hx, live, rfl, rfl⟩))) j
  | thaw k hx =>
    unfold State.unfreeze
    split
    · exact phaseChange_setStory (.inr (.inr (.inr (.inl ⟨hx, ‹_›, rfl, rfl⟩)))) j
    · exact .of_eq rfl
  | freeze k ks hx hm =>
    refine phaseChange_setStory ?_ j
    by_cases hp : (s.story k).phase = .live
    · exact .inr (.inr (.inr (.inr ⟨ks, hx, hm, hp, by simp [hp], rfl⟩)))
    · exact .inl ⟨by simp [hp], rfl⟩
  | page => exact .of_eq rfl
  | edition => exact .of_eq rfl
  | measure => exact .of_eq rfl
  | promote => exact .of_eq rfl
  | dispatch => exact .of_eq rfl
  | link => exact .of_eq rfl

/-- A chain of moves changes phases and revisions by its effect alone. -/
theorem Moves.phaseChange (h : Moves sc s t) (j : StoryId) : PhaseChange sc.phases j (s.story j) (t.story j) :=
  h.keeps (p := fun u => PhaseChange sc.phases j (s.story j) (u.story j)) (fun _ _ hs hm => hs.trans (hm.phaseChange j))
    (.of_eq rfl)

/-! ## What moves that touch no plan keep: placements, and the law of slots and placements -/

theorem Move.placement (h : Move sc s t) (hsc : ¬ sc.plans) (hx : sc.phases.keepsUse) (j : StoryId) :
    (t.story j).placement = (s.story j).placement := by
  have hset : ∀ (k : StoryId) (v : Story), v.placement = (s.story k).placement →
      ((s.setStory k v).story j).placement = (s.story j).placement := fun k v hv => by
    rw [story_setStory]
    split
    · rename_i hj; rw [hj, hv]
    · rfl
  cases h with
  | around h => rw [story_of_inner h]
  | story k v _ _ placement => exact hset k v (placement.resolve_left hsc)
  | create k h => simp [h, PhaseEffect.keepsUse] at hx
  | purge k h => simp [h, PhaseEffect.keepsUse] at hx
  | thaw k =>
    unfold State.unfreeze
    split
    · exact hset k _ rfl
    · rfl
  | freeze k => exact hset k _ rfl
  | _ => rfl

/-- A chain of moves that touches no plan, and brings no story into or out of use, keeps every placement. -/
theorem Moves.placement (h : Moves sc s t) (hsc : ¬ sc.plans) (hx : sc.phases.keepsUse) (j : StoryId) :
    (t.story j).placement = (s.story j).placement :=
  h.keeps (p := fun u => (u.story j).placement = (s.story j).placement)
    (fun _ _ hs hm => (hm.placement hsc hx j).trans hs) rfl

/-- An entry with the same placement and, if it was UNUSED or now is, the same phase keeps the plan law. -/
theorem planLaw_setStory {k : StoryId} {v : Story} (hp : PlanLaw s) (hv : v.placement = (s.story k).placement)
    (hu : v.phase = .unused → v.placement = none) : PlanLaw (s.setStory k v) := by
  have hpl : ∀ j, ((s.setStory k v).story j).placement = (s.story j).placement := fun j => by
    rw [story_setStory]
    split
    · rename_i hj; rw [hj, hv]
    · rfl
  refine ⟨fun p n sl h => (hpl _).trans (hp.slot p n sl h), fun j p n h => hp.placement j p n ((hpl j).symm.trans h), ?_⟩
  intro j hj
  by_cases hjk : j = k
  · subst hjk
    simp only [story_setStory_same] at hj ⊢
    exact hu hj
  · rw [story_setStory_ne _ _ hjk] at hj ⊢
    exact hp.unused j hj

/-- The plan law reads the stories' placements and phases and the stories in the slots, and nothing else. -/
theorem planLaw_congr (hp : PlanLaw s) (hst : ∀ k, t.story k = s.story k)
    (hsl : ∀ p n, (t.slotOf p n).map Slot.story = (s.slotOf p n).map Slot.story) : PlanLaw t := by
  refine ⟨fun p n sl h => ?_, fun k p n h => ?_, fun k h => ?_⟩
  · have := hsl p n
    rw [h, Option.map_some, eq_comm, Option.map_eq_some_iff] at this
    obtain ⟨sl', h', hk⟩ := this
    rw [hst, ← hk]
    exact hp.slot p n sl' h'
  · rw [hst] at h
    obtain ⟨sl, h', hk⟩ := hp.placement k p n h
    have := hsl p n
    rw [h', Option.map_some, Option.map_eq_some_iff] at this
    obtain ⟨sl', h'', hk'⟩ := this
    exact ⟨sl', h'', hk'.trans hk⟩
  · rw [hst] at h ⊢
    exact hp.unused k h

theorem Move.planLaw (h : Move sc s t) (hsc : ¬ sc.plans) (hp : PlanLaw s) : PlanLaw t := by
  cases h with
  | around h =>
    exact planLaw_congr hp (story_of_inner h) fun p n => by simp [State.slotOf, page_of_inner h]
  | story k v phase _ placement =>
    have hv := placement.resolve_left hsc
    exact planLaw_setStory hp hv fun hu => hv.trans (hp.unused k (phase.1.symm.trans hu))
  | create k _ unused => exact planLaw_setStory hp (hp.unused k unused).symm fun _ => rfl
  | purge k _ _ placement => exact planLaw_setStory hp placement.symm fun _ => rfl
  | thaw k =>
    unfold State.unfreeze
    split
    · exact planLaw_setStory hp rfl fun h => by cases h
    · exact hp
  | freeze k =>
    refine planLaw_setStory hp rfl fun h => hp.unused k ?_
    by_cases hl : (s.story k).phase = .live
    · simp [hl] at h
    · simpa [hl] using h
  | page p v _ slots =>
    refine planLaw_congr hp (fun _ => rfl) fun q n => ?_
    simp only [State.slotOf, page_setPage]
    split
    · rename_i hq; subst hq; exact (slots.resolve_left hsc) n
    · rfl
  | edition => exact planLaw_congr hp (fun _ => rfl) fun _ _ => rfl
  | measure => exact planLaw_congr hp (fun _ => rfl) fun _ _ => rfl
  | promote => exact planLaw_congr hp (fun _ => rfl) fun _ _ => rfl
  | dispatch => exact planLaw_congr hp (fun _ => rfl) fun _ _ => rfl
  | link => exact planLaw_congr hp (fun _ => rfl) fun _ _ => rfl

/-- A chain of moves that touches no plan keeps slots and placements in agreement. -/
theorem Moves.planLaw (h : Moves sc s t) (hsc : ¬ sc.plans) (hp : PlanLaw s) : PlanLaw t :=
  h.keeps (fun _ _ hs hm => hm.planLaw hsc hs) hp

end Sys2Proof.Machine
end


section
/-! PROOFS. The moves that touch neither depth statuses nor the measure engine keep the laws of the measure queue (R84, R86, R95),
and those that touch neither the dispatch engine nor a plan keep the law of the dispatch queue (R131, R135). -/

namespace Sys2Proof.Machine

open Safety

variable {sc : Scope} {s t u : State}

/-! ## The measure queue -/

/-- The part of `QueueLaw` that a pass in flight does not concern. -/
structure QueueCore (s : State) : Prop where
  once : s.measure.queue.Nodup
  stale : ∀ k, k ∈ s.measure.queue ↔ (s.story k).depth.status = .stale
  none : ∀ k, (s.story k).phase = .unused ↔ (s.story k).depth.status = .none

theorem queueCore_of_law (h : QueueLaw s) : QueueCore s := ⟨h.once, h.stale, h.none⟩

/-- The depth statuses, which stories are UNUSED, and the measure engine with its font-wait mark and timer are the same. -/
structure SameMeasuring (s t : State) : Prop where
  status : ∀ k, (t.story k).depth.status = (s.story k).depth.status
  unused : ∀ k, (t.story k).phase = .unused ↔ (s.story k).phase = .unused
  engine : t.measure.engine = s.measure.engine
  fontWait : t.measure.fontWait = s.measure.fontWait
  timer : t.measure.fontWaitTimer = s.measure.fontWaitTimer

theorem SameMeasuring.refl (s : State) : SameMeasuring s s := ⟨fun _ => rfl, fun _ => .rfl, rfl, rfl, rfl⟩

theorem SameMeasuring.trans (h : SameMeasuring s t) (h' : SameMeasuring t u) : SameMeasuring s u :=
  ⟨fun k => (h'.status k).trans (h.status k), fun k => (h'.unused k).trans (h.unused k), h'.engine.trans h.engine,
    h'.fontWait.trans h.fontWait, h'.timer.trans h.timer⟩

theorem inPass_of_engine (h : t.measure.engine = s.measure.engine) (k : StoryId) : t.inPass k = s.inPass k := by
  simp [State.inPass, h]

/-- The law of the whole queue, once the pass in flight is that of the MEASURING story. -/
theorem QueueCore.law (h : QueueCore s) (hm : ∀ k, s.inPass k = true ↔ (s.story k).depth.status = .measuring) :
    QueueLaw s := ⟨h.once, h.stale, hm, h.none⟩

theorem SameMeasuring.queueLaw (h : SameMeasuring s t) (hc : QueueCore t) (hq : QueueLaw s) : QueueLaw t :=
  hc.law fun k => by rw [inPass_of_engine h.engine, h.status, hq.measuring]

theorem SameMeasuring.fontWaitLaw (h : SameMeasuring s t) (hf : FontWaitLaw s) : FontWaitLaw t := by
  refine ⟨?_, ?_, ?_⟩
  · rw [h.timer, h.engine]; exact hf.timer
  · rw [h.engine, h.fontWait]; exact hf.held
  · rw [h.engine, h.fontWait]; exact hf.idle

/-- The same queue, statuses and UNUSED stories keep the core of the queue law. -/
theorem SameMeasuring.queueCore (h : SameMeasuring s t) (hq : t.measure.queue = s.measure.queue) (hc : QueueCore s) :
    QueueCore t :=
  ⟨hq ▸ hc.once, fun k => by rw [hq, h.status]; exact hc.stale k, fun k => by rw [h.unused, h.status]; exact hc.none k⟩

/-- The stories of a page's slots are distinct while slots and placements agree. -/
theorem pageStories_nodup (hp : PlanLaw s) (p : PageId) : (s.pageStories p).Nodup := by
  have hocc : (occupied (s.page p)).Nodup := by
    refine (List.nodup_finRange 12).filterMap fun a b x ha hb => ?_
    simp only [Option.mem_def, Option.map_eq_some_iff] at ha hb
    obtain ⟨_, _, rfl⟩ := ha
    obtain ⟨_, _, hb⟩ := hb
    exact (congrArg Prod.fst hb).symm
  refine (List.nodup_map_iff_inj_on hocc).2 ?_
  rintro ⟨n, a⟩ ha ⟨m, b⟩ hb (hab : a.story = b.story)
  rw [mem_occupied] at ha hb
  have h1 := hp.slot p n a ha
  have h2 := hp.slot p m b hb
  rw [hab, h2] at h1
  simp only [Option.some.injEq, Prod.mk.injEq, true_and] at h1
  subst h1
  rw [ha] at hb
  simpa using hb

/-- A promotion moves the page's STALE stories to the front (R93). -/
theorem promote_queue (s : State) (p : PageId) : (s.promote p).measure.queue =
    ((s.pageStories p).filter fun k => (s.story k).depth.status == .stale) ++
      s.measure.queue.filter fun k => !((s.pageStories p).filter fun k => (s.story k).depth.status == .stale).contains k :=
  rfl

/-- A promotion only reorders the queue: the page's STALE stories were in it (R93). -/
theorem QueueCore.promote (h : QueueCore s) (hp : PlanLaw s) (p : PageId) : QueueCore (s.promote p) := by
  have hfront : ∀ k, k ∈ (s.pageStories p).filter (fun k => (s.story k).depth.status == .stale) →
      (s.story k).depth.status = .stale := fun k hk => by simpa using (List.mem_filter.1 hk).2
  refine ⟨?_, fun k => ?_, h.none⟩ <;> rw [promote_queue]
  · refine List.nodup_append.2 ⟨(pageStories_nodup hp p).filter _, h.once.filter _, ?_⟩
    rintro a ha b hb rfl
    simpa [ha] using (List.mem_filter.1 hb).2
  · show _ ↔ (s.story k).depth.status = .stale
    rw [List.mem_append, List.mem_filter (p := fun k => !List.contains _ k), h.stale]
    by_cases hf : k ∈ (s.pageStories p).filter (fun k => (s.story k).depth.status == .stale)
    · simp only [hf, true_or, hfront k hf]
    · simp only [hf, false_or, List.contains_eq_mem, decide_false, Bool.not_false, and_true]

/-- An entry with the same status, and UNUSED as before or not, is the same to the measure queue. -/
theorem sameMeasuring_setStory {k : StoryId} {v : Story} (hs : v.depth.status = (s.story k).depth.status)
    (hu : v.phase = .unused ↔ (s.story k).phase = .unused) : SameMeasuring s (s.setStory k v) := by
  refine ⟨fun j => ?_, fun j => ?_, rfl, rfl, rfl⟩
  all_goals
    rw [story_setStory]
    split
    · rename_i hj; subst hj; assumption
    · rfl

theorem Move.sameMeasuring (h : Move sc s t) (hm : ¬ sc.measures) (hc : sc.phases.keepsUse) : SameMeasuring s t := by
  cases h with
  | around h =>
    have hmeas := (inner_fields h).2.1
    exact ⟨fun k => by rw [story_of_inner h], fun k => by rw [story_of_inner h], by rw [hmeas], by rw [hmeas], by rw [hmeas]⟩
  | story k v phase _ _ status => exact sameMeasuring_setStory (status.resolve_left hm) (by rw [phase.1])
  | create k h => simp [h, PhaseEffect.keepsUse] at hc
  | purge k h => simp [h, PhaseEffect.keepsUse] at hc
  | thaw k =>
    unfold State.unfreeze
    split
    · exact sameMeasuring_setStory rfl (by simp [*])
    · exact .refl _
  | freeze k =>
    refine sameMeasuring_setStory rfl ?_
    by_cases hl : (s.story k).phase = .live <;> simp [hl]
  | measure m same =>
    obtain ⟨-, h2, h3, h4⟩ := same.resolve_left hm
    exact ⟨fun _ => rfl, fun _ => .rfl, h2, h3, h4⟩
  | promote p => exact ⟨fun _ => rfl, fun _ => .rfl, rfl, rfl, rfl⟩
  | page => exact ⟨fun _ => rfl, fun _ => .rfl, rfl, rfl, rfl⟩
  | edition => exact ⟨fun _ => rfl, fun _ => .rfl, rfl, rfl, rfl⟩
  | dispatch => exact ⟨fun _ => rfl, fun _ => .rfl, rfl, rfl, rfl⟩
  | link => exact ⟨fun _ => rfl, fun _ => .rfl, rfl, rfl, rfl⟩

/-- Only a promotion moves stories in the measure queue, where none is measured. -/
theorem Move.queue (h : Move sc s t) (hm : ¬ sc.measures) :
    t.measure.queue = s.measure.queue ∨ (sc.engine ∧ ∃ p, t = s.promote p) := by
  cases h with
  | around h => exact .inl (by rw [(inner_fields h).2.1])
  | thaw k =>
    unfold State.unfreeze
    split <;> exact .inl rfl
  | measure m same => exact .inl (same.resolve_left hm).1
  | promote p h => exact .inr ⟨h, p, rfl⟩
  | _ => exact .inl rfl

/-- A chain of moves that measures nothing keeps all that is measured. -/
theorem Moves.sameMeasuring (h : Moves sc s t) (hm : ¬ sc.measures) (hc : sc.phases.keepsUse) : SameMeasuring s t :=
  h.keeps (p := SameMeasuring s) (fun _ _ hs hmove => hs.trans (hmove.sameMeasuring hm hc)) (.refl s)

/-- A chain of moves that neither measures nor promotes keeps the queue. -/
theorem Moves.queue (h : Moves sc s t) (hm : ¬ sc.measures) (he : ¬ sc.engine) : t.measure.queue = s.measure.queue :=
  h.keeps (p := fun u => u.measure.queue = s.measure.queue)
    (fun _ _ hs hmove => ((hmove.queue hm).resolve_right fun h => he h.1).trans hs) rfl

/-- A chain of moves that measures nothing keeps the queue as the STALE stories. -/
theorem Moves.queueCore (h : Moves sc s t) (hm : ¬ sc.measures) (hpl : ¬ sc.plans) (hc : sc.phases.keepsUse)
    (hp : PlanLaw s) (hq : QueueCore s) : QueueCore t := by
  have := h.keeps (p := fun u => PlanLaw u ∧ QueueCore u) (fun _ _ ⟨hp, hq⟩ hmove => ⟨hmove.planLaw hpl hp, by
    rcases hmove.queue hm with hqueue | ⟨-, p, rfl⟩
    · exact (hmove.sameMeasuring hm hc).queueCore hqueue hq
    · exact hq.promote hp p⟩) ⟨hp, hq⟩
  exact this.2

/-- A chain of moves that measures nothing keeps the laws of the measure queue and of the font wait. -/
theorem Moves.queueLaw (h : Moves sc s t) (hm : ¬ sc.measures) (hpl : ¬ sc.plans) (hc : sc.phases.keepsUse)
    (hp : PlanLaw s) (hq : QueueLaw s ∧ FontWaitLaw s) : QueueLaw t ∧ FontWaitLaw t :=
  have hsame := h.sameMeasuring hm hc
  ⟨hsame.queueLaw (h.queueCore hm hpl hc hp (queueCore_of_law hq.1)) hq.1, hsame.fontWaitLaw hq.2⟩

/-- A chain of moves that neither measures nor promotes keeps the laws of the measure queue and of the font wait. -/
theorem Moves.queueLaw_still (h : Moves sc s t) (hm : ¬ sc.measures) (he : ¬ sc.engine) (hc : sc.phases.keepsUse)
    (hq : QueueLaw s ∧ FontWaitLaw s) : QueueLaw t ∧ FontWaitLaw t :=
  have hsame := h.sameMeasuring hm hc
  ⟨hsame.queueLaw (hsame.queueCore (h.queue hm he) (queueCore_of_law hq.1)) hq.1, hsame.fontWaitLaw hq.2⟩

/-! ## The dispatch queue -/

theorem isQueued_eq (x : PageState) : isQueued x = decide (pageKind x = 1) := by cases x <;> rfl

theorem isWaiting_eq (x : PageState) : isWaiting x = decide (pageKind x = 2) := by cases x <;> rfl

theorem isSending_eq (x : PageState) : isSending x = decide (pageKind x = 3) := by cases x <;> rfl

theorem atRest_eq (s : State) (p : PageId) : atRest s p = decide (pageKind (s.page p).state = 0) := by
  unfold atRest
  cases (s.page p).state <;> rfl

theorem busy_iff (s : State) (p : PageId) :
    busy s p = true ↔ pageKind (s.page p).state = 2 ∨ pageKind (s.page p).state = 3 := by
  simp [busy, isWaiting_eq, isSending_eq]

theorem waitingHead_eq_some (s : State) (e : Queued) :
    s.waitingHead = some e ↔ s.dispatch.queue.head? = some e ∧ pageKind (s.page e.page).state = 2 := by
  unfold State.waitingHead
  cases s.dispatch.queue with
  | nil => simp
  | cons a q => simp +contextual [isWaiting_eq, and_comm]

theorem sendingHead_eq_some (s : State) (e : Queued) :
    s.sendingHead = some e ↔ s.dispatch.queue.head? = some e ∧ pageKind (s.page e.page).state = 3 := by
  unfold State.sendingHead
  cases s.dispatch.queue with
  | nil => simp
  | cons a q => simp +contextual [isSending_eq, and_comm]

/-- `DispatchLaw` without what ties the engine to the link: between the steps of one taking the link may have left UP, or the
head may not have advanced yet. The kinds of the pages stand for their states. -/
structure DispatchCore (s : State) : Prop where
  once : (s.dispatch.queue.map Queued.page).Nodup
  queued : ∀ p, p ∈ s.dispatch.queue.map Queued.page ↔ pageKind (s.page p).state ≠ 0
  tail : ∀ e ∈ s.dispatch.queue.tail, pageKind (s.page e.page).state = 1
  waiting : s.dispatch.engine = .waiting ↔ ∃ e, s.dispatch.queue.head? = some e ∧ pageKind (s.page e.page).state = 2
  sending : (∃ x, s.dispatch.engine = .sending x) ↔
    ∃ e, s.dispatch.queue.head? = some e ∧ pageKind (s.page e.page).state = 3
  timer : s.dispatch.holdWaitTimer.isSome = true ↔
    ∃ e, s.dispatch.queue.head? = some e ∧ pageKind (s.page e.page).state = 2
  closing : ∀ k, (s.story k).closing = true ↔ ∃ p n, (s.story k).placement = some (p, n) ∧
    (pageKind (s.page p).state = 2 ∨ pageKind (s.page p).state = 3)

/-- The law of the dispatch queue is its core, an engine that leaves IDLE only with the link UP, and a head that has
advanced. -/
theorem dispatchLaw_iff (s : State) :
    DispatchLaw s ↔ DispatchCore s ∧ (s.dispatch.engine ≠ .idle → s.link.state = .up) ∧
      (s.dispatch.engine = .idle → s.link.state = .up → s.dispatch.queue = []) := by
  have hw : s.waitingHead.isSome = true ↔
      ∃ e, s.dispatch.queue.head? = some e ∧ pageKind (s.page e.page).state = 2 := by
    simp [Option.isSome_iff_exists, waitingHead_eq_some]
  have hs : s.sendingHead.isSome = true ↔
      ∃ e, s.dispatch.queue.head? = some e ∧ pageKind (s.page e.page).state = 3 := by
    simp [Option.isSome_iff_exists, sendingHead_eq_some]
  constructor
  · intro h
    exact ⟨⟨h.once, fun p => by simpa [atRest_eq] using h.queued p, fun e he => by simpa [isQueued_eq] using h.tail e he,
      h.waiting.trans hw, h.sending.trans hs, h.timer.trans hw, fun k => by simpa only [busy_iff] using h.closing k⟩,
      h.up, h.advanced⟩
  · rintro ⟨h, hup, hadv⟩
    exact ⟨h.once, fun p => by simpa [atRest_eq] using h.queued p, fun e he => by simpa [isQueued_eq] using h.tail e he,
      h.waiting.trans hw.symm, h.sending.trans hs.symm, hup, h.timer.trans hw.symm,
      fun k => by simpa only [busy_iff] using h.closing k, hadv⟩

/-- The core reads the queue, the engine, the hold-wait timer, the pages' kinds and the stories' markers and placements. -/
theorem DispatchCore.congr (h : DispatchCore s) (hq : t.dispatch.queue = s.dispatch.queue)
    (he : t.dispatch.engine = s.dispatch.engine) (ht : t.dispatch.holdWaitTimer = s.dispatch.holdWaitTimer)
    (hk : ∀ p, pageKind (t.page p).state = pageKind (s.page p).state)
    (hst : ∀ k, (t.story k).closing = (s.story k).closing ∧ (t.story k).placement = (s.story k).placement) :
    DispatchCore t := by
  constructor <;> simp only [hq, he, ht, hk, (hst _).1, (hst _).2]
  exacts [h.once, h.queued, h.tail, h.waiting, h.sending, h.timer, h.closing]

/-- What the law of the dispatch queue reads is the same. -/
structure SameDispatch (s t : State) : Prop where
  queue : t.dispatch.queue = s.dispatch.queue
  engine : t.dispatch.engine = s.dispatch.engine
  timer : t.dispatch.holdWaitTimer = s.dispatch.holdWaitTimer
  link : t.link.state = s.link.state
  kind : ∀ p, pageKind (t.page p).state = pageKind (s.page p).state
  story : ∀ k, (t.story k).closing = (s.story k).closing ∧ (t.story k).placement = (s.story k).placement

theorem SameDispatch.refl (s : State) : SameDispatch s s := ⟨rfl, rfl, rfl, rfl, fun _ => rfl, fun _ => ⟨rfl, rfl⟩⟩

theorem SameDispatch.trans (h : SameDispatch s t) (h' : SameDispatch t u) : SameDispatch s u :=
  ⟨h'.queue.trans h.queue, h'.engine.trans h.engine, h'.timer.trans h.timer, h'.link.trans h.link,
    fun p => (h'.kind p).trans (h.kind p),
    fun k => ⟨(h'.story k).1.trans (h.story k).1, (h'.story k).2.trans (h.story k).2⟩⟩

theorem SameDispatch.core (h : SameDispatch s t) (hd : DispatchCore s) : DispatchCore t :=
  hd.congr h.queue h.engine h.timer h.kind h.story

theorem SameDispatch.law (h : SameDispatch s t) (hd : DispatchLaw s) : DispatchLaw t := by
  rw [dispatchLaw_iff] at hd ⊢
  rw [h.engine, h.link, h.queue]
  exact ⟨h.core hd.1, hd.2⟩

/-- An entry with the same marker and placement is the same to the dispatch queue. -/
theorem sameDispatch_setStory {k : StoryId} {v : Story} (hc : v.closing = (s.story k).closing)
    (hp : v.placement = (s.story k).placement) : SameDispatch s (s.setStory k v) := by
  refine ⟨rfl, rfl, rfl, rfl, fun _ => rfl, fun j => ?_⟩
  rw [story_setStory]
  split
  · rename_i hj; subst hj; exact ⟨hc, hp⟩
  · exact ⟨rfl, rfl⟩

/-- A story in no slot is not closing. -/
theorem DispatchCore.not_closing (h : DispatchCore s) {k : StoryId} (hk : (s.story k).placement = none) :
    (s.story k).closing = false := by
  rw [← Bool.not_eq_true, h.closing]
  simp [hk]

theorem Move.sameDispatch (h : Move sc s t) (he : ¬ sc.engine) (hpl : ¬ sc.plans) (hp : PlanLaw s) (hd : DispatchCore s) :
    SameDispatch s t := by
  cases h with
  | around h =>
    obtain ⟨h1, h2, h3, h4, h5⟩ := inner_fields h
    exact ⟨by rw [h4], by rw [h4], by rw [h4], by rw [h5], fun p => by rw [page_of_inner h],
      fun k => by rw [story_of_inner h]; exact ⟨rfl, rfl⟩⟩
  | story k v _ closing placement =>
    exact sameDispatch_setStory (closing.resolve_left he) (placement.resolve_left hpl)
  | create k _ unused =>
    have hn := hp.unused k unused
    exact sameDispatch_setStory (hd.not_closing hn).symm hn.symm
  | purge k _ _ hn => exact sameDispatch_setStory (hd.not_closing hn).symm hn.symm
  | thaw k =>
    unfold State.unfreeze
    split
    · exact sameDispatch_setStory rfl rfl
    · exact .refl s
  | freeze _ _ _ _ engine => exact absurd engine he
  | page p v kind =>
    refine ⟨rfl, rfl, rfl, rfl, fun q => ?_, fun _ => ⟨rfl, rfl⟩⟩
    rw [page_setPage]
    split
    · rename_i hq; subst hq; exact kind.resolve_left he
    · rfl
  | edition => exact ⟨rfl, rfl, rfl, rfl, fun _ => rfl, fun _ => ⟨rfl, rfl⟩⟩
  | measure => exact ⟨rfl, rfl, rfl, rfl, fun _ => rfl, fun _ => ⟨rfl, rfl⟩⟩
  | promote _ h => exact absurd h he
  | dispatch d same =>
    obtain ⟨h1, h2, h3⟩ := same.resolve_left he
    exact ⟨h1, h2, h3, rfl, fun _ => rfl, fun _ => ⟨rfl, rfl⟩⟩
  | link l same => exact ⟨rfl, rfl, rfl, same.resolve_left he, fun _ => rfl, fun _ => ⟨rfl, rfl⟩⟩

/-- A chain of moves that touches neither the dispatch engine nor a plan is nothing to the dispatch queue. -/
theorem Moves.sameDispatch (h : Moves sc s t) (he : ¬ sc.engine) (hpl : ¬ sc.plans) (hp : PlanLaw s)
    (hd : DispatchCore s) : SameDispatch s t := by
  have := h.keeps (p := fun u => PlanLaw u ∧ SameDispatch s u)
    (fun _ _ ⟨hp, hs⟩ hmove => ⟨hmove.planLaw hpl hp, hs.trans (hmove.sameDispatch he hpl hp (hs.core hd))⟩)
    ⟨hp, .refl s⟩
  exact this.2

end Sys2Proof.Machine
end


section
/-! PROOFS. Each operation of the model as a chain of moves: `h.op` extends a chain `h` by the moves of `op`. -/

namespace Sys2Proof.Machine

open Safety

variable {sc : Scope} {s t u : State}

/-! ## Operations outside the inner records -/

theorem Moves.around (h : Moves sc s t) (hu : inner u = inner t) : Moves sc s u := h.move (.around hu)

theorem Moves.stations (h : Moves sc s t) (hu : butStations u = butStations t) : Moves sc s u :=
  h.around (inner_of_butStations hu)

theorem Moves.answer (h : Moves sc s t) (a : Answer) (d : Option Data) : Moves sc s (t.answer a d) := h.around rfl

theorem Moves.done (h : Moves sc s t) : Moves sc s t.done := h.answer _ _

theorem Moves.setLastRefusal (h : Moves sc s t) (st : Station) (r : Reason) : Moves sc s (t.setLastRefusal st r) :=
  h.around (by cases st <;> rfl)

theorem Moves.refuse (h : Moves sc s t) (st : Station) (r : Reason) : Moves sc s (t.refuse st r) :=
  (h.setLastRefusal st r).answer _ _

theorem Moves.plainStore (h : Moves sc s t) (a n : Nat) (data : Data) (f : Bool) : Moves sc s (t.plainStore a n data f) :=
  h.around (by cases f <;> rfl)

theorem Moves.plainAnswer (h : Moves sc s t) (st : Station) (f : Bool) : Moves sc s (t.plainAnswer st f) := by
  cases f
  · exact h.done
  · exact h.refuse _ _

theorem Moves.raise (h : Moves sc s t) (st : Station) (n : Notice) : Moves sc s (t.raise st n) :=
  h.stations (butStations_raise t st n)

theorem Moves.raiseAll (h : Moves sc s t) (ns : List Outgoing) : Moves sc s (t.raiseAll ns) :=
  h.stations (butStations_raiseAll t ns)

theorem Moves.countHold (h : Moves sc s t) (st : Station) (f : Nat → Nat) : Moves sc s (t.countHold st f) :=
  h.stations (butStations_countHold t st f)

theorem Moves.setBasket (h : Moves sc s t) (b : BasketId) (v : Basket) : Moves sc s (t.setBasket b v) := h.around rfl

/-- A chain of moves of each element of a list. -/
theorem Moves.foldl {α : Type} {f : State → α → State} (h : Moves sc s t) (l : List α)
    (hf : ∀ t, ∀ x ∈ l, Moves sc s t → Moves sc s (f t x)) : Moves sc s (l.foldl f t) := by
  induction l generalizing t with
  | nil => exact h
  | cons x l ih => exact ih (hf t x (.head _) h) fun t y hy => hf t y (.tail _ hy)

/-! ## Updates of an entry that no law on plans, measuring or dispatch reads -/

/-- What a note on a story leaves: its phase, revision, marker, placement and depth status; its depth stays in range. -/
structure Noted (v w : Story) : Prop where
  phase : w.phase = v.phase
  revision : w.revision = v.revision
  closing : w.closing = v.closing
  placement : w.placement = v.placement
  status : w.depth.status = v.depth.status
  range : DepthRange v.depth → DepthRange w.depth

theorem Moves.note (h : Moves sc s t) (k : StoryId) (v : Story) (hv : Noted (t.story k) v) : Moves sc s (t.setStory k v) :=
  h.move (.story k v ⟨hv.phase, hv.revision⟩ (.inr hv.closing) (.inr hv.placement) (.inr hv.status) hv.range)

theorem Moves.gainHold (h : Moves sc s t) (k : StoryId) (st : Station) : Moves sc s (t.gainHold k st) :=
  (h.note k { t.story k with holder := some st } ⟨rfl, rfl, rfl, rfl, rfl, id⟩).countHold _ _

theorem Moves.loseHold (h : Moves sc s t) (k : StoryId) : Moves sc s (t.loseHold k) := by
  unfold State.loseHold
  split
  · exact (h.note k { t.story k with holder := none } ⟨rfl, rfl, rfl, rfl, rfl, id⟩).countHold _ _
  · exact h

theorem Moves.setViewers (h : Moves sc s t) (k : StoryId) (vs : List Viewer) :
    Moves sc s (t.setStory k { t.story k with viewers := vs }) := h.note k _ ⟨rfl, rfl, rfl, rfl, rfl, id⟩

theorem Moves.dropViewer (h : Moves sc s t) (k : StoryId) (u : TerminalId) : Moves sc s (t.dropViewer k u) :=
  h.setViewers k _

theorem Moves.dropViewerOf (h : Moves sc s t) (k : StoryId) (st : Station) : Moves sc s (t.dropViewerOf k st) := by
  cases st
  · exact h.dropViewer k _
  · exact h

theorem Moves.emptyViewers (h : Moves sc s t) (k : StoryId) : Moves sc s (t.emptyViewers k) :=
  h.setViewers k _

theorem Moves.viewBy (h : Moves sc s t) (st : Station) (k : StoryId) : Moves sc s (t.viewBy st k) := by
  cases st with
  | system => exact h
  | terminal u =>
    unfold State.viewBy
    dsimp only
    split
    · exact (h.setViewers k _).raiseAll _
    · exact h

theorem Moves.markViewers (h : Moves sc s t) (k : StoryId) (st : Station) : Moves sc s (t.markViewers k st) :=
  (h.setViewers k _).raiseAll _

theorem Moves.file (h : Moves sc s t) (k : StoryId) (b : BasketId) (p : Priority) : Moves sc s (t.file k b p) :=
  (h.setBasket b _).note k _ ⟨rfl, rfl, rfl, rfl, rfl, id⟩

theorem Moves.unfile (h : Moves sc s t) (k : StoryId) : Moves sc s (t.unfile k) := by
  unfold State.unfile
  split
  · exact (h.setBasket _ _).note k _ ⟨rfl, rfl, rfl, rfl, rfl, id⟩
  · exact h

theorem Moves.routeIn (h : Moves sc s t) (st : Station) (k : StoryId) (b : BasketId) (p : Priority) :
    Moves sc s (t.routeIn st k b p) := by
  unfold State.routeIn
  split
  · split
    · exact h
    · exact (h.unfile k).file k b p
  · exact ((h.unfile k).file k b p).raiseAll _

theorem Moves.evaluateOverset (h : Moves sc s t) (k : StoryId) (c : Option Station) : Moves sc s (t.evaluateOverset k c) := by
  have hn := h.note k { t.story k with depth := { (t.story k).depth with overset := t.oversetNow k } }
    ⟨rfl, rfl, rfl, rfl, rfl, id⟩
  unfold State.evaluateOverset
  dsimp only
  split
  · exact hn
  · exact hn.raiseAll _

theorem Moves.allowanceChanged (h : Moves sc s t) (k : StoryId) (st : Station) : Moves sc s (t.allowanceChanged k st) := by
  unfold State.allowanceChanged
  split
  · exact h.evaluateOverset k _
  · exact h

/-! ## Updates of pages and of the link -/

/-- A page whose state keeps its kind and whose slots keep their stories. -/
theorem Moves.terms (h : Moves sc s t) (p : PageId) (v : Page) (kind : pageKind v.state = pageKind (t.page p).state)
    (slots : ∀ n : SlotId, (v.slots[n.val]).map Slot.story = ((t.page p).slots[n.val]).map Slot.story)
    (range : PageRange (t.page p) → PageRange v) : Moves sc s (t.setPage p v) :=
  h.move (.page p v (.inr kind) (.inr slots) fun hp _ => range hp)

theorem Moves.sameKind (h : Moves sc s t) (p : PageId) (x : PageState) (kind : pageKind x = pageKind (t.page p).state) :
    Moves sc s (t.setPageState p x) := h.terms p _ kind (fun _ => rfl) id

theorem Moves.reopenPage (h : Moves sc s t) (k : StoryId) : Moves sc s (t.reopenPage k) := by
  unfold State.reopenPage
  split
  · split
    · exact (h.sameKind _ _ (by simp [pageKind, *])).raise _ _
    · exact h.sameKind _ _ (by simp [pageKind, *])
    · exact h
  · exact h

theorem Moves.sameLink (h : Moves sc s t) (l : Link) (same : l.state = t.link.state)
    (range : LinkRange t.link → LinkRange l) : Moves sc s (t.setLink l) := h.move (.link l (.inr same) range)

/-! ## Measuring -/

section Measures

variable (hm : sc.measures)
include hm

theorem Moves.setMeasure (h : Moves sc s t) (m : MeasureUnit) (range : MeasureRange t.measure → MeasureRange m) :
    Moves sc s { t with measure := m } := h.move (.measure m (.inl hm) range)

theorem Moves.setQueue (h : Moves sc s t) (q : List StoryId) : Moves sc s (t.setQueue q) := h.setMeasure hm _ id

theorem Moves.setEngine (h : Moves sc s t) (e : Engine) : Moves sc s (t.setEngine e) := h.setMeasure hm _ id

/-- A depth record in range. -/
theorem Moves.setDepth (h : Moves sc s t) (k : StoryId) (d : DepthRecord)
    (range : DepthRange (t.story k).depth → DepthRange d) : Moves sc s (t.setStory k { t.story k with depth := d }) :=
  h.move (.story k _ ⟨rfl, rfl⟩ (.inr rfl) (.inr rfl) (.inl hm) range)

theorem Moves.setStatus (h : Moves sc s t) (k : StoryId) (x : DepthStatus) : Moves sc s (t.setStatus k x) :=
  h.setDepth hm k _ id

theorem Moves.endFontWait (h : Moves sc s t) : Moves sc s t.endFontWait :=
  h.setMeasure hm _ fun ⟨hf, hs, _⟩ => ⟨hf, hs, fun _ h => by cases h⟩

theorem Moves.leaveMeasuring (h : Moves sc s t) : Moves sc s t.leaveMeasuring := by
  unfold State.leaveMeasuring
  split
  · exact h.setMeasure hm _ fun ⟨hf, hs, _⟩ => ⟨hf, hs, fun n h => (Option.some.inj h).symm⟩
  · exact h.setEngine hm _

theorem Moves.abandonPass (h : Moves sc s t) (k : StoryId) : Moves sc s (t.abandonPass k) := by
  unfold State.abandonPass
  split
  · exact h.leaveMeasuring hm
  · exact h

theorem Moves.queueStale (h : Moves sc s t) (k : StoryId) : Moves sc s (t.queueStale k) :=
  (h.setStatus hm k _).setQueue hm _

theorem Moves.stale (h : Moves sc s t) (k : StoryId) : Moves sc s (t.stale k) := by
  unfold State.stale
  split
  · exact h
  · exact h
  · exact h.queueStale hm k
  · exact h.queueStale hm k
  · exact (h.abandonPass hm k).queueStale hm k

theorem Moves.takePass (h : Moves sc s t) : Moves sc s t.takePass := by
  unfold State.takePass
  split
  · exact ((h.setQueue hm _).setStatus hm _ _).setEngine hm _
  · exact h

theorem Moves.measureBlock (h : Moves sc s t) : Moves sc s t.measureBlock := by
  unfold State.measureBlock
  split
  · split
    · exact h
    · exact h.setEngine hm _
  · exact h

theorem Moves.postDepth (h : Moves sc s t) (k : StoryId) (r : Breaker) : Moves sc s (t.postDepth k r) :=
  h.setDepth hm k _ fun _ => ⟨Nat.min_le_right _ _, Nat.min_le_right _ _⟩

end Measures

/-! ## The dispatch engine -/

section Dispatching

variable (he : sc.engine)
include he

theorem Moves.setDispatch (h : Moves sc s t) (d : DispatchUnit)
    (range : EditionRange t.pages.edition → DispatchRange t.dispatch → DispatchRange d) :
    Moves sc s { t with dispatch := d } := h.move (.dispatch d (.inl he) range)

theorem Moves.setDispatchEngine (h : Moves sc s t) (e : DispatchEngine) (range : SumsRange t.dispatch.engine → SumsRange e) :
    Moves sc s (t.setDispatchEngine e) :=
  h.setDispatch he _ fun _ ⟨hq, hs, hw, ht⟩ => ⟨hq, range hs, hw, ht⟩

/-- The dispatch engine enters a state with no send in progress. -/
theorem Moves.noSend (h : Moves sc s t) (e : DispatchEngine) (hn : ∀ x, e ≠ .sending x) :
    Moves sc s (t.setDispatchEngine e) := h.setDispatchEngine he e fun _ x hx => absurd hx (hn x)

theorem Moves.stopHoldTimer (h : Moves sc s t) : Moves sc s (t.setHoldTimer none) :=
  h.setDispatch he _ fun _ ⟨hq, hs, hw, _⟩ => ⟨hq, hs, hw, fun _ h => by cases h⟩

theorem Moves.startHoldTimer (h : Moves sc s t) : Moves sc s (t.setHoldTimer (some (t.dispatch.holdWait * 1000))) :=
  h.setDispatch he _ fun _ ⟨hq, hs, hw, _⟩ =>
    ⟨hq, hs, hw, fun n hn => ⟨_, hw.1, hw.2, by rw [← Option.some.inj hn, Nat.mul_comm]⟩⟩

theorem Moves.leaveQueue (h : Moves sc s t) (p : PageId) : Moves sc s (t.leaveQueue p) :=
  h.setDispatch he _ fun _ ⟨hq, hs, hw, ht⟩ => ⟨fun e he => hq e (List.mem_of_mem_filter he), hs, hw, ht⟩

theorem Moves.setWanted (h : Moves sc s t) (w : Vector (Option Station) 12) :
    Moves sc s { t with dispatch := { t.dispatch with wanted := w } } := h.setDispatch he _ fun _ h => h

theorem Moves.setClosing (h : Moves sc s t) (k : StoryId) (b : Bool) : Moves sc s (t.setClosing k b) :=
  h.move (.story k _ ⟨rfl, rfl⟩ (.inl he) (.inr rfl) (.inr rfl) id)

theorem Moves.markClosing (h : Moves sc s t) (p : PageId) (b : Bool) : Moves sc s (t.markClosing p b) :=
  h.foldl _ fun _ k _ ht => ht.setClosing he k b

/-- A page's state, last result and edition sent, which is as it was or the stamp of a queued page. -/
theorem Moves.setPageRest (h : Moves sc s t) (p : PageId) (x : PageState) (r : LastResult) (n : Nat)
    (hn : n = (t.page p).editionSent ∨ ∃ e ∈ t.dispatch.queue, n = e.stamp) :
    Moves sc s (t.setPage p { t.page p with state := x, lastResult := r, editionSent := n }) :=
  h.move (.page p _ (.inl he) (.inr fun _ => rfl) fun ⟨hg, hs, hsent⟩ ⟨hq, _⟩ => ⟨hg, hs, by
    rcases hn with rfl | ⟨e, hmem, rfl⟩
    · exact hsent
    · exact (hq e hmem).2⟩)

theorem Moves.setPageState (h : Moves sc s t) (p : PageId) (x : PageState) : Moves sc s (t.setPageState p x) :=
  h.setPageRest he p x _ _ (.inl rfl)

theorem Moves.setLink (h : Moves sc s t) (l : Link) (range : LinkRange t.link → LinkRange l) : Moves sc s (t.setLink l) :=
  h.move (.link l (.inl he) range)

omit he in
theorem linkRange_handFrame {l : Link} (h : LinkRange l) (f : Frame) : LinkRange (handFrame l f) := by
  rw [handFrame_eq]
  exact ⟨h.largest, h.agreed, h.recorded, h.training, h.reply, h.wait, h.gap⟩

omit he in
theorem linkRange_settle {l : Link} (h : LinkRange l) : LinkRange (settle l) :=
  ⟨h.largest, h.agreed, h.recorded, h.training, fun _ h => by simp [settle] at h, h.wait, h.gap⟩

omit he in
theorem linkRange_clearWait {l : Link} (h : LinkRange l) : LinkRange (clearWait l) :=
  ⟨h.largest, h.agreed, h.recorded, h.training, h.reply, fun _ h => by simp [clearWait] at h, h.gap⟩

omit he in
theorem linkRange_transmit {l : Link} (h : LinkRange l) (x : Transmission) : LinkRange (transmit l x) :=
  ⟨h.largest, h.agreed, h.recorded, h.training, h.reply, h.wait, h.gap⟩

theorem Moves.handOver (h : Moves sc s t) (f : Frame) : Moves sc s (t.handOver f) :=
  h.setLink he _ fun h => linkRange_handFrame h f

theorem Moves.failRecord (h : Moves sc s t) (e : Queued) (f : Failing) : Moves sc s (t.failRecord e f) := by
  have h1 : Moves sc s (if isWaiting (t.page e.page).state || isSending (t.page e.page).state then
      t.markClosing e.page false else t) := by
    split
    · exact h.markClosing he _ _
    · exact h
  unfold State.failRecord
  dsimp only
  generalize (if isWaiting (t.page e.page).state || isSending (t.page e.page).state then
    t.markClosing e.page false else t) = t1 at h1 ⊢
  have h2 : Moves sc s (if isWaiting (t.page e.page).state then t1.setHoldTimer none else t1) := by
    split
    · exact h1.stopHoldTimer he
    · exact h1
  exact ((h2.setPageRest he e.page _ _ _ (.inl rfl)).raise _ _).leaveQueue he _

theorem Moves.failEngine (h : Moves sc s t) (p : PageId) (a b : Bool) : Moves sc s (t.failEngine p a b) := by
  unfold State.failEngine
  split
  · exact (h.noSend he .aborting (by simp)).setLink he _ fun hl =>
      linkRange_handFrame (linkRange_clearWait (linkRange_settle hl)) _
  · split
    · exact h.noSend he .idle (by simp)
    · exact h

theorem Moves.failPage (h : Moves sc s t) (e : Queued) (f : Failing) : Moves sc s (t.failPage e f) :=
  (h.failRecord he e f).failEngine he _ _ _

theorem Moves.wantHold (h : Moves sc s t) (e : Queued) (ns : SlotId × Slot) : Moves sc s (t.wantHold e ns) := by
  unfold State.wantHold
  split
  · split
    · exact h
    · exact (h.setWanted he _).raise _ _
  · exact h

theorem Moves.enterWaiting (h : Moves sc s t) (e : Queued) : Moves sc s (t.enterWaiting e) := by
  have h1 := ((((h.setPageState he e.page (.waiting (restingOf (t.page e.page).state))).noSend he .waiting
    (by simp)).markClosing he e.page true).startHoldTimer he).move (.promote e.page he)
  exact h1.foldl _ fun _ ns _ ht => ht.wantHold he e ns

theorem Moves.enterSending (h : Moves sc s t) (e : Queued) : Moves sc s (t.enterSending e) := by
  unfold State.enterSending
  split
  · refine Moves.handOver he (Moves.stopHoldTimer he ?_) _
    exact (h.setPageState he _ _).setDispatchEngine he _ fun _ x hx => by cases hx; simp
  · exact h

theorem Moves.advanceUpTo (n : Nat) (h : Moves sc s t) : Moves sc s (State.advanceUpTo n t) := by
  induction n generalizing t with
  | zero => exact h
  | succ n ih =>
    unfold State.advanceUpTo
    split
    · split
      · dsimp only
        split
        · exact ih ((h.enterWaiting he _).failPage he _ _)
        · exact h.enterWaiting he _
        · exact (h.enterWaiting he _).enterSending he _
      · exact h
    · exact h

theorem Moves.advance (h : Moves sc s t) : Moves sc s t.advance := Moves.advanceUpTo he _ h

theorem Moves.fail (h : Moves sc s t) (e : Queued) (f : Failing) : Moves sc s (t.fail e f) :=
  (h.failPage he e f).advance he

theorem Moves.evaluate (h : Moves sc s t) : Moves sc s t.evaluate := by
  unfold State.evaluate
  split
  · split
    · exact h.fail he _ _
    · exact h
    · exact h.enterSending he _
  · exact h

theorem Moves.handEvent (h : Moves sc s t) (k : StoryId) : Moves sc s (t.handEvent k) := by
  unfold State.handEvent
  split
  · exact h.evaluate he
  · exact h

theorem Moves.failSend (h : Moves sc s t) (c : Cause) : Moves sc s (t.failSend c) := by
  unfold State.failSend
  split
  · exact h.fail he _ _
  · exact h

theorem Moves.abortEnd (h : Moves sc s t) : Moves sc s t.abortEnd := by
  unfold State.abortEnd
  split
  · exact (h.noSend he .idle (by simp)).advance he
  · exact h

theorem Moves.returnToQueued (h : Moves sc s t) : Moves sc s t.returnToQueued := by
  unfold State.returnToQueued
  split
  · exact (((h.setPageState he _ _).markClosing he _ _).stopHoldTimer he).noSend he .idle (by simp)
  · exact h

theorem Moves.linkLost (h : Moves sc s t) : Moves sc s t.linkLost := by
  unfold State.linkLost
  split
  · exact h.failSend he _
  · exact h.returnToQueued he
  · exact h.abortEnd he
  · exact h

omit he in
/-- The sums over more bytes stay in range. -/
theorem checkFrom_range (xs : List Byte) : ∀ ab : Nat × Nat, ab.1 ≤ 254 ∧ ab.2 ≤ 254 →
    (checkFrom ab xs).1 ≤ 254 ∧ (checkFrom ab xs).2 ≤ 254 := by
  induction xs with
  | nil => exact fun _ h => h
  | cons x xs ih => exact fun ab _ => ih (checkByte ab x) (by simp only [checkByte]; omega)

/-- A send goes on with sums in range. -/
theorem Moves.setSend (h : Moves sc s t) (x : SendState) (hx : SumsRange t.dispatch.engine → x.a ≤ 254 ∧ x.b ≤ 254) :
    Moves sc s (t.setSend x) := h.setDispatchEngine he _ fun hs y hy => by cases hy; exact hx hs

theorem Moves.handText (h : Moves sc s t) (x : SendState) (n : Nat)
    (hx : SumsRange t.dispatch.engine → x.a ≤ 254 ∧ x.b ≤ 254) : Moves sc s (t.handText x n) :=
  (h.setSend he _ fun hs => checkFrom_range _ (x.a, x.b) (hx hs)).handOver he _

theorem Moves.pumpText (h : Moves sc s t) (x : SendState)
    (hx : SumsRange t.dispatch.engine → x.a ≤ 254 ∧ x.b ≤ 254) : Moves sc s (t.pumpText x) := by
  unfold State.pumpText
  split
  · exact h.handText he x _ hx
  · split
    · split
      · exact (h.setSend he { x with stage := .slotEnd } hx).handOver he _
      · exact h.handText he x _ hx
    · exact h.setSend he _ hx

theorem Moves.handSlot (h : Moves sc s t) (p : PageId) (x : SendState) (n : SlotId)
    (hx : SumsRange t.dispatch.engine → x.a ≤ 254 ∧ x.b ≤ 254) : Moves sc s (t.handSlot p x n) := by
  unfold State.handSlot
  split
  · exact (h.setSend he { x with slot := n, stage := .slot, reader := _ } hx).handOver he _
  · exact h

theorem Moves.sendTextRead (h : Moves sc s t) (f : Bool) : Moves sc s (t.sendTextRead f) := by
  unfold State.sendTextRead
  split
  · rename_i x _ hx
    split
    · exact h
    · split
      · split
        · exact h.fail he _ _
        · dsimp only
          split
          · exact h.pumpText he _ fun hs => hs x hx
          · exact h.setSend he _ fun hs => hs x hx
      · exact h
  · exact h

theorem Moves.holdWaitExpiry (h : Moves sc s t) : Moves sc s t.holdWaitExpiry := by
  unfold State.holdWaitExpiry
  split
  · exact h.fail he _ _
  · exact h

theorem Moves.cancelPage (h : Moves sc s t) (p : PageId) (st : Station) : Moves sc s (t.cancelPage p st) := by
  unfold State.cancelPage
  split
  · exact h.fail he _ _
  · exact h

theorem Moves.queuePage (h : Moves sc s t) (p : PageId) (r : Resting) : Moves sc s (t.queuePage p r) := by
  refine Moves.advance he ((h.setPageState he p (.queued r)).setDispatch he _ fun hed ⟨hq, hs, hw, ht⟩ => ⟨?_, hs, hw, ht⟩)
  intro e hmem
  rcases List.mem_append.1 hmem with hmem | hmem
  · exact hq e hmem
  · rw [List.mem_singleton.1 hmem]
    exact hed

theorem Moves.completePage (h : Moves sc s t) (e : Queued) (ks : List StoryId) (hks : sc.phases = .freeze ks)
    (hp : ∀ k ∈ t.pageStories e.page, k ∈ ks) (hq : e ∈ t.dispatch.queue) : Moves sc s (t.completePage e) := by
  have h1 : Moves sc s ((t.pageStories e.page).foldl State.freeze t) :=
    h.foldl _ fun _ k hk ht => ht.move (.freeze k ks hks (hp k hk) he)
  have hd : ((t.pageStories e.page).foldl State.freeze t).dispatch = t.dispatch :=
    foldl_keeps State.dispatch State.freeze (fun _ _ => rfl) _ _
  exact (((h1.setPageRest he e.page (.resting .sent) .sent e.stamp (.inr ⟨e, hd ▸ hq, rfl⟩)).raise _ _).leaveQueue he
    _).noSend he .idle (by simp)

end Dispatching

/-- The stories that the next frame of a send freezes: those of the head page once PAGE-END is done (R145). -/
def freezing (s : State) : List StoryId :=
  match s.dispatch.queue, s.dispatch.engine with
  | e :: _, .sending x => if x.stage = .pageEnd then s.pageStories e.page else []
  | _, _ => []

theorem mem_freezing {k : StoryId} : k ∈ freezing s ↔
    ∃ e x, s.dispatch.queue.head? = some e ∧ s.dispatch.engine = .sending x ∧ x.stage = .pageEnd ∧
      k ∈ s.pageStories e.page := by
  unfold freezing
  split
  · rename_i e q x hq hx
    by_cases hs : x.stage = .pageEnd <;> simp [hq, hx, hs]
  · rename_i hn
    simp only [List.not_mem_nil, false_iff]
    rintro ⟨e, x, hq, hx, -⟩
    obtain ⟨q, hq⟩ := List.head?_eq_some_iff.1 hq
    exact hn _ _ _ hq hx

theorem Moves.nextFrame (he : sc.engine) (h : Moves sc s t) (hks : sc.phases = .freeze (freezing t)) :
    Moves sc s t.nextFrame := by
  unfold State.nextFrame
  split
  · rename_i e q x hq hx
    have hsum : SumsRange t.dispatch.engine → x.a ≤ 254 ∧ x.b ≤ 254 := fun hs => hs x hx
    split
    · exact h.handSlot he _ _ _ hsum
    · exact h.pumpText he _ hsum
    · exact h.pumpText he _ hsum
    · split
      · exact h.handSlot he _ _ _ hsum
      · exact (h.setSend he { x with stage := .pageEnd } hsum).handOver he _
    · rename_i hstage
      refine Moves.advance he (h.completePage he e _ hks (fun k hk => ?_) (hq ▸ .head _))
      exact mem_freezing.2 ⟨e, x, by rw [hq]; rfl, hx, hstage, hk⟩
  · exact h

end Sys2Proof.Machine
end


section
/-! PROOFS. The dispatch engine keeps its law (R131, R135): what each of its operations does to the queue, the engine, the kinds of
the pages and the closing markers, and the core of the law after it. -/

namespace Sys2Proof.Machine

open Safety

variable {s t u : State}

/-! ## What operations leave, field by field -/

@[simp] theorem raise_stories (s : State) (st : Station) (n : Notice) : (s.raise st n).stories = s.stories :=
  (inner_fields (inner_of_butStations (butStations_raise s st n))).1
@[simp] theorem raise_measure (s : State) (st : Station) (n : Notice) : (s.raise st n).measure = s.measure :=
  (inner_fields (inner_of_butStations (butStations_raise s st n))).2.1
@[simp] theorem raise_pages (s : State) (st : Station) (n : Notice) : (s.raise st n).pages = s.pages :=
  (inner_fields (inner_of_butStations (butStations_raise s st n))).2.2.1
@[simp] theorem raise_dispatch (s : State) (st : Station) (n : Notice) : (s.raise st n).dispatch = s.dispatch :=
  (inner_fields (inner_of_butStations (butStations_raise s st n))).2.2.2.1
@[simp] theorem raise_link (s : State) (st : Station) (n : Notice) : (s.raise st n).link = s.link :=
  (inner_fields (inner_of_butStations (butStations_raise s st n))).2.2.2.2
@[simp] theorem story_raise (s : State) (st : Station) (n : Notice) (k : StoryId) : (s.raise st n).story k = s.story k :=
  story_of_inner (inner_of_butStations (butStations_raise s st n)) k
@[simp] theorem page_raise (s : State) (st : Station) (n : Notice) (p : PageId) : (s.raise st n).page p = s.page p :=
  page_of_inner (inner_of_butStations (butStations_raise s st n)) p

@[simp] theorem markClosing_pages (s : State) (p : PageId) (b : Bool) : (s.markClosing p b).pages = s.pages := by
  rw [markClosing_frame]
@[simp] theorem markClosing_dispatch (s : State) (p : PageId) (b : Bool) : (s.markClosing p b).dispatch = s.dispatch := by
  rw [markClosing_frame]
@[simp] theorem markClosing_link (s : State) (p : PageId) (b : Bool) : (s.markClosing p b).link = s.link := by
  rw [markClosing_frame]
@[simp] theorem markClosing_measure (s : State) (p : PageId) (b : Bool) : (s.markClosing p b).measure = s.measure := by
  rw [markClosing_frame]
@[simp] theorem page_markClosing (s : State) (p : PageId) (b : Bool) (q : PageId) :
    (s.markClosing p b).page q = s.page q := by simp [State.page]

@[simp] theorem story_promote (s : State) (p : PageId) (k : StoryId) : (s.promote p).story k = s.story k := rfl
@[simp] theorem page_promote (s : State) (p q : PageId) : (s.promote p).page q = s.page q := rfl
@[simp] theorem promote_dispatch (s : State) (p : PageId) : (s.promote p).dispatch = s.dispatch := rfl
@[simp] theorem promote_link (s : State) (p : PageId) : (s.promote p).link = s.link := rfl

@[simp] theorem leaveQueue_link (s : State) (p : PageId) : (s.leaveQueue p).link = s.link := rfl
@[simp] theorem story_leaveQueue (s : State) (p : PageId) (k : StoryId) : (s.leaveQueue p).story k = s.story k := rfl
@[simp] theorem page_leaveQueue (s : State) (p q : PageId) : (s.leaveQueue p).page q = s.page q := rfl

theorem page_setPageState (s : State) (p q : PageId) (x : PageState) :
    (s.setPageState p x).page q = if q = p then { s.page p with state := x } else s.page q := page_setPage _ _ _ _

theorem story_freeze (s : State) (j k : StoryId) : (s.freeze j).story k =
    if k = j then
      { s.story j with phase := if (s.story j).phase = .live then .frozen else (s.story j).phase, closing := false }
    else s.story k := story_setStory _ _ _ _

/-! ## The head of the queue -/

theorem pageKind_le (x : PageState) : pageKind x ≤ 3 := by cases x <;> simp [pageKind]

@[simp] theorem pageKind_resting (r : Resting) : pageKind (.resting r) = 0 := rfl
@[simp] theorem pageKind_queued (r : Resting) : pageKind (.queued r) = 1 := rfl
@[simp] theorem pageKind_waiting (r : Resting) : pageKind (.waiting r) = 2 := rfl
@[simp] theorem pageKind_sending (r : Resting) : pageKind (.sending r) = 3 := rfl

/-- Only the head of the queue is WAITING or SENDING. -/
theorem DispatchCore.head_of_busy (h : DispatchCore s) {p : PageId}
    (hp : pageKind (s.page p).state = 2 ∨ pageKind (s.page p).state = 3) :
    s.dispatch.queue.head?.map Queued.page = some p := by
  have hm := (h.queued p).2 (by omega)
  have ht := h.tail
  cases hq : s.dispatch.queue with
  | nil => simp [hq] at hm
  | cons a q =>
    rw [hq] at hm ht
    rcases List.mem_cons.1 hm with rfl | hm
    · rfl
    · obtain ⟨e, he, rfl⟩ := List.mem_map.1 hm
      have := ht e he
      omega

/-- A page that leaves the queue leaves the core of the law, when its stories stop closing, and with the head the engine is no
longer WAITING or SENDING. -/
theorem DispatchCore.remove (h : DispatchCore s) (p : PageId)
    (hq : t.dispatch.queue = s.dispatch.queue.filter fun e => e.page != p)
    (hk : ∀ q, pageKind (t.page q).state = if q = p then 0 else pageKind (s.page q).state)
    (hpl : ∀ k, (t.story k).placement = (s.story k).placement)
    (hcl : ∀ k, (t.story k).closing = true ↔ (s.story k).closing = true ∧ ∀ n, (s.story k).placement ≠ some (p, n))
    (hhead : s.dispatch.queue.head?.map Queued.page = some p →
      t.dispatch.engine ≠ .waiting ∧ (∀ x, t.dispatch.engine ≠ .sending x) ∧ t.dispatch.holdWaitTimer = none)
    (hrest : s.dispatch.queue.head?.map Queued.page ≠ some p →
      t.dispatch.engine = s.dispatch.engine ∧ t.dispatch.holdWaitTimer = s.dispatch.holdWaitTimer) :
    DispatchCore t := by
  have hclosing : ∀ k, (t.story k).closing = true ↔ ∃ q n, (t.story k).placement = some (q, n) ∧
      (pageKind (t.page q).state = 2 ∨ pageKind (t.page q).state = 3) := by
    intro k
    rw [hcl, h.closing, hpl]
    constructor
    · rintro ⟨⟨q, n, hpn, hb⟩, hne⟩
      have hqp : q ≠ p := fun hqp => hne n (hqp ▸ hpn)
      exact ⟨q, n, hpn, by simpa [hk, hqp] using hb⟩
    · rintro ⟨q, n, hpn, hb⟩
      have hqp : q ≠ p := fun hqp => by simp [hk, hqp] at hb
      exact ⟨⟨q, n, hpn, by simpa [hk, hqp] using hb⟩, fun m hm => hqp (by simp [hpn] at hm; exact hm.1)⟩
  have hqueued : ∀ q, q ∈ t.dispatch.queue.map Queued.page ↔ pageKind (t.page q).state ≠ 0 := by
    intro q
    have := h.queued q
    rw [hq, hk]
    simp only [List.mem_map, List.mem_filter, bne_iff_ne] at this ⊢
    by_cases hqp : q = p
    · simp only [hqp, if_true, ne_eq, not_true, iff_false]
      rintro ⟨e, ⟨-, hne⟩, he⟩
      exact hne he
    · simp only [hqp, if_false, ← this]
      exact ⟨fun ⟨e, ⟨he, _⟩, heq⟩ => ⟨e, he, heq⟩, fun ⟨e, he, heq⟩ => ⟨e, ⟨he, heq ▸ hqp⟩, heq⟩⟩
  have honce : (t.dispatch.queue.map Queued.page).Nodup := by
    rw [hq]; exact h.once.sublist (List.filter_sublist.map _)
  cases hs : s.dispatch.queue with
  | nil =>
    obtain ⟨h1, h2⟩ := hrest (by simp [hs])
    have hw := h.waiting
    have hsend := h.sending
    have ht := h.timer
    rw [hs] at hq hw hsend ht
    refine ⟨honce, hqueued, by simp [hq], ?_, ?_, ?_, hclosing⟩
    · rw [h1, hw]; simp [hq]
    · rw [h1, hsend]; simp [hq]
    · rw [h2, ht]; simp [hq]
  | cons a rest =>
    have htail : ∀ e ∈ rest, pageKind (s.page e.page).state = 1 := fun e he => h.tail e (by rw [hs]; exact he)
    have hkept : ∀ e ∈ t.dispatch.queue, e.page ≠ p := fun e he => by
      rw [hq] at he; simpa using (List.mem_filter.1 he).2
    have hafter : ∀ e ∈ rest.filter (fun e => e.page != p), pageKind (t.page e.page).state = 1 := fun e he => by
      obtain ⟨hmem, hne⟩ := List.mem_filter.1 he
      rw [hk, if_neg (by simpa using hne)]
      exact htail e hmem
    rw [hs, List.filter_cons] at hq
    by_cases ha : a.page = p
    · obtain ⟨h1, h2, h3⟩ := hhead (by simp [hs, ha])
      simp only [ha, bne_self_eq_false, Bool.false_eq_true, if_false] at hq
      have hnone : ∀ m, m ≠ 1 → ¬ ∃ e, t.dispatch.queue.head? = some e ∧ pageKind (t.page e.page).state = m := by
        rintro m hm ⟨e, he, hke⟩
        have := hafter e (hq ▸ List.mem_of_mem_head? he)
        omega
      exact ⟨honce, hqueued, fun e he => hafter e (hq ▸ List.mem_of_mem_tail he), iff_of_false h1 (hnone 2 (by omega)),
        iff_of_false (fun ⟨x, hx⟩ => h2 x hx) (hnone 3 (by omega)), iff_of_false (by simp [h3]) (hnone 2 (by omega)),
        hclosing⟩
    · obtain ⟨h1, h2⟩ := hrest (by simp [hs, ha])
      simp only [bne_iff_ne, ne_eq, ha, not_false_iff, if_true] at hq
      have hsame : ∀ m, (∃ e, t.dispatch.queue.head? = some e ∧ pageKind (t.page e.page).state = m) ↔
          ∃ e, s.dispatch.queue.head? = some e ∧ pageKind (s.page e.page).state = m := fun m => by
        simp [hq, hs, hk, ha]
      refine ⟨honce, hqueued, fun e he => hafter e (by rw [hq] at he; exact he), ?_, ?_, ?_, hclosing⟩
      · rw [h1, h.waiting, hsame]
      · rw [h1, h.sending, hsame]
      · rw [h2, h.timer, hsame]

/-- The head page changes between QUEUED, WAITING and SENDING, and the engine, the timer and the closing markers with it. -/
theorem DispatchCore.rehead (h : DispatchCore s) (e : Queued) (m : Nat) (he : s.dispatch.queue.head? = some e)
    (hm : m ≠ 0) (hq : t.dispatch.queue = s.dispatch.queue)
    (hk : ∀ q, pageKind (t.page q).state = if q = e.page then m else pageKind (s.page q).state)
    (hpl : ∀ k, (t.story k).placement = (s.story k).placement)
    (hcl : ∀ k, (t.story k).closing = true ↔ (m = 2 ∨ m = 3) ∧ ∃ n, (s.story k).placement = some (e.page, n))
    (hw : t.dispatch.engine = .waiting ↔ m = 2) (hs : (∃ x, t.dispatch.engine = .sending x) ↔ m = 3)
    (ht : t.dispatch.holdWaitTimer.isSome = true ↔ m = 2) : DispatchCore t := by
  obtain ⟨rest, hrest⟩ := List.head?_eq_some_iff.1 he
  have hnot : ∀ p, p ≠ e.page → ¬ (pageKind (s.page p).state = 2 ∨ pageKind (s.page p).state = 3) := fun p hp hb =>
    hp (by simpa [he, eq_comm] using h.head_of_busy hb)
  have hhead : ∀ j, (∃ e', t.dispatch.queue.head? = some e' ∧ pageKind (t.page e'.page).state = j) ↔ m = j := fun j => by
    simp [hq, he, hk]
  have hold : ∀ p, p = e.page → pageKind (s.page p).state ≠ 0 := fun p hp =>
    (h.queued p).1 (by simp [hrest, hp])
  refine ⟨hq ▸ h.once, fun p => ?_, fun x hx => ?_, hw.trans (hhead 2).symm, hs.trans (hhead 3).symm,
    ht.trans (hhead 2).symm, fun k => ?_⟩
  · rw [hq, h.queued, hk]
    split
    · exact iff_of_true (hold p ‹_›) hm
    · rfl
  · rw [hq] at hx
    have hne : x.page ≠ e.page := fun hxe => by
      have := h.once
      rw [hrest, List.map_cons, List.nodup_cons] at this
      rw [hrest] at hx
      exact this.1 (hxe ▸ List.mem_map_of_mem hx)
    rw [hk, if_neg hne]
    exact h.tail x hx
  · rw [hcl, hpl]
    constructor
    · rintro ⟨hb, n, hn⟩
      exact ⟨e.page, n, hn, by simpa [hk] using hb⟩
    · rintro ⟨p, n, hn, hb⟩
      by_cases hp : p = e.page
      · subst hp
        exact ⟨by simpa [hk] using hb, n, hn⟩
      · rw [hk, if_neg hp] at hb
        exact absurd hb (hnot p hp)

/-- While slots and placements agree, the stories of a page are those placed on it. -/
theorem mem_pageStories_placement (hp : PlanLaw s) (p : PageId) (k : StoryId) :
    k ∈ s.pageStories p ↔ ∃ n, (s.story k).placement = some (p, n) := by
  rw [mem_pageStories]
  constructor
  · rintro ⟨n, sl, h, rfl⟩
    exact ⟨n, hp.slot p n sl h⟩
  · rintro ⟨n, h⟩
    obtain ⟨sl, h1, h2⟩ := hp.placement k p n h
    exact ⟨n, sl, h1, h2⟩

/-! ## Failure -/

/-- What a failure leaves of the stories: their closing markers cleared if the page was WAITING or SENDING. -/
theorem failRecord_story (s : State) (e : Queued) (f : Failing) (k : StoryId) : (s.failRecord e f).story k =
    if (isWaiting (s.page e.page).state || isSending (s.page e.page).state) = true ∧ k ∈ s.pageStories e.page then
      { s.story k with closing := false } else s.story k := by
  unfold State.failRecord
  simp only [story_leaveQueue, story_raise, story_setPage]
  by_cases hw : isWaiting (s.page e.page).state = true <;> by_cases hs : isSending (s.page e.page).state = true <;>
    simp [hw, hs, markClosing_story]

/-- What a failure leaves of the pages: the one that fails is at rest, FAILED. -/
theorem failRecord_page (s : State) (e : Queued) (f : Failing) (q : PageId) : (s.failRecord e f).page q =
    if q = e.page then
      { s.page e.page with state := .resting (restingOf (s.page e.page).state), lastResult := .failed f.cause }
    else s.page q := by
  unfold State.failRecord
  simp only [page_leaveQueue, page_raise, page_setPage]
  by_cases hw : isWaiting (s.page e.page).state = true <;> by_cases hs : isSending (s.page e.page).state = true <;>
    simp [hw, hs]

/-- What a failure leaves of the dispatch unit, but for the engine: the page has left the queue, and the hold-wait timer is stopped
if it was WAITING. -/
theorem failRecord_dispatch (s : State) (e : Queued) (f : Failing) : (s.failRecord e f).dispatch =
    { s.dispatch with
      queue := s.dispatch.queue.filter fun x => x.page != e.page
      holdWaitTimer := if isWaiting (s.page e.page).state then none else s.dispatch.holdWaitTimer
      wanted := if (s.dispatch.queue.head?.map Queued.page) = some e.page then noneWanted else s.dispatch.wanted } := by
  unfold State.failRecord State.leaveQueue
  by_cases hw : isWaiting (s.page e.page).state = true <;> by_cases hs : isSending (s.page e.page).state = true <;>
    simp [hw, hs, State.setHoldTimer]

theorem failRecord_link (s : State) (e : Queued) (f : Failing) : (s.failRecord e f).link = s.link := by
  unfold State.failRecord
  by_cases hw : isWaiting (s.page e.page).state = true <;> by_cases hs : isSending (s.page e.page).state = true <;>
    simp [hw, hs]

@[simp] theorem story_failEngine (s : State) (p : PageId) (a b : Bool) (k : StoryId) :
    (s.failEngine p a b).story k = s.story k := by
  unfold State.failEngine
  split
  · rfl
  · split <;> rfl

@[simp] theorem page_failEngine (s : State) (p : PageId) (a b : Bool) (q : PageId) :
    (s.failEngine p a b).page q = s.page q := by
  unfold State.failEngine
  split
  · rfl
  · split <;> rfl

/-- What step 6 of a failure leaves of the dispatch unit: the engine ABORTING, IDLE or as it was (R146). -/
theorem failEngine_dispatch (s : State) (p : PageId) (a b : Bool) : (s.failEngine p a b).dispatch =
    { s.dispatch with
      engine :=
        if b && s.link.state == .up then .aborting
        else if a && s.dispatch.engine != .aborting then .idle else s.dispatch.engine } := by
  unfold State.failEngine
  split
  · rfl
  · split <;> rfl

@[simp] theorem failEngine_link (s : State) (p : PageId) (a b : Bool) : (s.failEngine p a b).link.state = s.link.state := by
  unfold State.failEngine
  split
  · simp only [setLink_link, handAbort_eq]
  · split <;> rfl

theorem failPage_link (s : State) (e : Queued) (f : Failing) : (s.failPage e f).link.state = s.link.state := by
  unfold State.failPage
  rw [failEngine_link, failRecord_link]

theorem failPage_queue (s : State) (e : Queued) (f : Failing) :
    (s.failPage e f).dispatch.queue = s.dispatch.queue.filter fun x => x.page != e.page := by
  unfold State.failPage
  rw [failEngine_dispatch, failRecord_dispatch]

/-- The engine after a failure. -/
theorem failPage_engine (s : State) (e : Queued) (f : Failing) : (s.failPage e f).dispatch.engine =
    if isSending (s.page e.page).state && s.link.state == .up then .aborting
    else if decide (s.dispatch.queue.head?.map Queued.page = some e.page) && s.dispatch.engine != .aborting then .idle
    else s.dispatch.engine := by
  unfold State.failPage
  simp only [failEngine_dispatch, failRecord_dispatch, failRecord_link]

theorem DispatchCore.failPage (h : DispatchCore s) (hp : PlanLaw s) (e : Queued) (f : Failing)
    (he : e ∈ s.dispatch.queue) : DispatchCore (s.failPage e f) := by
  have hbusy := h.head_of_busy (p := e.page)
  have hne0 : pageKind (s.page e.page).state ≠ 0 := (h.queued _).1 (List.mem_map_of_mem he)
  refine h.remove e.page (failPage_queue s e f) (fun q => ?_) (fun k => ?_) (fun k => ?_) (fun hh => ?_) fun hh => ?_
  · simp only [State.failPage, page_failEngine, failRecord_page]
    split <;> rfl
  · simp only [State.failPage, story_failEngine, failRecord_story]
    split <;> rfl
  · simp only [State.failPage, story_failEngine, failRecord_story, mem_pageStories_placement hp, isWaiting_eq, isSending_eq,
      Bool.or_eq_true, decide_eq_true_eq]
    by_cases hon : ∃ n, (s.story k).placement = some (e.page, n)
    · obtain ⟨n, hn⟩ := hon
      by_cases hb : pageKind (s.page e.page).state = 2 ∨ pageKind (s.page e.page).state = 3
      · simp [hb, hn]
      · simp [hb, hn, h.closing]
    · simp only [hon, and_false, if_false]
      exact ⟨fun hc => ⟨hc, fun n hn => hon ⟨n, hn⟩⟩, fun hc => hc.1⟩
  · refine ⟨?_, fun x => ?_, ?_⟩
    · rw [failPage_engine]
      split
      · simp
      · split
        · simp
        · rename_i hna
          simp only [hh, decide_true, Bool.true_and, bne_iff_ne, ne_eq, not_not] at hna
          simp [hna]
    · rw [failPage_engine]
      split
      · simp
      · split
        · simp
        · rename_i hna
          simp only [hh, decide_true, Bool.true_and, bne_iff_ne, ne_eq, not_not] at hna
          simp [hna]
    · have ht := h.timer
      simp only [State.failPage, failEngine_dispatch, failRecord_dispatch, isWaiting_eq, decide_eq_true_eq]
      split
      · rfl
      · rename_i hw
        rw [← Option.not_isSome_iff_eq_none, ht]
        rintro ⟨e', he', hk'⟩
        rw [he', Option.map_some, Option.some.injEq] at hh
        exact hw (hh ▸ hk')
  · have hk : ¬ (pageKind (s.page e.page).state = 2 ∨ pageKind (s.page e.page).state = 3) := fun hb => hh (hbusy hb)
    rw [failPage_engine]
    simp only [State.failPage, failEngine_dispatch, failRecord_dispatch, isWaiting_eq, isSending_eq]
    simp [not_or.1 hk, hh]

/-! ## The head page between QUEUED, WAITING and SENDING -/

@[simp] theorem wantHold_story (s : State) (e : Queued) (ns : SlotId × Slot) (k : StoryId) :
    (s.wantHold e ns).story k = s.story k := by
  unfold State.wantHold
  split
  · split
    · rfl
    · exact story_raise _ _ _ _
  · rfl

@[simp] theorem wantHold_page (s : State) (e : Queued) (ns : SlotId × Slot) (q : PageId) :
    (s.wantHold e ns).page q = s.page q := by
  unfold State.wantHold
  split
  · split
    · rfl
    · exact page_raise _ _ _ _
  · rfl

@[simp] theorem wantHold_link (s : State) (e : Queued) (ns : SlotId × Slot) : (s.wantHold e ns).link = s.link := by
  unfold State.wantHold
  split
  · split
    · rfl
    · simp
  · rfl

/-- HOLD-WANTED leaves the dispatch unit but for the wanted record. -/
theorem wantHold_dispatch (s : State) (e : Queued) (ns : SlotId × Slot) :
    ((s.wantHold e ns).dispatch.queue, (s.wantHold e ns).dispatch.engine, (s.wantHold e ns).dispatch.holdWaitTimer) =
      (s.dispatch.queue, s.dispatch.engine, s.dispatch.holdWaitTimer) := by
  unfold State.wantHold
  split
  · split
    · rfl
    · simp
  · rfl

theorem enterWaiting_story (s : State) (e : Queued) (k : StoryId) : (s.enterWaiting e).story k =
    if k ∈ s.pageStories e.page then { s.story k with closing := true } else s.story k := by
  have hps : ((s.setPageState e.page (.waiting (restingOf (s.page e.page).state))).setDispatchEngine
      .waiting).pageStories e.page = s.pageStories e.page := by
    simp [State.pageStories, page_setPageState, occupied]
  unfold State.enterWaiting
  rw [foldl_keeps (fun t : State => t.story k) _ fun _ _ => wantHold_story _ _ _ _]
  simp only [story_promote, story_setHoldTimer, markClosing_story, hps, story_setDispatchEngine, story_setPageState]

theorem enterWaiting_page (s : State) (e : Queued) (q : PageId) : (s.enterWaiting e).page q =
    if q = e.page then { s.page e.page with state := .waiting (restingOf (s.page e.page).state) } else s.page q := by
  unfold State.enterWaiting
  rw [foldl_keeps (fun t : State => t.page q) _ fun _ _ => wantHold_page _ _ _ _]
  simp only [page_promote, page_setHoldTimer, page_markClosing, page_setDispatchEngine, page_setPageState]

theorem enterWaiting_link (s : State) (e : Queued) : (s.enterWaiting e).link = s.link := by
  unfold State.enterWaiting
  rw [foldl_keeps State.link _ fun _ _ => wantHold_link _ _ _]
  simp

theorem enterWaiting_dispatch (s : State) (e : Queued) : (s.enterWaiting e).dispatch.queue = s.dispatch.queue ∧
    (s.enterWaiting e).dispatch.engine = .waiting ∧
    (s.enterWaiting e).dispatch.holdWaitTimer = some (s.dispatch.holdWait * 1000) := by
  have h := fun l u => foldl_keeps (fun t : State => (t.dispatch.queue, t.dispatch.engine, t.dispatch.holdWaitTimer))
    (fun t ns => t.wantHold e ns) (fun t ns => wantHold_dispatch t e ns) l u
  simp only [Prod.mk.injEq] at h
  refine ⟨(h _ _).1.trans ?_, (h _ _).2.1.trans ?_, (h _ _).2.2.trans ?_⟩ <;>
    simp [State.setHoldTimer, State.setDispatchEngine]

theorem DispatchCore.enterWaiting (h : DispatchCore s) (hp : PlanLaw s) (e : Queued)
    (he : s.dispatch.queue.head? = some e) (hk : pageKind (s.page e.page).state = 1) :
    DispatchCore (s.enterWaiting e) := by
  obtain ⟨hq, hen, ht⟩ := enterWaiting_dispatch s e
  have hnone : ∀ k, ¬ (s.story k).closing = true := fun k hc => by
    obtain ⟨p, n, -, hb⟩ := (h.closing k).1 hc
    have := h.head_of_busy hb
    rw [he, Option.map_some, Option.some.injEq] at this
    subst this
    omega
  refine h.rehead e 2 he (by omega) hq (fun q => ?_) (fun k => ?_) (fun k => ?_) (by simp [hen]) (by simp [hen])
    (by simp [ht])
  · rw [enterWaiting_page]
    split <;> rfl
  · rw [enterWaiting_story]
    split <;> rfl
  · simp only [enterWaiting_story, mem_pageStories_placement hp]
    split <;> simp_all

/-- What the entry into SENDING leaves, when the page has an occupied slot. -/
theorem enterSending_eq (s : State) (e : Queued) (n : SlotId) (sl : Slot)
    (h : (occupied (s.page e.page)).head? = some (n, sl)) : s.enterSending e =
      ((((s.setPageState e.page (.sending (restingOf (s.page e.page).state))).setSend
        { slot := n, stage := .pageBegin, reader := s.newReader sl, a := 0, b := 0 }).setHoldTimer none).handOver
          (s.pageBeginFrame e)) := by
  unfold State.enterSending
  rw [h]
  simp [State.newReader, State.pageBeginFrame, State.setSend, page_setPageState, occupied] <;> rfl

theorem DispatchCore.enterSending (h : DispatchCore s) (e : Queued) (he : s.dispatch.queue.head? = some e)
    (hk : pageKind (s.page e.page).state = 2) :
    DispatchCore (s.enterSending e) ∧ (s.enterSending e).link.state = s.link.state ∧
      (s.enterSending e).dispatch.engine ≠ .idle := by
  have hw : s.dispatch.engine = .waiting := h.waiting.2 ⟨e, he, hk⟩
  cases ho : (occupied (s.page e.page)).head? with
  | none =>
    have : s.enterSending e = s := by unfold State.enterSending; rw [ho]
    rw [this, hw]
    exact ⟨h, rfl, by simp⟩
  | some ns =>
    obtain ⟨n, sl⟩ := ns
    rw [enterSending_eq s e n sl ho]
    refine ⟨h.rehead e 3 he (by omega) rfl (fun q => ?_) (fun _ => rfl) (fun k => ?_) ?_ ?_ ?_, ?_, ?_⟩
    · show pageKind ((s.setPageState _ _).page q).state = _
      rw [page_setPageState]
      split <;> rfl
    · refine (h.closing k).trans ⟨fun ⟨p, m, hpl, hb⟩ => ⟨by simp, m, ?_⟩, fun ⟨_, m, hpl⟩ => ⟨_, m, hpl, .inl hk⟩⟩
      have := h.head_of_busy hb
      rw [he, Option.map_some, Option.some.injEq] at this
      rw [hpl, this]
    all_goals simp [State.handOver, State.setHoldTimer, State.setSend, State.setDispatchEngine, handFrame_eq]

/-! ## The advance of the queue -/

/-- The kind of the head page while the engine is IDLE. -/
theorem DispatchCore.head_kind (h : DispatchCore s) {e : Queued} (he : s.dispatch.queue.head? = some e)
    (hi : s.dispatch.engine = .idle) : pageKind (s.page e.page).state = 1 := by
  have h0 := (h.queued e.page).1 (List.mem_map_of_mem (List.mem_of_mem_head? he))
  have h2 : pageKind (s.page e.page).state ≠ 2 := fun hk => by simp [h.waiting.2 ⟨e, he, hk⟩] at hi
  have h3 : pageKind (s.page e.page).state ≠ 3 := fun hk => by obtain ⟨x, hx⟩ := h.sending.2 ⟨e, he, hk⟩; simp [hx] at hi
  have := pageKind_le (s.page e.page).state
  omega

/-- The scope of the dispatch engine's own operations. -/
abbrev engineScope : Scope := { engine := True }

/-- Once the head has advanced as far as it may, the whole law of the dispatch queue holds. -/
theorem dispatchLaw_advanceUpTo (n : Nat) : ∀ s : State, s.dispatch.queue.length ≤ n → PlanLaw s → DispatchCore s →
    (s.dispatch.engine ≠ .idle → s.link.state = .up) → DispatchLaw (State.advanceUpTo n s) := by
  induction n with
  | zero =>
    intro s hn _ hd hup
    exact (dispatchLaw_iff s).2 ⟨hd, hup, fun _ _ => List.length_eq_zero_iff.1 (Nat.le_zero.1 hn)⟩
  | succ n ih =>
    intro s hn hp hd hup
    unfold State.advanceUpTo
    split
    · rename_i e q hq hi hl
      have he : s.dispatch.queue.head? = some e := by rw [hq]; rfl
      have hk := hd.head_kind he hi
      rw [if_pos (by simp [isQueued_eq, hk])]
      have hw := hd.enterWaiting hp e he hk
      have hpw : PlanLaw (s.enterWaiting e) :=
        ((Moves.refl engineScope s).enterWaiting trivial e).planLaw id hp
      obtain ⟨hwq, hwe, -⟩ := enterWaiting_dispatch s e
      have hwl := enterWaiting_link s e
      have hwk : pageKind ((s.enterWaiting e).page e.page).state = 2 := by simp [enterWaiting_page]
      have hwh : (s.enterWaiting e).dispatch.queue.head? = some e := by rw [hwq, he]
      dsimp only
      split
      · rename_i c sl k _
        have hmem : e ∈ (s.enterWaiting e).dispatch.queue := List.mem_of_mem_head? hwh
        refine ih _ ?_ (((Moves.refl engineScope _).failPage trivial _ _).planLaw id hpw) (hw.failPage hpw e _ hmem) ?_
        · rw [failPage_queue, hwq, hq, List.filter_cons, if_neg (by simp)]
          rw [hq, List.length_cons] at hn
          exact (List.length_filter_le _ _).trans (by omega)
        · rw [failPage_link, hwl]
          exact fun _ => hl
      · exact (dispatchLaw_iff _).2 ⟨hw, fun _ => by rw [hwl, hl], fun h => by simp [hwe] at h⟩
      · obtain ⟨hs, hsl, hse⟩ := hw.enterSending e hwh hwk
        exact (dispatchLaw_iff _).2 ⟨hs, fun _ => by rw [hsl, hwl, hl], fun h => absurd h hse⟩
    · rename_i hno
      refine (dispatchLaw_iff s).2 ⟨hd, hup, fun hi hl => ?_⟩
      cases hq : s.dispatch.queue with
      | nil => rfl
      | cons e q => exact absurd hl (hno e q hq hi)

theorem dispatchLaw_advance (hp : PlanLaw s) (hd : DispatchCore s)
    (hup : s.dispatch.engine ≠ .idle → s.link.state = .up) : DispatchLaw s.advance :=
  dispatchLaw_advanceUpTo _ s le_rfl hp hd hup

theorem DispatchLaw_core (h : DispatchLaw s) : DispatchCore s := ((dispatchLaw_iff s).1 h).1

/-- A failure, and the advance of the next head, leave the law: also from a link that has just left UP while the page sent. -/
theorem dispatchLaw_fail (hp : PlanLaw s) (hd : DispatchCore s) (e : Queued) (f : Failing) (he : e ∈ s.dispatch.queue)
    (hup : s.dispatch.engine ≠ .idle → s.link.state = .up ∨
      (s.dispatch.queue.head?.map Queued.page = some e.page ∧ s.dispatch.engine ≠ .aborting)) :
    DispatchLaw (s.fail e f) := by
  refine dispatchLaw_advance (((Moves.refl engineScope s).failPage trivial e f).planLaw id hp) (hd.failPage hp e f he) ?_
  rw [failPage_link, failPage_engine]
  split
  · rename_i h
    simp only [Bool.and_eq_true, beq_iff_eq] at h
    exact fun _ => h.2
  · split
    · simp
    · rename_i h
      intro hi
      refine (hup hi).resolve_right fun ⟨h1, h2⟩ => h ?_
      simp [h1, h2]

/-! ## The engine's operations keep the law -/

theorem dispatchLaw_evaluate (hp : PlanLaw s) (hd : DispatchLaw s) : DispatchLaw s.evaluate := by
  unfold State.evaluate
  split
  · rename_i e he
    obtain ⟨hh, hk⟩ := (waitingHead_eq_some s e).1 he
    split
    · exact dispatchLaw_fail hp (DispatchLaw_core hd) e _ (List.mem_of_mem_head? hh) fun hi => .inl (hd.up hi)
    · exact hd
    · obtain ⟨hs, hsl, hse⟩ := (DispatchLaw_core hd).enterSending e hh hk
      refine (dispatchLaw_iff _).2 ⟨hs, fun _ => ?_, fun h => absurd h hse⟩
      rw [hsl]
      exact hd.up (by rw [(DispatchLaw_core hd).waiting.2 ⟨e, hh, hk⟩]; simp)
  · exact hd

theorem dispatchLaw_handEvent (hp : PlanLaw s) (hd : DispatchLaw s) (k : StoryId) : DispatchLaw (s.handEvent k) := by
  unfold State.handEvent
  split
  · exact dispatchLaw_evaluate hp hd
  · exact hd

/-- A send in progress goes on. -/
theorem dispatchLaw_setSend (hd : DispatchLaw s) {x : SendState} (hx : s.dispatch.engine = .sending x) (y : SendState) :
    DispatchLaw (s.setSend y) := by
  have hc := DispatchLaw_core hd
  have hw : ¬ ∃ e, s.dispatch.queue.head? = some e ∧ pageKind (s.page e.page).state = 2 := by
    rw [← hc.waiting, hx]; simp
  refine (dispatchLaw_iff _).2 ⟨⟨hc.once, hc.queued, hc.tail, iff_of_false (by simp [State.setSend, State.setDispatchEngine]) hw,
    iff_of_true ⟨y, rfl⟩ (hc.sending.1 ⟨x, hx⟩), hc.timer, hc.closing⟩, fun _ => hd.up (by simp [hx]), ?_⟩
  simp [State.setSend, State.setDispatchEngine]

/-- A frame handed to the link is nothing to the dispatch queue. -/
theorem dispatchLaw_handOver (hd : DispatchLaw s) (f : Frame) : DispatchLaw (s.handOver f) :=
  SameDispatch.law (s := s) ⟨rfl, rfl, rfl, by simp [State.handOver, handFrame_eq], fun _ => rfl, fun _ => ⟨rfl, rfl⟩⟩ hd

theorem dispatchLaw_handText (hd : DispatchLaw s) {x : SendState} (hx : s.dispatch.engine = .sending x) (y : SendState)
    (n : Nat) : DispatchLaw (s.handText y n) := dispatchLaw_handOver (dispatchLaw_setSend hd hx _) _

theorem dispatchLaw_pumpText (hd : DispatchLaw s) {x : SendState} (hx : s.dispatch.engine = .sending x) (y : SendState) :
    DispatchLaw (s.pumpText y) := by
  unfold State.pumpText
  split
  · exact dispatchLaw_handText hd hx _ _
  · split
    · split
      · exact dispatchLaw_handOver (dispatchLaw_setSend hd hx _) _
      · exact dispatchLaw_handText hd hx _ _
    · exact dispatchLaw_setSend hd hx _

theorem dispatchLaw_handSlot (hd : DispatchLaw s) {x : SendState} (hx : s.dispatch.engine = .sending x) (p : PageId)
    (y : SendState) (n : SlotId) : DispatchLaw (s.handSlot p y n) := by
  unfold State.handSlot
  split
  · exact dispatchLaw_handOver (dispatchLaw_setSend hd hx _) _
  · exact hd

theorem dispatchLaw_failSend (hp : PlanLaw s) (hd : DispatchCore s) (c : Cause)
    (hno : (∀ x, s.dispatch.engine ≠ .sending x) → DispatchLaw s) : DispatchLaw (s.failSend c) := by
  unfold State.failSend
  split
  · rename_i e q x hq hx
    exact dispatchLaw_fail hp hd e _ (hq ▸ .head _) fun _ => .inr (by simp [hq, hx])
  · rename_i hn
    refine hno fun x hx => ?_
    obtain ⟨e, he, -⟩ := hd.sending.1 ⟨x, hx⟩
    obtain ⟨q, hq⟩ := List.head?_eq_some_iff.1 he
    exact hn _ _ _ hq hx

/-- Freezing stories clears their closing markers, and keeps placements. -/
theorem foldl_freeze_story (l : List StoryId) (s : State) (k : StoryId) :
    ((l.foldl State.freeze s).story k).placement = (s.story k).placement ∧
      ((l.foldl State.freeze s).story k).closing = ((s.story k).closing && decide (k ∉ l)) := by
  induction l generalizing s with
  | nil => simp
  | cons a l ih =>
    obtain ⟨h1, h2⟩ := ih (s.freeze a)
    rw [List.foldl_cons, h1, h2, story_freeze]
    split
    · rename_i hk; subst hk; simp
    · rename_i hk; simp [hk]

theorem dispatchLaw_complete (hp : PlanLaw s) (hd : DispatchLaw s) {e : Queued} {q : List Queued} {x : SendState}
    (hq : s.dispatch.queue = e :: q) (hx : s.dispatch.engine = .sending x) : DispatchLaw (s.complete e) := by
  have hf := foldl_freeze_story (s.pageStories e.page) s
  have hdis : ((s.pageStories e.page).foldl State.freeze s).dispatch = s.dispatch :=
    foldl_keeps State.dispatch State.freeze (fun _ _ => rfl) _ _
  have hpage : ∀ p, ((s.pageStories e.page).foldl State.freeze s).page p = s.page p := fun p =>
    foldl_keeps (fun t : State => t.page p) State.freeze (fun _ _ => rfl) _ _
  have hlink : ((s.pageStories e.page).foldl State.freeze s).link = s.link :=
    foldl_keeps State.link State.freeze (fun _ _ => rfl) _ _
  have hst : ∀ k, (s.completePage e).story k = ((s.pageStories e.page).foldl State.freeze s).story k := fun k => by
    simp [State.completePage]
  have hmv := (Moves.refl ({ phases := .freeze (s.pageStories e.page), engine := True } : Scope) s).completePage trivial e _
    rfl (fun _ h => h) (hq ▸ .head _)
  refine dispatchLaw_advance (hmv.planLaw id hp) ?_ (by simp [State.completePage, State.setDispatchEngine])
  refine (DispatchLaw_core hd).remove e.page ?_ (fun p => ?_) (fun k => by rw [hst, (hf k).1]) (fun k => ?_) (fun _ => ?_)
    fun h => absurd (by rw [hq]; rfl) h
  · simp [State.completePage, State.setDispatchEngine, State.leaveQueue, hdis]
  · simp only [State.completePage, page_setDispatchEngine, page_leaveQueue, page_raise, page_setPage, hpage]
    split <;> rfl
  · rw [hst, (hf k).2, Bool.and_eq_true, decide_eq_true_eq, mem_pageStories_placement hp, not_exists]
  · have ht : s.dispatch.holdWaitTimer = none := by
      rw [← Option.not_isSome_iff_eq_none, (DispatchLaw_core hd).timer, ← (DispatchLaw_core hd).waiting, hx]
      simp
    simp [State.completePage, State.setDispatchEngine, State.leaveQueue, hdis, ht]

theorem dispatchLaw_nextFrame (hp : PlanLaw s) (hd : DispatchLaw s) : DispatchLaw s.nextFrame := by
  unfold State.nextFrame
  split
  · rename_i e q x hq hx
    split
    · exact dispatchLaw_handSlot hd hx _ _ _
    · exact dispatchLaw_pumpText hd hx _
    · exact dispatchLaw_pumpText hd hx _
    · split
      · exact dispatchLaw_handSlot hd hx _ _ _
      · exact dispatchLaw_handOver (dispatchLaw_setSend hd hx _) _
    · exact dispatchLaw_complete hp hd hq hx
  · exact hd

theorem dispatchLaw_sendTextRead (hp : PlanLaw s) (hd : DispatchLaw s) (f : Bool) : DispatchLaw (s.sendTextRead f) := by
  unfold State.sendTextRead
  split
  · rename_i e q x hq hx
    split
    · exact hd
    · split
      · split
        · exact dispatchLaw_fail hp (DispatchLaw_core hd) e _ (hq ▸ .head _) fun hi => .inl (hd.up hi)
        · dsimp only
          split
          · exact dispatchLaw_pumpText hd hx _
          · exact dispatchLaw_setSend hd hx _
      · exact hd
  · exact hd

theorem dispatchLaw_cancelPage (hp : PlanLaw s) (hd : DispatchLaw s) (p : PageId) (st : Station) :
    DispatchLaw (s.cancelPage p st) := by
  unfold State.cancelPage
  split
  · rename_i e he
    exact dispatchLaw_fail hp (DispatchLaw_core hd) e _ (List.mem_of_find?_eq_some he) fun hi => .inl (hd.up hi)
  · exact hd

theorem dispatchLaw_holdWaitExpiry (hp : PlanLaw s) (hd : DispatchLaw s) : DispatchLaw s.holdWaitExpiry := by
  unfold State.holdWaitExpiry
  split
  · rename_i e _ he
    exact dispatchLaw_fail hp (DispatchLaw_core hd) e _
      (List.mem_of_mem_head? ((waitingHead_eq_some s e).1 he).1) fun hi => .inl (hd.up hi)
  · exact hd

/-- The engine leaves ABORTING, and the head advances. -/
theorem dispatchLaw_abortEnd (hp : PlanLaw s) (hd : DispatchCore s)
    (hno : s.dispatch.engine ≠ .aborting → DispatchLaw s) : DispatchLaw s.abortEnd := by
  unfold State.abortEnd
  split
  · rename_i ha
    have hw := hd.waiting
    have hs := hd.sending
    rw [ha] at hw hs
    refine dispatchLaw_advance (((Moves.refl engineScope s).noSend trivial .idle (by simp)).planLaw id hp)
      ⟨hd.once, hd.queued, hd.tail, ?_, ?_, hd.timer, hd.closing⟩ (by simp [State.setDispatchEngine])
    · exact iff_of_false (by simp [State.setDispatchEngine]) fun h => by simpa using hw.2 h
    · exact iff_of_false (by simp [State.setDispatchEngine]) fun h => by simpa using hs.2 h
  · exact hno ‹_›

theorem dispatchLaw_returnToQueued (hp : PlanLaw s) (hd : DispatchCore s) (hw : s.dispatch.engine = .waiting)
    (hl : s.link.state ≠ .up) : DispatchLaw s.returnToQueued := by
  obtain ⟨e, hh, hk⟩ := hd.waiting.1 hw
  have he : s.waitingHead = some e := (waitingHead_eq_some s e).2 ⟨hh, hk⟩
  unfold State.returnToQueued
  rw [he]
  dsimp only
  refine (dispatchLaw_iff _).2 ⟨hd.rehead e 1 hh (by omega) ?_ (fun q => ?_) (fun k => ?_) (fun k => ?_) ?_ ?_ ?_, ?_, ?_⟩
  · simp [State.setDispatchEngine, State.setHoldTimer]
  · simp only [page_setDispatchEngine, page_setHoldTimer, page_markClosing, page_setPageState]
    split <;> rfl
  · simp only [story_setDispatchEngine, story_setHoldTimer, markClosing_story]
    split <;> rfl
  · have hps : (s.setPageState e.page (.queued (restingOf (s.page e.page).state))).pageStories e.page =
        s.pageStories e.page := by simp [State.pageStories, page_setPageState, occupied]
    simp only [story_setDispatchEngine, story_setHoldTimer, markClosing_story, hps, mem_pageStories_placement hp]
    split
    · simp
    · rename_i hn
      refine iff_of_false (fun hc => ?_) (by simp)
      obtain ⟨p, n, hpl, hb⟩ := (hd.closing k).1 hc
      have := hd.head_of_busy hb
      rw [hh, Option.map_some, Option.some.injEq] at this
      exact hn ⟨n, this ▸ hpl⟩
  all_goals simp [State.setDispatchEngine, State.setHoldTimer, hl]

theorem dispatchLaw_linkLost (hp : PlanLaw s) (hd : DispatchCore s) (hl : s.link.state ≠ .up) : DispatchLaw s.linkLost := by
  unfold State.linkLost
  split
  · rename_i x hx
    exact dispatchLaw_failSend hp hd _ fun h => absurd hx (h x)
  · exact dispatchLaw_returnToQueued hp hd ‹_› hl
  · exact dispatchLaw_abortEnd hp hd fun h => absurd ‹_› h
  · rename_i hi
    exact (dispatchLaw_iff s).2 ⟨hd, fun h => absurd hi h, fun _ h => absurd h hl⟩

/-- The link leaves UP, and the loss is handed to the dispatch engine (R158). -/
theorem dispatchLaw_leaveUp (hp : PlanLaw s) (hd : DispatchLaw s) (b : Bool) : DispatchLaw (s.leaveUp b) := by
  have hl : (leftUp s.link b).state ≠ .up := by cases b <;> simp [leftUp, enterTraining, announce, transmit, enterDown]
  have hin : inner ((s.setLink (leftUp s.link b)).raiseLink false) = inner (s.setLink (leftUp s.link b)) :=
    inner_of_butStations (butStations_raise _ _ _)
  obtain ⟨h1, h2, h3, h4, h5⟩ := inner_fields hin
  refine dispatchLaw_linkLost ?_ ?_ (by rw [h5]; exact hl)
  · exact planLaw_congr hp (fun k => by rw [story_of_inner hin]; rfl) fun p n => by
      simp only [State.slotOf, page_of_inner hin, page_setLink]
  · exact (DispatchLaw_core hd).congr (by rw [h4]; rfl) (by rw [h4]; rfl) (by rw [h4]; rfl)
      (fun p => by rw [page_of_inner hin]; rfl) fun k => by rw [story_of_inner hin]; exact ⟨rfl, rfl⟩

/-- The link, not UP, takes a state: UP brings the advance of the queue (R156). -/
theorem dispatchLaw_linkUp (hp : PlanLaw s) (hd : DispatchLaw s) (hi : s.link.state ≠ .up) (hin : t.stories = s.stories)
    (hpg : t.pages = s.pages) (hdis : t.dispatch = s.dispatch) : DispatchLaw t.advance := by
  have hst : ∀ k, t.story k = s.story k := fun k => by simp [State.story, hin]
  have hpage : ∀ p, t.page p = s.page p := fun p => by simp [State.page, hpg]
  have hidle : t.dispatch.engine = .idle := by
    rw [hdis]; by_contra h; exact hi (hd.up h)
  exact dispatchLaw_advance (planLaw_congr hp hst fun p n => by simp [State.slotOf, hpage])
    ((DispatchLaw_core hd).congr (by rw [hdis]) (by rw [hdis]) (by rw [hdis]) (fun p => by rw [hpage])
      fun k => by rw [hst]; exact ⟨rfl, rfl⟩) fun h => absurd hidle h

/-- The link moves between states other than UP. -/
theorem dispatchLaw_linkOff (hd : DispatchLaw s) (l : Link) (hs : s.link.state ≠ .up) (hl : l.state ≠ .up) :
    DispatchLaw (s.setLink l) := by
  obtain ⟨hc, hup, -⟩ := (dispatchLaw_iff s).1 hd
  exact (dispatchLaw_iff _).2 ⟨hc.congr rfl rfl rfl (fun _ => rfl) fun _ => ⟨rfl, rfl⟩,
    fun h => absurd (hup h) hs, fun _ h => absurd h hl⟩

/-- A page at rest joins the tail of the queue (R133). -/
theorem dispatchLaw_queuePage (hp : PlanLaw s) (hd : DispatchLaw s) (p : PageId) (r : Resting)
    (hr : pageKind (s.page p).state = 0) : DispatchLaw (s.queuePage p r) := by
  obtain ⟨hc, hup, hadv⟩ := (dispatchLaw_iff s).1 hd
  have hnot : p ∉ s.dispatch.queue.map Queued.page := fun h => (hc.queued p).1 h hr
  have hne : ∀ e ∈ s.dispatch.queue, e.page ≠ p := fun e he h => hnot (h ▸ List.mem_map_of_mem he)
  have hkind : ∀ q, pageKind ((s.setPageState p (.queued r)).page q).state =
      if q = p then 1 else pageKind (s.page q).state := fun q => by rw [page_setPageState]; split <;> rfl
  have hhead : ∀ m, m ≠ 1 → ((∃ e, (s.dispatch.queue ++ [(⟨p, s.pages.edition⟩ : Queued)]).head? = some e ∧
      pageKind ((s.setPageState p (.queued r)).page e.page).state = m) ↔
        ∃ e, s.dispatch.queue.head? = some e ∧ pageKind (s.page e.page).state = m) := fun m hm => by
    cases hq : s.dispatch.queue with
    | nil => simp [hkind, hm.symm]
    | cons a q => simp [hkind, hne a (by rw [hq]; exact .head _)]
  refine dispatchLaw_advance (planLaw_congr hp (fun _ => rfl) fun q n => ?_) ⟨?_, fun q => ?_, fun e he => ?_, ?_, ?_, ?_,
    fun k => ?_⟩ hup
  · show ((s.setPageState p (.queued r)).slotOf q n).map Slot.story = _
    simp only [State.slotOf, page_setPageState]
    split
    · rename_i h; subst h; rfl
    · rfl
  · show ((s.dispatch.queue ++ _).map Queued.page).Nodup
    rw [List.map_append]
    exact hc.once.append (by simp) (by simpa using hnot)
  · show q ∈ (s.dispatch.queue ++ _).map Queued.page ↔ pageKind ((s.setPageState p (.queued r)).page q).state ≠ 0
    rw [hkind, List.map_append, List.mem_append, hc.queued]
    by_cases h : q = p
    · simp [h]
    · simp [h]
  · show pageKind ((s.setPageState p (.queued r)).page e.page).state = 1
    have he : e ∈ (s.dispatch.queue ++ [(⟨p, s.pages.edition⟩ : Queued)]).tail := he
    rw [hkind]
    split
    · rfl
    · rename_i hep
      cases hq : s.dispatch.queue with
      | nil => simp [hq] at he
      | cons a q =>
        simp only [hq, List.cons_append, List.tail_cons, List.mem_append, List.mem_singleton] at he
        rcases he with he | rfl
        · exact hc.tail e (by rw [hq]; exact he)
        · exact absurd rfl hep
  · exact hc.waiting.trans (hhead 2 (by omega)).symm
  · exact hc.sending.trans (hhead 3 (by omega)).symm
  · exact hc.timer.trans (hhead 2 (by omega)).symm
  · show (s.story k).closing = true ↔ ∃ q n, (s.story k).placement = some (q, n) ∧
      (pageKind ((s.setPageState p (.queued r)).page q).state = 2 ∨
        pageKind ((s.setPageState p (.queued r)).page q).state = 3)
    rw [hc.closing]
    refine exists_congr fun q => exists_congr fun n => and_congr_right fun _ => ?_
    rw [hkind]
    split
    · rename_i h; subst h; omega
    · rfl

end Sys2Proof.Machine
end


section
/-! PROOFS. Lawful changes: what an operation does to phases, and that it keeps the laws of plans, of measuring, of the dispatch
queue and of ranges, in one relation that composes. -/

namespace Sys2Proof.Machine

open Safety

variable {x : PhaseEffect} {s t u : State}

/-- The widest scope with an effect on phases. -/
abbrev wholeScope (x : PhaseEffect) : Scope := { phases := x, plans := True, measures := True, engine := True }

/-- A change of the part that moves within an effect on phases and keeps the laws. -/
structure Lawful (x : PhaseEffect) (s t : State) : Prop where
  moves : Moves (wholeScope x) s t
  plan : PlanLaw s → PlanLaw t
  queue : PlanLaw s → QueueLaw s ∧ FontWaitLaw s → QueueLaw t ∧ FontWaitLaw t
  dispatch : PlanLaw s → DispatchLaw s → DispatchLaw t

theorem Lawful.refl (x : PhaseEffect) (s : State) : Lawful x s s := ⟨.refl _ s, id, fun _ h => h, fun _ h => h⟩

theorem Lawful.trans (h : Lawful x s t) (h' : Lawful x t u) : Lawful x s u :=
  ⟨h.moves.trans h'.moves, h'.plan ∘ h.plan, fun hp hq => h'.queue (h.plan hp) (h.queue hp hq),
    fun hp hd => h'.dispatch (h.plan hp) (h.dispatch hp hd)⟩

/-- A change that leaves phases is one within any effect on them. -/
theorem Lawful.within (h : Lawful .none s t) (x : PhaseEffect) : Lawful x s t :=
  ⟨h.moves.mono ⟨.inl rfl, id, id, id⟩, h.plan, h.queue, h.dispatch⟩

/-! ## From moves to lawful changes -/

/-- Moves that touch only phases are lawful, unless they create or purge. -/
theorem lawful_of_moves (h : Moves { phases := x } s t) (hx : x.keepsUse) : Lawful x s t :=
  ⟨h.mono ⟨.inr rfl, False.elim, False.elim, False.elim⟩, h.planLaw id, fun _ => h.queueLaw_still id id hx,
    fun hp hd => (h.sameDispatch id id hp (DispatchLaw_core hd)).law hd⟩

/-- Moves of the dispatch engine are lawful when they keep the law of its queue. -/
theorem lawful_of_engine (h : Moves { phases := x, engine := True } s t) (hx : x.keepsUse)
    (law : PlanLaw s → DispatchLaw s → DispatchLaw t) : Lawful x s t :=
  ⟨h.mono ⟨.inr rfl, False.elim, False.elim, id⟩, h.planLaw id, h.queueLaw id id hx, law⟩

/-- Moves of the measure unit are lawful when they keep the laws of its queue. -/
theorem lawful_of_measures (h : Moves { phases := x, measures := True } s t)
    (law : QueueLaw s ∧ FontWaitLaw s → QueueLaw t ∧ FontWaitLaw t) : Lawful x s t :=
  ⟨h.mono ⟨.inr rfl, False.elim, id, False.elim⟩, h.planLaw id, fun _ => law,
    fun hp hd => (h.sameDispatch id id hp (DispatchLaw_core hd)).law hd⟩

theorem Lawful.quiet (h : Lawful x s t) (hm : Moves {} t u) : Lawful x s u :=
  h.trans ((lawful_of_moves hm trivial).within x)

theorem Lawful.around (h : Lawful x s t) (hu : inner u = inner t) : Lawful x s u := h.quiet ((Moves.refl _ t).around hu)

theorem Lawful.done (h : Lawful x s t) : Lawful x s t.done := h.around rfl

theorem Lawful.refuse (h : Lawful x s t) (st : Station) (r : Reason) : Lawful x s (t.refuse st r) :=
  h.quiet ((Moves.refl _ t).refuse st r)

theorem Lawful.stations (h : Lawful x s t) (hu : butStations u = butStations t) : Lawful x s u :=
  h.around (inner_of_butStations hu)

theorem Lawful.testing {st : Station} {ts : List (Bool × Reason)} (h : (∀ c ∈ ts, c.1 = false) → Lawful x s t) :
    Lawful x s (testing st ts s t) := by
  rcases testing_cases st ts s t with ⟨h1, h2⟩ | ⟨c, -, -, h1⟩
  · rw [h1]; exact h h2
  · rw [h1]; exact (Lawful.refl x s).refuse _ _

/-- A lawful change for each element of a list. -/
theorem Lawful.foldl {α : Type} {f : State → α → State} (hf : ∀ t a, Lawful x t (f t a)) (l : List α) (s : State) :
    Lawful x s (l.foldl f s) := by
  induction l generalizing s with
  | nil => exact .refl x s
  | cons a l ih => exact (hf s a).trans (ih _)

/-! ## Staling -/

/-- The laws of the queue but for one story, which is not in it, is not UNUSED and has no pass in flight. -/
structure QueueLawBut (k : StoryId) (s : State) : Prop where
  once : s.measure.queue.Nodup
  out : k ∉ s.measure.queue
  idle : s.inPass k = false
  used : (s.story k).phase ≠ .unused
  stale : ∀ j, j ≠ k → (j ∈ s.measure.queue ↔ (s.story j).depth.status = .stale)
  measuring : ∀ j, j ≠ k → (s.inPass j = true ↔ (s.story j).depth.status = .measuring)
  none : ∀ j, j ≠ k → ((s.story j).phase = .unused ↔ (s.story j).depth.status = .none)

/-- The story joins the queue's tail, STALE, and the law of the queue holds of it too. -/
theorem QueueLawBut.queueStale {k : StoryId} (h : QueueLawBut k s) : QueueLaw (s.queueStale k) := by
  have hsame : (s.queueStale k).story k = { s.story k with depth := { (s.story k).depth with status := .stale } } := by
    simp [State.queueStale, State.setStatus]
  have hne : ∀ j, j ≠ k → (s.queueStale k).story j = s.story j := fun j hj => by
    simp [State.queueStale, State.setStatus, hj]
  have hpass : ∀ j, (s.queueStale k).inPass j = s.inPass j := fun _ => rfl
  refine ⟨?_, fun j => ?_, fun j => ?_, fun j => ?_⟩
  · exact h.once.append (by simp) (by simpa using h.out)
  · show j ∈ s.measure.queue ++ [k] ↔ _
    by_cases hj : j = k
    · subst hj; simp [hsame]
    · simp [hne j hj, h.stale j hj, hj]
  · by_cases hj : j = k
    · subst hj; simp [hpass, hsame, h.idle]
    · rw [hpass, hne j hj, h.measuring j hj]
  · by_cases hj : j = k
    · subst hj; simp [hsame, h.used]
    · rw [hne j hj, h.none j hj]

/-- A story that is neither STALE nor NONE, and whose pass is not in flight, stands outside the law of the queue. -/
theorem queueLawBut_of_core {k : StoryId} (h : QueueCore s) (hs : (s.story k).depth.status ≠ .stale)
    (hn : (s.story k).depth.status ≠ .none) (hp : s.inPass k = false)
    (hm : ∀ j, j ≠ k → (s.inPass j = true ↔ (s.story j).depth.status = .measuring)) : QueueLawBut k s :=
  ⟨h.once, fun hk => hs ((h.stale k).1 hk), hp, fun hu => hn ((h.none k).1 hu), fun j _ => h.stale j, hm,
    fun j _ => h.none j⟩

theorem leaveMeasuring_stories (s : State) : s.leaveMeasuring.stories = s.stories := by
  unfold State.leaveMeasuring
  split <;> rfl

theorem leaveMeasuring_queue (s : State) : s.leaveMeasuring.measure.queue = s.measure.queue := by
  unfold State.leaveMeasuring
  split <;> rfl

@[simp] theorem story_leaveMeasuring (s : State) (k : StoryId) : s.leaveMeasuring.story k = s.story k := by
  simp [State.story, leaveMeasuring_stories]

/-- No pass is in flight once the engine has left MEASURING. -/
@[simp] theorem inPass_leaveMeasuring (s : State) (k : StoryId) : s.leaveMeasuring.inPass k = false := by
  unfold State.leaveMeasuring
  split <;> rfl

theorem leaveMeasuring_core (h : QueueCore s) : QueueCore s.leaveMeasuring :=
  ⟨leaveMeasuring_queue s ▸ h.once, fun k => by rw [leaveMeasuring_queue, story_leaveMeasuring]; exact h.stale k,
    fun k => by rw [story_leaveMeasuring]; exact h.none k⟩

/-- An engine that leaves MEASURING is HELD with its timer if the mark is set, and IDLE without a mark otherwise (R95). -/
theorem fontWaitLaw_leaveMeasuring (hf : FontWaitLaw s) (hm : s.measure.engine ≠ .held) : FontWaitLaw s.leaveMeasuring := by
  have ht : s.measure.fontWaitTimer = none := by
    rw [← Option.not_isSome_iff_eq_none, hf.timer]
    exact hm
  unfold State.leaveMeasuring
  split
  · rename_i hw
    exact ⟨by simp, fun _ => hw, by simp⟩
  · rename_i hw
    exact ⟨by simp [State.setEngine, ht], by simp [State.setEngine], fun _ => by simpa [State.setEngine] using hw⟩

/-- A pass in flight is its story's alone. -/
theorem inPass_iff (s : State) (k : StoryId) : s.inPass k = true ↔ ∃ p, s.measure.engine = .measuring p ∧ p.story = k := by
  unfold State.inPass
  cases s.measure.engine <;> simp

/-- The pass of a MEASURING story is the only one. -/
theorem QueueLaw_measuring_unique (h : QueueLaw s) {p : Pass} (he : s.measure.engine = .measuring p) (j : StoryId) :
    (s.story j).depth.status = .measuring ↔ j = p.story := by
  rw [← h.measuring, inPass_iff]
  simp [he, eq_comm]

theorem lawful_stale (s : State) (k : StoryId) : Lawful x s (s.stale k) := by
  refine lawful_of_measures ((Moves.refl _ s).stale trivial k) fun ⟨hq, hf⟩ => ?_
  have hcore := queueCore_of_law hq
  have hout : ∀ st, (s.story k).depth.status = st → st ≠ .stale → st ≠ .none → st ≠ .measuring →
      QueueLaw (s.queueStale k) ∧ FontWaitLaw (s.queueStale k) := fun st hst h1 h2 h3 => by
    have hp : s.inPass k = false := by
      rw [← Bool.not_eq_true, hq.measuring, hst]; exact h3
    exact ⟨(queueLawBut_of_core hcore (hst ▸ h1) (hst ▸ h2) hp fun j _ => hq.measuring j).queueStale,
      hf.timer, hf.held, hf.idle⟩
  unfold State.stale
  split
  · exact ⟨hq, hf⟩
  · exact ⟨hq, hf⟩
  · exact hout _ ‹_› (by simp) (by simp) (by simp)
  · exact hout _ ‹_› (by simp) (by simp) (by simp)
  · rename_i hst
    obtain ⟨p, hp, rfl⟩ := (inPass_iff s k).1 ((hq.measuring k).2 hst)
    rw [State.abandonPass, if_pos ((hq.measuring _).2 hst)]
    have hf' := fontWaitLaw_leaveMeasuring hf (by simp [hp])
    refine ⟨(queueLawBut_of_core (leaveMeasuring_core hcore) (by simp [hst]) (by simp [hst]) (by simp) fun j hj =>
      ?_).queueStale, hf'.timer, hf'.held, hf'.idle⟩
    simp [QueueLaw_measuring_unique hq hp, hj]

theorem Lawful.stale (h : Lawful x s t) (k : StoryId) : Lawful x s (t.stale k) := h.trans (lawful_stale t k)

theorem Lawful.staleAll (h : Lawful x s t) (ks : List StoryId) : Lawful x s (t.staleAll ks) :=
  h.trans (Lawful.foldl lawful_stale ks t)

/-! ## The measure engine -/

theorem lawful_takePass (s : State) : Lawful .none s s.takePass := by
  refine lawful_of_measures ((Moves.refl _ s).takePass trivial) fun ⟨hq, hf⟩ => ?_
  unfold State.takePass
  split
  · rename_i k q he hqueue
    have hk : (s.story k).depth.status = .stale := (hq.stale k).1 (by rw [hqueue]; exact .head _)
    have hnd := hq.once
    rw [hqueue, List.nodup_cons] at hnd
    have ht : s.measure.fontWaitTimer = none := by
      rw [← Option.not_isSome_iff_eq_none, hf.timer, he]; simp
    have hstory : ∀ j, (((s.setQueue q).setStatus k .measuring).setEngine (.measuring
        { story := k, measure := s.measurePoints k * finePerPoint, block := 0, breaker := newRun })).story j =
          if j = k then { s.story k with depth := { (s.story k).depth with status := .measuring } } else s.story j :=
      fun j => story_setStory _ _ _ _
    refine ⟨⟨hnd.2, fun j => ?_, fun j => ?_, fun j => ?_⟩, ?_, by simp [State.setEngine], by simp [State.setEngine]⟩
    · rw [hstory]
      show j ∈ q ↔ _
      have := hq.stale j
      rw [hqueue, List.mem_cons] at this
      by_cases hj : j = k
      · subst hj; simp [hnd.1]
      · simpa [hj] using this
    · rw [hstory, inPass_iff]
      have := hq.measuring j
      rw [inPass_iff, he] at this
      by_cases hj : j = k
      · simp [State.setEngine, hj]
      · simpa [State.setEngine, hj, Ne.symm hj] using this
    · rw [hstory]
      by_cases hj : j = k
      · subst hj
        simpa [hk] using hq.none j
      · simpa [hj] using hq.none j
    · simp [State.setEngine, State.setQueue, ht]
  · exact ⟨hq, hf⟩

theorem lawful_measureBlock (s : State) : Lawful .none s s.measureBlock := by
  refine lawful_of_measures ((Moves.refl _ s).measureBlock trivial) fun ⟨hq, hf⟩ => ?_
  unfold State.measureBlock
  split
  · rename_i p hp
    split
    · exact ⟨hq, hf⟩
    · refine ⟨⟨hq.once, hq.stale, fun k => ?_, hq.none⟩, ?_, by simp [State.setEngine], by simp [State.setEngine]⟩
      · have := hq.measuring k
        rw [inPass_iff] at this ⊢
        show (∃ q, _ ∧ _) ↔ (s.story k).depth.status = _
        simpa [hp, State.setEngine] using this
      · simpa [State.setEngine, hp] using hf.timer
  · exact ⟨hq, hf⟩

/-- The pass's story is measured no more: what follows may not measure, and then the engine leaves MEASURING. -/
theorem queueLaw_passEnds {p : Pass} {d : DepthRecord} (hp : PlanLaw s) (hq : QueueLaw s ∧ FontWaitLaw s)
    (he : s.measure.engine = .measuring p) (hd : d.status = .fresh ∨ d.status = .faulted)
    (hm : Moves { engine := True } (s.setStory p.story { s.story p.story with depth := d }) u) :
    QueueLaw u.leaveMeasuring ∧ FontWaitLaw u.leaveMeasuring := by
  obtain ⟨hq, hf⟩ := hq
  have hst : (s.story p.story).depth.status = .measuring := (QueueLaw_measuring_unique hq he _).2 rfl
  have hs : ∀ j, ((s.setStory p.story { s.story p.story with depth := d }).story j).depth.status =
      if j = p.story then d.status else (s.story j).depth.status := fun j => by rw [story_setStory]; split <;> rfl
  have hph : ∀ j, ((s.setStory p.story { s.story p.story with depth := d }).story j).phase = (s.story j).phase := fun j => by
    rw [story_setStory]
    split
    · rename_i hj; rw [hj]
    · rfl
  have hcore : QueueCore (s.setStory p.story { s.story p.story with depth := d }) := by
    refine ⟨hq.once, fun j => ?_, fun j => ?_⟩
    · rw [hs]
      refine (hq.stale j).trans ?_
      split
      · rename_i hj; subst hj; rcases hd with hd | hd <;> simp [hst, hd]
      · rfl
    · rw [hs, hph, hq.none]
      split
      · rename_i hj; subst hj; rcases hd with hd | hd <;> simp [hst, hd]
      · rfl
  have hplan := planLaw_setStory hp (k := p.story) (v := { s.story p.story with depth := d }) rfl
    fun h => hp.unused _ h
  have hsame := hm.sameMeasuring id trivial
  have hengine : u.measure.engine = .measuring p := hsame.engine.trans he
  refine ⟨(leaveMeasuring_core (hm.queueCore id id trivial hplan hcore)).law fun k => ?_,
    fontWaitLaw_leaveMeasuring (hsame.fontWaitLaw ⟨hf.timer, hf.held, hf.idle⟩) (by simp [hengine])⟩
  rw [inPass_leaveMeasuring, story_leaveMeasuring, hsame.status, hs]
  split
  · rcases hd with hd | hd <;> simp [hd]
  · rename_i hk; simp [QueueLaw_measuring_unique hq he, hk]

/-- The end of a pass: the story's new depth record, its notices and the event handed to the dispatch engine, and then the engine
leaves MEASURING. -/
theorem lawful_passEnds {p : Pass} {d : DepthRecord} (he : s.measure.engine = .measuring p)
    (hd : d.status = .fresh ∨ d.status = .faulted) (range : DepthRange (s.story p.story).depth → DepthRange d)
    (hm : Moves {} (s.setStory p.story { s.story p.story with depth := d }) u) :
    Lawful .none s ((u.handEvent p.story).leaveMeasuring) := by
  have hset : Moves { measures := True } s (s.setStory p.story { s.story p.story with depth := d }) :=
    (Moves.refl _ s).setDepth trivial _ d range
  have hu : Moves { measures := True } s u := hset.trans (hm.mono ⟨.inl rfl, id, False.elim, id⟩)
  have hmoves : Moves { engine := True } (s.setStory p.story { s.story p.story with depth := d }) (u.handEvent p.story) :=
    (hm.mono (sc' := { engine := True }) ⟨.inl rfl, id, id, False.elim⟩).handEvent trivial p.story
  have hplan : PlanLaw s → PlanLaw u := hu.planLaw id
  refine ⟨?_, fun hp => ?_, fun hp hq => queueLaw_passEnds hp hq he hd hmoves, fun hp hdl => ?_⟩
  · exact ((hu.mono (sc' := wholeScope .none) ⟨.inl rfl, False.elim, id, False.elim⟩).handEvent trivial _).leaveMeasuring trivial
  · exact ((Moves.refl { measures := True } _).leaveMeasuring trivial).planLaw id
      (((Moves.refl { engine := True } u).handEvent trivial _).planLaw id (hplan hp))
  · have h1 := dispatchLaw_handEvent (hplan hp) ((hu.sameDispatch id id hp (DispatchLaw_core hdl)).law hdl) p.story
    have hp1 := ((Moves.refl { engine := True } u).handEvent trivial p.story).planLaw id (hplan hp)
    exact (((Moves.refl { measures := True } _).leaveMeasuring trivial).sameDispatch id id hp1 (DispatchLaw_core h1)).law h1

theorem lawful_completePass (s : State) : Lawful .none s s.completePass := by
  unfold State.completePass
  split
  · rename_i p he
    exact lawful_passEnds he (.inl rfl) (fun _ => ⟨Nat.min_le_right _ _, Nat.min_le_right _ _⟩)
      ((Moves.refl _ (s.postDepth p.story (s.finishPass p))).evaluateOverset p.story none)
  · exact .refl _ s

theorem lawful_faultPass (s : State) : Lawful .none s s.faultPass := by
  unfold State.faultPass
  split
  · rename_i p he
    exact lawful_passEnds (d := { (s.story p.story).depth with status := .faulted }) he (.inr rfl) id
      ((Moves.refl _ _).raiseAll _)
  · exact .refl _ s

/-- The font-wait hold of a HELD engine ends. -/
theorem lawful_endFontWait (s : State) (h : s.measure.engine = .held ∨ s.measure.fontWaitTimer.isSome = true) :
    Lawful .none s s.endFontWait := by
  refine lawful_of_measures ((Moves.refl _ s).endFontWait trivial) fun ⟨hq, hf⟩ => ?_
  have he : s.measure.engine = .held := h.elim id hf.timer.1
  refine ⟨⟨hq.once, hq.stale, fun k => ?_, hq.none⟩, by simp [State.endFontWait], by simp [State.endFontWait],
    fun _ => rfl⟩
  refine (iff_of_eq ?_).trans (hq.measuring k)
  simp [State.inPass, State.endFontWait, he]

theorem lawful_fontWaitExpiry (s : State) : Lawful .none s s.fontWaitExpiry := by
  unfold State.fontWaitExpiry
  split
  · rename_i h
    exact lawful_endFontWait s (.inr (by simp [h]))
  · exact .refl _ s

theorem lawful_releaseHeld (s : State) : Lawful .none s s.releaseHeld := by
  unfold State.releaseHeld
  split
  · exact lawful_endFontWait s (.inl ‹_›)
  · exact .refl _ s

/-- The font-wait mark is set while a pass is in flight. -/
theorem lawful_retryFont (s : State) (h : s.measuring = true) : Lawful .none s s.retryFont := by
  have he : ∃ p, s.measure.engine = .measuring p := by
    unfold State.measuring at h
    split at h
    · exact ⟨_, ‹_›⟩
    · simp at h
  obtain ⟨p, he⟩ := he
  have hm : Moves { measures := True } s { s with measure := { s.measure with fontWait := true } } :=
    (Moves.refl _ s).setMeasure trivial _ id
  exact (lawful_of_measures hm fun ⟨hq, hf⟩ =>
    ⟨⟨hq.once, hq.stale, hq.measuring, hq.none⟩, hf.timer, fun _ => rfl, fun h => by simp [he] at h⟩).around rfl

theorem lawful_resetFontWait (s : State) : Lawful .none s s.resetFontWait := by
  have hm : Moves { measures := True } s s.resetFontWait :=
    (Moves.refl _ s).setMeasure trivial _ fun ⟨hf, hs, _⟩ => ⟨hf, hs, fun _ h => by cases h⟩
  refine lawful_of_measures hm fun ⟨hq, hf⟩ => ?_
  have hengine : s.resetFontWait.measure.engine = if s.measure.engine = .held then .idle else s.measure.engine := rfl
  have hne : s.resetFontWait.measure.engine ≠ .held := by
    rw [hengine]
    split
    · simp
    · exact ‹_›
  refine ⟨⟨hq.once, hq.stale, fun k => (iff_of_eq ?_).trans (hq.measuring k), hq.none⟩,
    iff_of_false (by simp [State.resetFontWait]) hne, fun h => absurd h hne, fun _ => rfl⟩
  unfold State.inPass
  rw [hengine]
  by_cases h : s.measure.engine = .held <;> simp [h]

/-! ## Creation and purge -/

/-- A story comes into use, STALE at the tail of the queue (R10, R11). -/
theorem lawful_create (k : StoryId) (hu : (s.story k).phase = .unused)
    (hm : Moves {} (s.setStory k { unusedStory with phase := .live }) u) : Lawful (.create k) s (u.queueStale k) := by
  have hset : Moves { phases := .create k, measures := True } s u :=
    ((Moves.refl _ s).move (.create k rfl hu)).trans (hm.mono ⟨.inl rfl, id, False.elim, id⟩)
  refine lawful_of_measures (hset.queueStale trivial k) fun ⟨hq, hf⟩ => ?_
  have hsame := hm.sameMeasuring id trivial
  have hqueue := hm.queue id id
  have hnone : (s.story k).depth.status = .none := (hq.none k).1 hu
  have hpass : ∀ j, u.inPass j = s.inPass j := inPass_of_engine hsame.engine
  have hst : ∀ j, j ≠ k → (u.story j).depth.status = (s.story j).depth.status := fun j hj => by
    rw [hsame.status, story_setStory_ne _ _ hj]
  have hfw : FontWaitLaw u := hsame.fontWaitLaw ⟨hf.timer, hf.held, hf.idle⟩
  refine ⟨QueueLawBut.queueStale ⟨hqueue ▸ hq.once, ?_, ?_, ?_, fun j hj => ?_, fun j hj => ?_, fun j hj => ?_⟩,
    hfw.timer, hfw.held, hfw.idle⟩
  · rw [hqueue]
    show k ∉ s.measure.queue
    rw [hq.stale, hnone]
    simp
  · rw [hpass, ← Bool.not_eq_true, hq.measuring, hnone]
    simp
  · rw [Ne, hsame.unused, story_setStory_same]
    simp
  · rw [hqueue, hst j hj]
    exact hq.stale j
  · rw [hpass, hst j hj]
    exact hq.measuring j
  · rw [hsame.unused, story_setStory_ne _ _ hj, hst j hj]
    exact hq.none j

/-- Forgetting a story's measuring leaves the law of the queue of every other story, and none of it of the story. -/
theorem queueLaw_purge {k : StoryId} (hq : QueueLaw s ∧ FontWaitLaw s) (hm : Moves {} (s.forgetMeasure k) u) :
    QueueLaw (u.setStory k unusedStory) ∧ FontWaitLaw (u.setStory k unusedStory) := by
  obtain ⟨hq, hf⟩ := hq
  have hsame := hm.sameMeasuring id trivial
  have hqueue := hm.queue id id
  have hfq : (s.forgetMeasure k).measure.queue = s.measure.queue.filter fun j => j != k := by
    unfold State.forgetMeasure State.abandonPass
    split <;> simp [State.setQueue, leaveMeasuring_queue]
  have hfs : ∀ j, (s.forgetMeasure k).story j = s.story j := fun j => by
    unfold State.forgetMeasure State.abandonPass
    split <;> simp
  have hfp : ∀ j, (s.forgetMeasure k).inPass j = true ↔ j ≠ k ∧ s.inPass j = true := fun j => by
    have hset : ∀ (v : State) q, (v.setQueue q).inPass j = v.inPass j := fun _ _ => rfl
    unfold State.forgetMeasure State.abandonPass
    rw [hset]
    split
    · rename_i hk
      rw [inPass_leaveMeasuring]
      rw [inPass_iff] at hk ⊢
      obtain ⟨p, hp, rfl⟩ := hk
      simp [hp, eq_comm]
    · rename_i hk
      exact ⟨fun h => ⟨fun hj => hk (hj ▸ h), h⟩, fun h => h.2⟩
  have hff : FontWaitLaw (s.forgetMeasure k) := by
    have : FontWaitLaw (s.abandonPass k) := by
      unfold State.abandonPass
      split
      · rename_i hk
        obtain ⟨p, hp, -⟩ := (inPass_iff s k).1 hk
        exact fontWaitLaw_leaveMeasuring hf (by simp [hp])
      · exact hf
    exact ⟨this.timer, this.held, this.idle⟩
  have hfu := hsame.fontWaitLaw hff
  have hst : ∀ j, j ≠ k → ((u.setStory k unusedStory).story j).depth.status = (s.story j).depth.status := fun j hj => by
    rw [story_setStory_ne _ _ hj, hsame.status, hfs]
  have hpass : ∀ j, (u.setStory k unusedStory).inPass j = true ↔ j ≠ k ∧ s.inPass j = true := fun j => by
    rw [← hfp, ← inPass_of_engine hsame.engine]; rfl
  refine ⟨⟨?_, fun j => ?_, fun j => ?_, fun j => ?_⟩, hfu.timer, hfu.held, hfu.idle⟩
  · show u.measure.queue.Nodup
    rw [hqueue, hfq]
    exact hq.once.filter _
  · show j ∈ u.measure.queue ↔ _
    rw [hqueue, hfq, List.mem_filter, hq.stale]
    by_cases hj : j = k
    · subst hj; simp [unusedStory, noDepth]
    · rw [hst j hj]; simp [hj]
  · rw [hpass, hq.measuring]
    by_cases hj : j = k
    · subst hj; simp [unusedStory, noDepth]
    · rw [hst j hj]; simp [hj]
  · by_cases hj : j = k
    · subst hj; simp [unusedStory, noDepth]
    · rw [hst j hj, story_setStory_ne _ _ hj, hsame.unused, hfs, hq.none]

theorem Moves.forgetMeasure {sc : Scope} (hm : sc.measures) (h : Moves sc s t) (k : StoryId) :
    Moves sc s (t.forgetMeasure k) := (h.abandonPass hm k).setQueue hm _

/-- A story in no slot returns to UNUSED, after the measure unit has forgotten it (R13). -/
theorem lawful_purge (k : StoryId) (hl : (s.story k).phase = .live) (hpl : (s.story k).placement = none)
    (hm : Moves {} (s.forgetMeasure k) u) : Lawful (.purge k) s (u.setStory k unusedStory) := by
  have hu : Moves { phases := .purge k, measures := True } s u :=
    ((Moves.refl _ s).forgetMeasure trivial k).trans (hm.mono ⟨.inl rfl, id, False.elim, id⟩)
  have hstory : (s.forgetMeasure k).story k = s.story k := by
    unfold State.forgetMeasure State.abandonPass
    split <;> simp
  have hphase : (u.story k).phase = .live := by
    rcases hm.phaseChange k with ⟨h, -⟩ | ⟨h, -⟩ | ⟨h, -⟩ | ⟨h, -⟩ | ⟨_, h, -⟩
    · rw [h, hstory, hl]
    all_goals cases h
  have hplace : (u.story k).placement = none := by rw [hm.placement id trivial, hstory, hpl]
  exact lawful_of_measures (hu.move (.purge k rfl hphase hplace)) fun hq => queueLaw_purge hq hm

end Sys2Proof.Machine
end


section
/-! PROOFS. The lawful changes of holds, routes, plans, the dispatch engine and the link. -/

namespace Sys2Proof.Machine

open Safety

variable {x : PhaseEffect} {s t u : State}

/-! ## The dispatch engine -/

/-- Moves of the dispatch engine that keep the law of its queue extend a lawful change. -/
theorem Lawful.engine (h : Lawful x s t) (hm : Moves engineScope t u) (law : PlanLaw t → DispatchLaw t → DispatchLaw u) :
    Lawful x s u := h.trans ((lawful_of_engine hm trivial law).within x)

theorem Lawful.handEvent (h : Lawful x s t) (k : StoryId) : Lawful x s (t.handEvent k) :=
  h.engine ((Moves.refl _ t).handEvent trivial k) fun hp hd => dispatchLaw_handEvent hp hd k

theorem Lawful.cancelPage (h : Lawful x s t) (p : PageId) (st : Station) : Lawful x s (t.cancelPage p st) :=
  h.engine ((Moves.refl _ t).cancelPage trivial p st) fun hp hd => dispatchLaw_cancelPage hp hd p st

theorem Lawful.releaseHold (h : Lawful x s t) (k : StoryId) : Lawful x s (t.releaseHold k) :=
  (h.quiet ((Moves.refl _ t).loseHold k)).handEvent k

theorem lawful_holdWaitExpiry (s : State) : Lawful .none s s.holdWaitExpiry :=
  (Lawful.refl _ s).engine ((Moves.refl _ s).holdWaitExpiry trivial) dispatchLaw_holdWaitExpiry

theorem lawful_sendTextRead (s : State) (f : Bool) : Lawful .none s (s.sendTextRead f) :=
  (Lawful.refl _ s).engine ((Moves.refl _ s).sendTextRead trivial f) fun hp hd => dispatchLaw_sendTextRead hp hd f

theorem Lawful.abortEnd (h : Lawful x s t) : Lawful x s t.abortEnd :=
  h.engine ((Moves.refl _ t).abortEnd trivial) fun hp hd => dispatchLaw_abortEnd hp (DispatchLaw_core hd) fun _ => hd

theorem Lawful.failSend (h : Lawful x s t) (c : Cause) : Lawful x s (t.failSend c) :=
  h.engine ((Moves.refl _ t).failSend trivial c) fun hp hd => dispatchLaw_failSend hp (DispatchLaw_core hd) c fun _ => hd

theorem Lawful.queuePage (h : Lawful x s t) (p : PageId) (r : Resting) (hr : pageKind (t.page p).state = 0) :
    Lawful x s (t.queuePage p r) :=
  h.engine ((Moves.refl _ t).queuePage trivial p r) fun hp hd => dispatchLaw_queuePage hp hd p r hr

/-- The next frame of a send, after which the stories of a page whose PAGE-END is done are FROZEN. -/
theorem lawful_nextFrame (s : State) : Lawful (.freeze (freezing s)) s s.nextFrame :=
  lawful_of_engine ((Moves.refl ({ phases := .freeze (freezing s), engine := True } : Scope) s).nextFrame trivial rfl) trivial
    dispatchLaw_nextFrame

/-! ## The link -/

/-- An update of the link that keeps its state and its ranges. -/
theorem Lawful.sameLink (h : Lawful x s t) (l : Link) (same : l.state = t.link.state)
    (range : LinkRange t.link → LinkRange l) : Lawful x s (t.setLink l) := h.quiet ((Moves.refl _ t).sameLink l same range)

theorem linkRange_enterTraining {l : Link} (h : LinkRange l) : LinkRange (enterTraining l) :=
  ⟨h.largest, h.agreed, nofun, fun _ h => (Option.some.inj h).symm, h.reply, h.wait, h.gap⟩

theorem linkRange_enterDown {l : Link} (h : LinkRange l) : LinkRange (enterDown l) :=
  ⟨h.largest, h.agreed, nofun, nofun, h.reply, h.wait, nofun⟩

theorem linkRange_leftUp {l : Link} (h : LinkRange l) (b : Bool) : LinkRange (leftUp l b) := by
  have h1 := linkRange_clearWait (linkRange_settle h)
  cases b
  · have h2 := linkRange_enterDown h1
    exact ⟨h2.largest, h2.agreed, h2.recorded, h2.training, h2.reply, h2.wait, h2.gap⟩
  · have h2 := linkRange_enterTraining h1
    exact ⟨h2.largest, h2.agreed, h2.recorded, h2.training, h2.reply, h2.wait, h2.gap⟩

theorem linkRange_recordAbility {l : Link} (h : LinkRange l) (m n : Byte) : LinkRange (recordAbility l m n) := by
  have hc : 16 ≤ clamp 16 240 n.toNat ∧ clamp 16 240 n.toNat ≤ 240 := by simp only [clamp]; omega
  exact ⟨.inr hc, rfl, fun _ => hc.1, h.training, h.reply, h.wait, h.gap⟩

theorem Lawful.leaveUp (h : Lawful x s t) (b : Bool) : Lawful x s (t.leaveUp b) :=
  h.engine ((((Moves.refl engineScope t).setLink trivial (leftUp t.link b) fun hl => linkRange_leftUp hl b).raise _ _).linkLost
    trivial) fun hp hd => dispatchLaw_leaveUp hp hd b

/-- The link moves between states other than UP. -/
theorem Lawful.linkOff (h : Lawful x s t) (l : Link) (ht : t.link.state ≠ .up) (hl : l.state ≠ .up)
    (range : LinkRange t.link → LinkRange l) : Lawful x s (t.setLink l) :=
  h.engine ((Moves.refl _ t).setLink trivial l range) fun _ hd => dispatchLaw_linkOff hd l ht hl

theorem lawful_presentHigh (s : State) : Lawful .none s s.presentHigh := by
  have range : LinkRange s.link → LinkRange { s.link with present := true } := fun h =>
    ⟨h.largest, h.agreed, h.recorded, h.training, h.reply, h.wait, h.gap⟩
  unfold State.presentHigh
  dsimp only
  split
  · rename_i hs
    exact (Lawful.refl _ s).linkOff _ (by simp [hs]) (by simp [enterTraining, announce, transmit])
      fun h => linkRange_enterTraining (range h)
  · exact (Lawful.refl _ s).sameLink _ rfl range

theorem lawful_presentLow (s : State) : Lawful .none s s.presentLow := by
  have h := (Lawful.refl .none s).sameLink { s.link with present := false } rfl fun h =>
    ⟨h.largest, h.agreed, h.recorded, h.training, h.reply, h.wait, h.gap⟩
  unfold State.presentLow
  dsimp only
  split
  · exact h
  · rename_i hs
    exact h.linkOff _ (by simp [hs]) (by simp [enterDown]) linkRange_enterDown
  · exact h.leaveUp false

theorem lawful_trainingExpiry (s : State) : Lawful .none s s.trainingExpiry := by
  unfold State.trainingExpiry
  split
  · exact (Lawful.refl _ s).sameLink _ rfl fun h =>
      ⟨h.largest, h.agreed, h.recorded, fun _ h => (Option.some.inj h).symm, h.reply, h.wait, h.gap⟩
  · exact .refl _ s

theorem Lawful.takeAbility (h : Lawful x s t) (m n : Byte) : Lawful x s (t.takeAbility m n) := by
  unfold State.takeAbility
  split
  · exact h
  · rename_i hs
    let l : Link := { recordAbility t.link m n with trainingTimer := none, state := .up }
    have hm : Moves engineScope t ((t.setLink l).raiseLink true) :=
      ((Moves.refl engineScope t).setLink trivial l fun hl =>
        have h1 := linkRange_recordAbility hl m n
        ⟨h1.largest, h1.agreed, fun _ => h1.largest.resolve_left (fun h0 => by
          simp only [recordAbility, clamp] at h0; omega) |>.1, nofun, h1.reply, h1.wait, h1.gap⟩).raise _ _
    have hin : inner ((t.setLink l).raiseLink true) = inner (t.setLink l) :=
      inner_of_butStations (butStations_raise _ _ _)
    obtain ⟨h1, -, h3, h4, -⟩ := inner_fields hin
    exact h.engine (hm.advance trivial) fun hp hd =>
      dispatchLaw_linkUp hp hd (by simp [hs]) h1 h3 h4
  · have h1 := h.sameLink (transmit (clearWait (recordAbility t.link m n)) .ability) rfl
      fun hl => linkRange_transmit (linkRange_clearWait (linkRange_recordAbility hl m n)) _
    unfold State.retrained
    generalize transmit (clearWait (recordAbility t.link m n)) .ability = l at h1 ⊢
    dsimp only
    split
    · exact (h1.sameLink (settle l) rfl linkRange_settle).failSend _
    · exact h1

theorem Lawful.failedTry (h : Lawful x s t) (o : Outstanding) : Lawful x s (t.failedTry o) := by
  unfold State.failedTry
  split
  · exact h.sameLink _ rfl fun hl => ⟨hl.largest, hl.agreed, hl.recorded, hl.training, nofun, hl.wait, hl.gap⟩
  · exact h.leaveUp true

theorem Lawful.settled (h : Lawful x s t) : Lawful x s t.settled := h.sameLink _ rfl linkRange_settle

theorem Lawful.waitSet (h : Lawful x s t) : Lawful x s t.waitSet :=
  h.sameLink _ rfl fun hl => ⟨hl.largest, hl.agreed, hl.recorded, hl.training, nofun,
    fun _ h => (Option.some.inj h).symm, hl.gap⟩

/-- A frame done by a reply: the next frame of the send, or the end of an ABORT. -/
theorem lawful_frameDone (s : State) (f : Frame) : Lawful (.freeze (freezing s)) s (s.frameDone f) := by
  unfold State.frameDone
  split
  · exact (Lawful.refl _ s).abortEnd
  · exact lawful_nextFrame s

theorem lawful_takeAck (s : State) : Lawful (.freeze (freezing s)) s s.takeAck := by
  unfold State.takeAck
  split
  · exact (Lawful.refl _ s).settled.trans (lawful_frameDone s.settled _)
  · exact .refl _ s

theorem lawful_takeWait (s : State) : Lawful (.freeze (freezing s)) s s.takeWait := by
  unfold State.takeWait
  split
  · exact (Lawful.refl _ s).waitSet.trans (lawful_frameDone s.waitSet _)
  · exact .refl _ s

theorem Lawful.frameEnded (h : Lawful x s t) (f : Frame) (c : Cause) : Lawful x s (t.frameEnded f c) := by
  unfold State.frameEnded
  split
  · exact h.abortEnd
  · exact h.failSend c

theorem Lawful.takeNak (h : Lawful x s t) (r : NakReason) : Lawful x s (t.takeNak r) := by
  unfold State.takeNak
  split
  · split
    · exact h.failedTry _
    · split
      · exact h.settled.frameEnded _ _
      · exact h.failedTry _
    · exact h.settled.frameEnded _ _
  · exact h

theorem Lawful.takeReady (h : Lawful x s t) : Lawful x s t.takeReady := by
  unfold State.takeReady
  split
  · split
    · exact h.sameLink _ rfl fun hl => linkRange_transmit (linkRange_clearWait hl) _
    · exact h.sameLink _ rfl linkRange_clearWait
  · exact h

theorem linkRange_hunt {l : Link} (h : LinkRange l) : LinkRange (hunt l) :=
  ⟨h.largest, h.agreed, h.recorded, h.training, h.reply, h.wait, nofun⟩

theorem Lawful.hunt (h : Lawful x s t) : Lawful x s (t.setLink (Machine.hunt t.link)) := h.sameLink _ rfl linkRange_hunt

/-- Whether a frame from the typesetter may complete a frame of a send: an ACK or a WAIT. -/
def completes : Incoming → Prop
  | .ack | .wait => True
  | _ => False

theorem lawful_takeIncoming (s : State) (f : Incoming) (hx : x = .freeze (freezing s) ∨ ¬ completes f) :
    Lawful x s (s.takeIncoming f) := by
  cases f with
  | ability m n => exact (Lawful.refl _ s).takeAbility m n
  | ack => rw [hx.resolve_right (not_not.2 trivial)]; exact lawful_takeAck s
  | nak r => exact (Lawful.refl _ s).takeNak r
  | wait => rw [hx.resolve_right (not_not.2 trivial)]; exact lawful_takeWait s
  | ready => exact (Lawful.refl _ s).takeReady

theorem lawful_frameArrives (s : State) (f : Incoming) (hx : x = .freeze (freezing s) ∨ ¬ completes f) :
    Lawful x s (s.frameArrives f) := by
  unfold State.frameArrives
  split
  · exact .refl _ s
  · exact (Lawful.refl _ s).hunt.trans (lawful_takeIncoming _ f hx)

theorem lawful_byteArrives (s : State) (b : Byte) : Lawful (.freeze (freezing s)) s (s.byteArrives b) := by
  have hgap : ∀ bytes, LinkRange s.link → LinkRange { s.link with receiver := .within bytes, gapTimer := some gapPeriod } :=
    fun _ h => ⟨h.largest, h.agreed, h.recorded, h.training, h.reply, h.wait, fun _ h => (Option.some.inj h).symm⟩
  unfold State.byteArrives
  split
  · exact .refl _ s
  · split
    · exact (Lawful.refl _ s).sameLink _ rfl (hgap _)
    · exact .refl _ s
  · unfold State.byteWithin
    split
    · exact (Lawful.refl _ s).hunt
    · split
      · split
        · exact (Lawful.refl _ s).hunt.trans (lawful_takeIncoming _ _ (.inl rfl))
        · exact (Lawful.refl _ s).hunt
      · exact (Lawful.refl _ s).sameLink _ rfl (hgap _)

theorem lawful_waitExpiry (s : State) : Lawful .none s s.waitExpiry := by
  unfold State.waitExpiry
  split
  · exact ((Lawful.refl _ s).sameLink (settle (clearWait s.link)) rfl fun h =>
      linkRange_settle (linkRange_clearWait h)).failSend _
  · exact .refl _ s

theorem lawful_replyExpiry (s : State) : Lawful .none s s.replyExpiry := by
  unfold State.replyExpiry
  split
  · exact (Lawful.refl _ s).failedTry _
  · exact .refl _ s

theorem lawful_tryEnd (s : State) : Lawful .none s s.tryEnd := by
  unfold State.tryEnd
  split
  · refine (Lawful.refl _ s).sameLink _ rfl fun h => ⟨h.largest, h.agreed, h.recorded, h.training, fun n hn => ?_, h.wait, h.gap⟩
    dsimp only at hn
    split at hn
    · exact (Option.some.inj hn).symm
    · exact h.reply n hn
  · exact .refl _ s

theorem lawful_abilityEnd (s : State) : Lawful .none s s.abilityEnd := by
  unfold State.abilityEnd
  split
  · exact (Lawful.refl _ s).sameLink _ rfl fun h => ⟨h.largest, h.agreed, h.recorded, h.training, h.reply, h.wait, h.gap⟩
  · exact .refl _ s

theorem lawful_gapExpiry (s : State) : Lawful .none s s.gapExpiry := by
  unfold State.gapExpiry
  split
  · exact (Lawful.refl _ s).hunt
  · exact .refl _ s

/-! ## Plans -/

/-- Slot `n` of page `p` holds another story, or none, and the placements follow; nothing else of the plan changes. -/
structure Exchanged (p : PageId) (n : SlotId) (new : Option StoryId) (s t : State) : Prop where
  slot : (t.slotOf p n).map Slot.story = new
  slots : ∀ q m, (q, m) ≠ (p, n) → t.slotOf q m = s.slotOf q m
  added : ∀ k, new = some k → (t.story k).placement = some (p, n)
  dropped : ∀ k, (s.slotOf p n).map Slot.story = some k → new ≠ some k → (t.story k).placement = none
  placement : ∀ k, (s.slotOf p n).map Slot.story ≠ some k → new ≠ some k →
    (t.story k).placement = (s.story k).placement

/-- A plan stays in agreement when the new story of a slot was in none and is not UNUSED. -/
theorem Exchanged.planLaw {p : PageId} {n : SlotId} {new : Option StoryId} (h : Exchanged p n new s t)
    (hu : ∀ k, (t.story k).phase = .unused ↔ (s.story k).phase = .unused)
    (hn : ∀ k, new = some k → (s.story k).placement = none ∧ (s.story k).phase ≠ .unused) (hp : PlanLaw s) : PlanLaw t := by
  refine ⟨fun q m sl hsl => ?_, fun k q m hk => ?_, fun k hk => ?_⟩
  · by_cases hq : (q, m) = (p, n)
    · cases hq
      exact h.added _ (by rw [← h.slot, hsl]; rfl)
    · rw [h.slots q m hq] at hsl
      have hpl := hp.slot q m sl hsl
      rw [h.placement, hpl]
      · intro hold
        obtain ⟨a, ha, hak⟩ := Option.map_eq_some_iff.1 hold
        have := hp.slot p n a ha
        rw [hak, hpl] at this
        exact hq (Option.some.inj this)
      · exact fun hnew => by simp [(hn _ hnew).1] at hpl
  · by_cases hnew : new = some k
    · have := h.added k hnew
      rw [this, Option.some.injEq, Prod.mk.injEq] at hk
      obtain ⟨rfl, rfl⟩ := hk
      rw [← h.slot, Option.map_eq_some_iff] at hnew
      exact hnew
    · by_cases hold : (s.slotOf p n).map Slot.story = some k
      · simp [h.dropped k hold hnew] at hk
      · rw [h.placement k hold hnew] at hk
        obtain ⟨sl, hsl, hslk⟩ := hp.placement k q m hk
        refine ⟨sl, ?_, hslk⟩
        rw [h.slots q m ?_, hsl]
        rintro ⟨⟩
        exact hold (by rw [hsl]; simp [hslk])
  · rw [hu] at hk
    have hnew : new ≠ some k := fun hnew => (hn k hnew).2 hk
    by_cases hold : (s.slotOf p n).map Slot.story = some k
    · exact h.dropped k hold hnew
    · rw [h.placement k hold hnew]
      exact hp.unused k hk

/-- On a page that is neither WAITING nor SENDING an exchange concerns no closing story. -/
theorem Exchanged.dispatchLaw {p : PageId} {n : SlotId} {new : Option StoryId} (h : Exchanged p n new s t)
    (hn : ∀ k, new = some k → (s.story k).placement = none) (hb : pageKind (s.page p).state < 2)
    (hd : t.dispatch = s.dispatch) (hl : t.link = s.link) (hk : ∀ q, pageKind (t.page q).state = pageKind (s.page q).state)
    (hc : ∀ k, (t.story k).closing = (s.story k).closing) (hp : PlanLaw s) (hlaw : DispatchLaw s) : DispatchLaw t := by
  rw [dispatchLaw_iff] at hlaw ⊢
  obtain ⟨hcore, hrest⟩ := hlaw
  have hclosing : ∀ k, (t.story k).closing = true ↔ ∃ q m, (t.story k).placement = some (q, m) ∧
      (pageKind (t.page q).state = 2 ∨ pageKind (t.page q).state = 3) := by
    intro k
    simp only [hc, hk]
    have hoff : (s.story k).placement = none ∨ (∃ m, (s.story k).placement = some (p, m)) →
        ((t.story k).placement = none ∨ (t.story k).placement = some (p, n)) → ((s.story k).closing = true ↔
          ∃ q m, (t.story k).placement = some (q, m) ∧
            (pageKind (s.page q).state = 2 ∨ pageKind (s.page q).state = 3)) := by
      intro h1 h2
      rw [hcore.closing]
      refine iff_of_false ?_ ?_
      · rintro ⟨q, m, hq, hbq⟩
        rcases h1 with h1 | ⟨m', h1⟩ <;> rw [h1] at hq
        · cases hq
        · cases hq; omega
      · rintro ⟨q, m, hq, hbq⟩
        rcases h2 with h2 | h2 <;> rw [h2] at hq
        · cases hq
        · cases hq; omega
    by_cases hnew : new = some k
    · exact hoff (.inl (hn k hnew)) (.inr (h.added k hnew))
    · by_cases hold : (s.slotOf p n).map Slot.story = some k
      · obtain ⟨a, ha, hak⟩ := Option.map_eq_some_iff.1 hold
        exact hoff (.inr ⟨n, hak ▸ hp.slot p n a ha⟩) (.inl (h.dropped k hold hnew))
      · rw [h.placement k hold hnew]
        exact hcore.closing k
  rw [hd, hl]
  refine ⟨⟨hd ▸ hcore.once, ?_, ?_, ?_, ?_, ?_, hclosing⟩, hrest⟩ <;> simp only [hd, hk]
  exacts [hcore.queued, hcore.tail, hcore.waiting, hcore.sending, hcore.timer]

/-- Moves that exchange a slot's story on a page that is neither WAITING nor SENDING are lawful. -/
theorem lawful_of_exchange {p : PageId} {n : SlotId} {new : Option StoryId} (h : Exchanged p n new s t)
    (hm : Moves { phases := x, plans := True } s t) (hx : x.keepsUse)
    (hn : ∀ k, new = some k → (s.story k).placement = none ∧ (s.story k).phase ≠ .unused)
    (hb : pageKind (s.page p).state < 2) (hd : t.dispatch = s.dispatch) (hl : t.link = s.link)
    (hk : ∀ q, pageKind (t.page q).state = pageKind (s.page q).state)
    (hc : ∀ k, (t.story k).closing = (s.story k).closing) : Lawful x s t :=
  ⟨hm.mono ⟨.inr rfl, id, False.elim, False.elim⟩, h.planLaw (hm.sameMeasuring id hx).unused hn,
    fun _ hq => hm.queueLaw_still id id hx hq, h.dispatchLaw (fun k hk => (hn k hk).1) hb hd hl hk hc⟩

end Sys2Proof.Machine
end


section
/-! PROOFS. Every command but POWER_ON is a lawful change, and which phases it may change: one walk over the meanings of all
commands, from which the laws, the ranges and the rule of R3 follow. -/

namespace Sys2Proof.Machine

open Safety

variable {x : PhaseEffect} {s t u : State}

/-! ## Edits of a page -/

theorem Lawful.edited (h : Lawful x s t) (p : PageId) (n : Option SlotId) (before : Option StoryId) (st : Station) :
    Lawful x s (t.edited p n before st) := by
  have hkind : ∀ y, pageKind y = pageKind (t.page p).state → Lawful x s (t.setPageState p y) := fun y hy =>
    h.quiet ((Moves.refl _ t).sameKind p y hy)
  unfold State.edited
  dsimp only
  split
  · rename_i r hr
    have h1 := hkind (.resting (editResting r (anyOccupied (t.page p)))) (by rw [hr]; rfl)
    split
    · exact h1.stations (butStations_raise _ _ _)
    · exact h1
  · rename_i r hr
    have h1 := hkind (.queued (editResting r (anyOccupied (t.page p)))) (by rw [hr]; rfl)
    split
    · exact h1
    · exact h1.cancelPage _ _
  · exact h

/-- A page with a slot set stays in range when the slot's terms are. -/
theorem pageRange_setSlot {v : Page} {n : SlotId} {new : Option Slot} (hv : PageRange v)
    (hn : ∀ sl, new = some sl → SlotRange v.depth sl) : PageRange (setSlot v n new) := by
  refine ⟨hv.1, fun m sl hsl => ?_, hv.2.2⟩
  simp only [setSlot, Vector.getElem_set] at hsl
  split at hsl
  · exact hn sl hsl
  · exact hv.2.1 m sl hsl

theorem slotOf_putSlot (s : State) (p : PageId) (n : SlotId) (v : Option Slot) (q : PageId) (m : SlotId) :
    (s.putSlot p n v).slotOf q m = if (q, m) = (p, n) then v else s.slotOf q m := by
  simp only [State.slotOf, State.putSlot, page_setPage, Prod.mk.injEq]
  by_cases hq : q = p
  · subst hq
    simp only [if_true, setSlot, Vector.getElem_set, true_and, Fin.val_inj, eq_comm (a := n)]
  · simp [hq]

@[simp] theorem story_putSlot (s : State) (p : PageId) (n : SlotId) (v : Option Slot) (k : StoryId) :
    (s.putSlot p n v).story k = s.story k := rfl

theorem pageKind_putSlot (s : State) (p : PageId) (n : SlotId) (v : Option Slot) (q : PageId) :
    pageKind ((s.putSlot p n v).page q).state = pageKind (s.page q).state := by
  simp only [State.putSlot, page_setPage]
  split
  · rename_i hq; subst hq; rfl
  · rfl

/-- New terms for the story of a slot. -/
theorem Lawful.putTerms (h : Lawful x s t) {p : PageId} {n : SlotId} {sl new : Slot} (hs : t.slotOf p n = some sl)
    (hst : new.story = sl.story) (range : PageRange (t.page p) → SlotRange (t.page p).depth new) :
    Lawful x s (t.putSlot p n (some new)) := by
  refine h.quiet ((Moves.refl _ t).terms p _ rfl (fun m => ?_) fun hp => pageRange_setSlot hp fun sl' h' => ?_)
  · simp only [setSlot, Vector.getElem_set]
    split
    · rename_i hm
      have hs : (t.page p).slots[m.val] = some sl := by simpa only [State.slotOf, Fin.val_inj.1 hm] using hs
      simp [hs, hst]
    · rfl
  · cases h'; exact range hp

/-- A slot whose story changes stays on its page. -/
theorem Moves.putSlot {sc : Scope} (hp : sc.plans) (h : Moves sc s t) (p : PageId) (n : SlotId) (new : Option Slot)
    (range : PageRange (t.page p) → ∀ sl, new = some sl → SlotRange (t.page p).depth sl) :
    Moves sc s (t.putSlot p n new) :=
  h.move (.page p _ (.inr rfl) (.inl hp) fun hv _ => pageRange_setSlot hv (range hv))

theorem Moves.setPlacement {sc : Scope} (hp : sc.plans) (h : Moves sc s t) (k : StoryId) (y : Option (PageId × SlotId)) :
    Moves sc s (t.setStory k { t.story k with placement := y }) :=
  h.move (.story k _ ⟨rfl, rfl⟩ (.inr rfl) (.inl hp) (.inr rfl) id)

theorem unfreeze_placement (s : State) (k j : StoryId) : ((s.unfreeze k).story j).placement = (s.story j).placement ∧
    ((s.unfreeze k).story j).closing = (s.story j).closing := by
  unfold State.unfreeze
  split
  · rw [story_setStory]
    split
    · rename_i hj; subst hj; exact ⟨rfl, rfl⟩
    · exact ⟨rfl, rfl⟩
  · exact ⟨rfl, rfl⟩

theorem unfreeze_fields (s : State) (k : StoryId) : (s.unfreeze k).pages = s.pages ∧ (s.unfreeze k).dispatch = s.dispatch ∧
    (s.unfreeze k).link = s.link := by
  unfold State.unfreeze
  split <;> exact ⟨rfl, rfl, rfl⟩

/-- Where every story sits, and its closing marker, once a story has lost its placement. -/
theorem unplace_story (s : State) (k j : StoryId) :
    ((s.unplace k).story j).placement = (if j = k then none else (s.story j).placement) ∧
      ((s.unplace k).story j).closing = (s.story j).closing := by
  have h := unfreeze_placement s k j
  unfold State.unplace
  rw [story_setStory]
  split
  · rename_i hj; subst hj; exact ⟨rfl, h.2⟩
  · exact h

theorem unplace_fields (s : State) (k : StoryId) : (s.unplace k).pages = s.pages ∧ (s.unplace k).dispatch = s.dispatch ∧
    (s.unplace k).link = s.link := unfreeze_fields s k

theorem placeIn_story (s : State) (k : StoryId) (p : PageId) (n : SlotId) (j : StoryId) :
    ((s.placeIn k p n).story j).placement = (if j = k then some (p, n) else (s.story j).placement) ∧
      ((s.placeIn k p n).story j).closing = (s.story j).closing := by
  unfold State.placeIn
  rw [story_setStory]
  split
  · rename_i hj; subst hj; exact ⟨rfl, rfl⟩
  · exact ⟨rfl, rfl⟩

theorem lawful_placeTaken (st : Station) (p : PageId) (n : SlotId) (k : StoryId) (hs : s.slotOf p n = none)
    (hpl : (s.story k).placement = none) (hu : (s.story k).phase ≠ .unused) (hb : pageKind (s.page p).state < 2) :
    Lawful .none s (s.placeTaken st p n k) := by
  have hm : Moves { plans := True } s ((s.placeIn k p n).putSlot p n
      (some { story := k, span := 1, allowance := (s.page p).depth, policy := .hold })) :=
    ((Moves.refl _ s).setPlacement trivial k _).putSlot trivial p n _ fun hv sl hsl => by
      cases hsl
      exact ⟨le_rfl, by simp, le_trans (by simp) hv.1.2.2.2.1, le_rfl⟩
  have hx : Exchanged p n (some k) s ((s.placeIn k p n).putSlot p n
      (some { story := k, span := 1, allowance := (s.page p).depth, policy := .hold })) := by
    refine ⟨by simp [slotOf_putSlot], fun q m hq => by rw [slotOf_putSlot, if_neg hq]; rfl, fun j hj => ?_,
      fun j hj => by simp [hs] at hj, fun j _ hj => ?_⟩
    · cases hj; simp [(placeIn_story s k p n k).1]
    · have : j ≠ k := fun h => hj (by rw [h])
      simp [(placeIn_story s k p n j).1, this]
  refine (((lawful_of_exchange hx hm trivial (fun j hj => by cases hj; exact ⟨hpl, hu⟩) hb rfl rfl ?_ ?_).stale k).edited p
    (some n) none st).done
  · exact fun q => pageKind_putSlot _ _ _ _ _
  · exact fun j => (placeIn_story s k p n j).2

theorem lawful_removeTaken (st : Station) (p : PageId) (n : SlotId) (sl : Slot) (hs : s.slotOf p n = some sl)
    (hb : pageKind (s.page p).state < 2) : Lawful (.thaw sl.story) s (s.removeTaken st p n sl) := by
  obtain ⟨h1, h2, h3⟩ := unplace_fields s sl.story
  have hpage : ∀ q, (s.unplace sl.story).page q = s.page q := fun q => by simp [State.page, h1]
  have hm : Moves { phases := .thaw sl.story, plans := True } s ((s.unplace sl.story).putSlot p n none) :=
    (((Moves.refl _ s).move (.thaw sl.story rfl)).setPlacement trivial _ _).putSlot trivial p n _ fun _ _ h => by cases h
  have hx : Exchanged p n none s ((s.unplace sl.story).putSlot p n none) := by
    refine ⟨by simp [slotOf_putSlot], fun q m hq => by rw [slotOf_putSlot, if_neg hq]; simp [State.slotOf, hpage], nofun,
      fun j hj _ => ?_, fun j hj _ => ?_⟩
    · rw [hs, Option.map_some, Option.some.injEq] at hj
      subst hj
      simp [(unplace_story s sl.story sl.story).1]
    · have : j ≠ sl.story := fun h => hj (by rw [hs, h]; rfl)
      simp [(unplace_story s sl.story j).1, this]
  refine (((lawful_of_exchange hx hm trivial nofun hb h2 h3 ?_ ?_).stale sl.story).edited p (some n) (some sl.story) st).done
  · exact fun q => by rw [pageKind_putSlot, hpage]
  · exact fun j => (unplace_story s sl.story j).2

theorem lawful_replaceTaken (st : Station) (p : PageId) (n : SlotId) (sl : Slot) (k : StoryId) (hs : s.slotOf p n = some sl)
    (hpl : (s.story k).placement = none) (hu : (s.story k).phase ≠ .unused)
    (hb : pageKind (s.page p).state < 2) : Lawful (.thaw sl.story) s (s.replaceTaken st p n sl k) := by
  obtain ⟨h1, h2, h3⟩ := unplace_fields s sl.story
  have hpage : ∀ q, (s.unplace sl.story).page q = s.page q := fun q => by simp [State.page, h1]
  have hm : Moves { phases := .thaw sl.story, plans := True } s
      (((s.unplace sl.story).placeIn k p n).putSlot p n (some { sl with story := k })) :=
    ((((Moves.refl _ s).move (.thaw sl.story rfl)).setPlacement trivial _ _).setPlacement trivial k _).putSlot trivial p n _
      fun hv sl' h => by
        cases h
        have hpage' : ((s.unplace sl.story).placeIn k p n).page p = s.page p := hpage p
        exact hv.2.1 n sl (by rw [← hs]; exact congrArg (fun v : Page => v.slots[n.val]) hpage')
  have hx : Exchanged p n (some k) s (((s.unplace sl.story).placeIn k p n).putSlot p n (some { sl with story := k })) := by
    refine ⟨by simp [slotOf_putSlot], fun q m hq => ?_, fun j hj => ?_, fun j hj hjk => ?_, fun j hj hjk => ?_⟩
    · rw [slotOf_putSlot, if_neg hq]
      show (s.unplace sl.story).slotOf q m = _
      simp [State.slotOf, hpage]
    · cases hj; simp [(placeIn_story _ k p n k).1]
    · rw [hs, Option.map_some, Option.some.injEq] at hj
      have : j ≠ k := fun h => hjk (by rw [h])
      subst hj
      simp [(placeIn_story _ k p n sl.story).1, (unplace_story s sl.story sl.story).1, this]
    · have h1 : j ≠ sl.story := fun h => hj (by rw [hs, h]; rfl)
      have h2 : j ≠ k := fun h => hjk (by rw [h])
      simp [(placeIn_story _ k p n j).1, (unplace_story s sl.story j).1, h1, h2]
  refine (((lawful_of_exchange hx hm trivial (fun j hj => by cases hj; exact ⟨hpl, hu⟩) hb h2 h3 ?_ ?_).staleAll
    (inOrder sl.story k)).edited p (some n) (some sl.story) st).done
  · intro q
    rw [pageKind_putSlot]
    show pageKind ((s.unplace sl.story).page q).state = _
    rw [hpage]
  · intro j
    show (((s.unplace sl.story).placeIn k p n).story j).closing = _
    exact (placeIn_story _ k p n j).2.trans (unplace_story s sl.story j).2

/-! ## Writes to words: stories -/

theorem lawful_createByClaim (st : Station) (k : StoryId) (hu : (s.story k).phase = .unused) :
    Lawful (.create k) s (s.createByClaim st k) := (lawful_create k hu ((Moves.refl _ _).gainHold k st)).done

theorem lawful_createByRoute (st : Station) (k : StoryId) (b : BasketId) (p : Priority)
    (hu : (s.story k).phase = .unused) : Lawful (.create k) s (s.createByRoute st k b p) :=
  ((lawful_create k hu ((Moves.refl _ _).file k b p)).stations (butStations_raiseAll _ _)).done

theorem lawful_purgeTaken (k : StoryId) (st : Station) (hl : (s.story k).phase = .live)
    (hp : (s.story k).placement = none) : Lawful (.purge k) s (s.purgeTaken k st) :=
  (lawful_purge k hl hp ((((Moves.refl _ _).unfile k).loseHold k).raiseAll _)).done

theorem lawful_claimRequest (s : State) (st : Station) (k : StoryId) : Lawful (.create k) s (s.claimRequest st k) := by
  have hr := Lawful.refl (.create k) s
  unfold State.claimRequest
  split
  · exact Lawful.testing fun _ => lawful_createByClaim st k ‹_›
  · refine Lawful.testing fun _ => ?_
    split
    · exact hr.done
    · exact Lawful.testing fun _ => (hr.quiet (((Moves.refl _ s).gainHold k st).dropViewerOf k st)).done

theorem lawful_releaseRequest (s : State) (st : Station) (k : StoryId) : Lawful .none s (s.releaseRequest st k) := by
  unfold State.releaseRequest
  split
  · exact ((Lawful.refl _ s).releaseHold k).done
  · exact (Lawful.refl _ s).refuse _ _

theorem lawful_breakRequest (s : State) (st : Station) (k : StoryId) : Lawful .none s (s.breakRequest st k) := by
  refine Lawful.testing fun _ => ?_
  split
  · exact (Lawful.refl _ s).done
  · exact (((Lawful.refl _ s).quiet (((Moves.refl _ s).loseHold k).raise _ _)).handEvent k).done

/-- A write to HOLD that names another than the writer creates nothing. -/
theorem lawful_writeHold_other (s : State) (st : Station) (k : StoryId) (sz : Size) {v : Word}
    (hv : v.toNat ≠ stationCode st) : Lawful .none s (s.writeHold st k sz v) := by
  refine Lawful.testing fun _ => ?_
  rw [if_neg hv]
  split
  · exact lawful_releaseRequest s st k
  · split
    · exact lawful_breakRequest s st k
    · exact (Lawful.refl _ s).refuse _ _

theorem lawful_writeHold (s : State) (st : Station) (k : StoryId) (sz : Size) (v : Word) :
    Lawful (.create k) s (s.writeHold st k sz v) := by
  by_cases hv : v.toNat = stationCode st
  · refine Lawful.testing fun _ => ?_
    rw [if_pos hv]
    exact lawful_claimRequest s st k
  · exact (lawful_writeHold_other s st k sz hv).within _

/-- A station code is one of seven bits (R167). -/
theorem stationCode_le (st : Station) : stationCode st ≤ 127 := by
  cases st with
  | terminal t => simp only [stationCode]; omega
  | system => exact le_rfl

/-- A code above them names no station. -/
theorem code_ne_stationCode {v : Word} (hv : 127 < v.toNat) (st : Station) : v.toNat ≠ stationCode st :=
  ne_of_gt (lt_of_le_of_lt (stationCode_le st) hv)

theorem lawful_writeState (s : State) (st : Station) (k : StoryId) (sz : Size) (v : Word) :
    Lawful (.thaw k) s (s.writeState st k sz v) := by
  refine Lawful.testing fun _ => ?_
  split
  · have hm : Moves { phases := .thaw k } s (s.unfreeze k) := (Moves.refl _ s).move (.thaw k rfl)
    exact ((lawful_of_moves hm trivial).quiet ((Moves.refl _ _).reopenPage k)).done
  · exact (Lawful.refl _ s).done

theorem lawful_endHoldByRoute (s : State) (st : Station) (k : StoryId) : Lawful .none s (s.endHoldByRoute st k) := by
  unfold State.endHoldByRoute
  split
  · exact (Lawful.refl _ s).releaseHold k
  · exact .refl _ s

theorem lawful_routeToBasket (s : State) (st : Station) (k : StoryId) (b : BasketId) (p : Priority) :
    Lawful (.create k) s (s.routeRequest st k (.basket b p)) := by
  unfold State.routeRequest
  dsimp only
  split
  · exact Lawful.testing fun _ => lawful_createByRoute st k b p ‹_›
  · refine Lawful.testing fun _ => (((Lawful.refl .none s).quiet ((Moves.refl _ s).routeIn st k b p)).trans
      (lawful_endHoldByRoute _ st k)).done.within _

theorem lawful_routeOut (s : State) (st : Station) (k : StoryId) : Lawful .none s (s.routeRequest st k .out) := by
  unfold State.routeRequest
  dsimp only
  split
  · exact (Lawful.refl _ s).refuse _ _
  · exact Lawful.testing fun _ => (((Lawful.refl .none s).quiet ((Moves.refl _ s).unfile k)).trans
      (lawful_endHoldByRoute _ st k)).done

/-- A purge that is taken finds the story LIVE and in no slot. -/
theorem lawful_purgeRequest (s : State) (st : Station) (k : StoryId) : Lawful (.purge k) s (s.purgeRequest st k) := by
  refine Lawful.testing fun h => ?_
  simp only [List.mem_cons, forall_eq_or_imp, beq_eq_false_iff_ne, Option.isSome_eq_false_iff, Option.isNone_iff_eq_none] at h
  obtain ⟨hu, hf, -, -, -, hp, -⟩ := h
  refine lawful_purgeTaken k st ?_ hp
  cases hph : (s.story k).phase with
  | unused => exact absurd hph hu
  | live => rfl
  | frozen => exact absurd hph hf

theorem lawful_writeRoute_purge (s : State) (st : Station) (k : StoryId) (sz : Size) :
    Lawful (.purge k) s (s.writeRoute st k sz .purge) := Lawful.testing fun _ => lawful_purgeRequest s st k

/-- A purge leaves the story's entry, or its power-on value. -/
theorem story_writeRoute_purge (s : State) (st : Station) (k : StoryId) (sz : Size) :
    (s.writeRoute st k sz .purge).story k = s.story k ∨ (s.writeRoute st k sz .purge).story k = unusedStory := by
  unfold State.writeRoute
  rcases testing_cases st [(badSize sz, .badSize), (!s.signedOn st, .notSignedOn)] s (s.routeRequest st k .purge) with
    ⟨h, -⟩ | ⟨c, -, -, h⟩ <;> rw [h]
  · unfold State.routeRequest State.purgeRequest
    dsimp only
    rcases testing_cases st _ s (s.purgeTaken k st) with ⟨h', -⟩ | ⟨c, -, -, h'⟩ <;> rw [h']
    · exact .inr (by simp [State.purgeTaken])
    · exact .inl (by simp)
  · exact .inl (by simp)

/-- What a write by place may do to phases: anything but freezing, and a purge leaves the power-on value. -/
def ByPlace (s t : State) : PhaseEffect → Prop
  | .freeze _ => False
  | .purge k => t.story k = s.story k ∨ t.story k = unusedStory
  | _ => True

theorem lawful_writeRoute (s : State) (st : Station) (k : StoryId) (sz : Size) (q : RouteRequest) :
    ∃ x, ByPlace s (s.writeRoute st k sz q) x ∧ Lawful x s (s.writeRoute st k sz q) := by
  cases q with
  | basket b p => exact ⟨.create k, trivial, Lawful.testing fun _ => lawful_routeToBasket s st k b p⟩
  | out => exact ⟨.none, trivial, Lawful.testing fun _ => lawful_routeOut s st k⟩
  | purge => exact ⟨.purge k, story_writeRoute_purge s st k sz, lawful_writeRoute_purge s st k sz⟩
  | bad => exact ⟨.none, trivial, Lawful.testing fun _ => (Lawful.refl _ s).refuse _ _⟩

/-! ## Writes to words: pages -/

/-- A page whose edits are admitted is neither WAITING nor SENDING. -/
theorem planTests_kind {st : Station} {p : PageId} {sz : Size} (h : ∀ c ∈ s.planTests st p sz, c.1 = false) :
    pageKind (s.page p).state < 2 := by
  have := h (isWaiting (s.page p).state || isSending (s.page p).state, .closing) (by simp [State.planTests])
  simp only [isWaiting_eq, isSending_eq, Bool.or_eq_false_iff, decide_eq_false_iff_not] at this
  have := pageKind_le (s.page p).state
  omega

/-- What a STORY write may do to phases: unfreeze the slot's story. -/
def Thaws : PhaseEffect → Prop
  | .none | .thaw _ => True
  | _ => False

theorem lawful_removeRequest (s : State) (st : Station) (p : PageId) (n : SlotId) (hb : pageKind (s.page p).state < 2) :
    ∃ x, Thaws x ∧ Lawful x s (s.removeRequest st p n) := by
  unfold State.removeRequest
  cases hs : s.slotOf p n with
  | none => exact ⟨.none, trivial, (Lawful.refl _ s).done⟩
  | some sl => exact ⟨.thaw sl.story, trivial, lawful_removeTaken st p n sl hs hb⟩

theorem lawful_placeRequest (s : State) (st : Station) (p : PageId) (n : SlotId) (k : StoryId)
    (hb : pageKind (s.page p).state < 2) : ∃ x, Thaws x ∧ Lawful x s (s.placeRequest st p n k) := by
  unfold State.placeRequest
  split
  · exact ⟨.none, trivial, (Lawful.refl _ s).done⟩
  · have hfit : (∀ c ∈ [((s.story k).phase == .unused, Reason.badState), ((s.story k).placement.isSome, .badState)],
        c.1 = false) → (s.story k).phase ≠ .unused ∧ (s.story k).placement = none := fun h => by simpa using h
    cases hs : s.slotOf p n with
    | none => exact ⟨.none, trivial, Lawful.testing fun h => lawful_placeTaken st p n k hs (hfit h).2 (hfit h).1 hb⟩
    | some sl =>
      exact ⟨.thaw sl.story, trivial,
        Lawful.testing fun h => lawful_replaceTaken st p n sl k hs (hfit h).2 (hfit h).1 hb⟩

/-- What the tests of a write leave open, the write is: refused, or the write taken. -/
theorem Lawful.exists_testing {P : PhaseEffect → Prop} (hP : P .none) {st : Station} {ts : List (Bool × Reason)}
    (h : (∀ c ∈ ts, c.1 = false) → ∃ x, P x ∧ Lawful x s t) : ∃ x, P x ∧ Lawful x s (Machine.testing st ts s t) := by
  rcases testing_cases st ts s t with ⟨h1, h2⟩ | ⟨c, -, -, h1⟩ <;> rw [h1]
  · exact h h2
  · exact ⟨.none, hP, (Lawful.refl _ s).refuse _ _⟩

theorem lawful_writeStory (s : State) (st : Station) (p : PageId) (n : SlotId) (sz : Size) (v : Word) :
    ∃ x, Thaws x ∧ Lawful x s (s.writeStory st p n sz v) := by
  refine Lawful.exists_testing trivial fun ht => ?_
  have hb := planTests_kind ht
  split
  · exact lawful_removeRequest s st p n hb
  · split
    · exact lawful_placeRequest s st p n _ hb
    · exact ⟨.none, trivial, (Lawful.refl _ s).refuse _ _⟩

theorem lawful_regeometry (s : State) (st : Station) (p : PageId) (new : Page) (hs : new.slots = (s.page p).slots)
    (hst : new.state = (s.page p).state) (range : PageRange (s.page p) → PageRange new) :
    Lawful .none s (s.regeometry st p new) := by
  unfold State.regeometry
  split
  · exact (Lawful.refl _ s).done
  · exact ((((Lawful.refl _ s).quiet ((Moves.refl _ s).terms p new (by rw [hst]) (fun _ => by rw [hs]) range)).staleAll
      _).edited p none none st).done

theorem lawful_writeWidth (s : State) (st : Station) (p : PageId) (sz : Size) (v : Word) :
    Lawful .none s (s.writeWidth st p sz v) := Lawful.testing fun _ => lawful_regeometry s st p _ rfl rfl
  fun ⟨⟨_, _, h3, h4, h5⟩, hs, he⟩ => ⟨⟨by simp only [clamp]; omega, by simp only [clamp]; omega, h3, h4, h5⟩, hs, he⟩

theorem lawful_writeGutter (s : State) (st : Station) (p : PageId) (sz : Size) (v : Word) :
    Lawful .none s (s.writeGutter st p sz v) := Lawful.testing fun _ => lawful_regeometry s st p _ rfl rfl
  fun ⟨⟨h1, h2, _, h4, h5⟩, hs, he⟩ => ⟨⟨h1, h2, by simp only [clamp]; omega, h4, h5⟩, hs, he⟩

/-- A page whose column depth changes stays in range, with its allowances lowered (R123). -/
theorem pageRange_lowerPage {v : Page} {d : Nat} (hv : PageRange v) (hd : 400 ≤ d ∧ d ≤ 8000) : PageRange (lowerPage v d) := by
  obtain ⟨⟨h1, h2, h3, -, -⟩, hs, he⟩ := hv
  refine ⟨⟨h1, h2, h3, hd.1, hd.2⟩, fun n sl hsl => ?_, he⟩
  simp only [lowerPage, Vector.getElem_map, Option.map_eq_some_iff] at hsl
  obtain ⟨old, hold, rfl⟩ := hsl
  obtain ⟨a1, a2, a3, -⟩ := hs n old hold
  exact ⟨a1, a2, by simp only [lowerSlot]; omega, Nat.min_le_right _ _⟩

theorem lawful_writeColumnDepth (s : State) (st : Station) (p : PageId) (sz : Size) (v : Word) :
    Lawful .none s (s.writeColumnDepth st p sz v) := by
  refine Lawful.testing fun _ => ?_
  dsimp only
  split
  · exact (Lawful.refl _ s).done
  · have hm : Moves {} s (s.setPage p (lowerPage (s.page p) (clamp 400 8000 v.toNat))) :=
      (Moves.refl _ s).terms p _ rfl (fun n => by
        simp only [lowerPage, Vector.getElem_map, Option.map_map]
        exact congrFun (congrArg _ rfl) _) fun hv => pageRange_lowerPage hv (by simp only [clamp]; omega)
    exact ((((Lawful.refl _ s).quiet hm).quiet ((Moves.refl _ _).foldl _ fun _ k _ ht => ht.allowanceChanged k st)).edited p
      none none st).done

/-- A write to a term of a slot, when a slot that changes keeps its story and its range. -/
theorem lawful_writeSpan (s : State) (st : Station) (p : PageId) (n : SlotId) (sz : Size) (v : Word) :
    Lawful .none s (s.writeSpan st p n sz v) := by
  refine Lawful.testing fun _ => ?_
  split
  · exact (Lawful.refl _ s).refuse _ _
  · rename_i sl hs
    dsimp only
    split
    · exact (Lawful.refl _ s).done
    · refine ((((Lawful.refl _ s).putTerms (new := { sl with span := clamp 1 8 v.toNat }) hs rfl fun hv => ?_).stale
        _).edited p _ _ st).done
      obtain ⟨-, -, h3, h4⟩ := hv.2.1 n sl hs
      exact ⟨by simp only [clamp]; omega, by simp only [clamp]; omega, h3, h4⟩

theorem lawful_writeAllowance (s : State) (st : Station) (p : PageId) (n : SlotId) (sz : Size) (v : Word) :
    Lawful .none s (s.writeAllowance st p n sz v) := by
  refine Lawful.testing fun _ => ?_
  split
  · exact (Lawful.refl _ s).refuse _ _
  · rename_i sl hs
    dsimp only
    split
    · exact (Lawful.refl _ s).done
    · refine ((((Lawful.refl _ s).putTerms (new := { sl with allowance := clamp 1 (s.page p).depth v.toNat }) hs rfl
        fun hv => ?_).quiet ((Moves.refl _ _).allowanceChanged _ st)).edited p _ _ st).done
      obtain ⟨h1, h2, -, -⟩ := hv.2.1 n sl hs
      have := hv.1.2.2.2.1
      exact ⟨h1, h2, by simp only [clamp]; omega, by simp only [clamp]; omega⟩

theorem lawful_writePolicy (s : State) (st : Station) (p : PageId) (n : SlotId) (sz : Size) (v : Word) :
    Lawful .none s (s.writePolicy st p n sz v) := by
  refine Lawful.testing fun _ => ?_
  split
  · exact (Lawful.refl _ s).refuse _ _
  · split
    · exact (Lawful.refl _ s).refuse _ _
    · rename_i pol _ _ sl hs
      split
      · exact (Lawful.refl _ s).done
      · refine (((Lawful.refl _ s).putTerms (new := { sl with policy := pol }) hs rfl fun hv => ?_).edited p _ _ st).done
        exact hv.2.1 n sl hs

theorem lawful_writeCommand (s : State) (st : Station) (p : PageId) (sz : Size) (v : Word) :
    Lawful .none s (s.writeCommand st p sz v) := by
  refine Lawful.testing fun _ => ?_
  split
  · unfold State.dispatchRequest
    split
    · exact (Lawful.refl _ s).refuse _ _
    · rename_i r _ hr
      exact ((Lawful.refl _ s).queuePage p r (by rw [hr]; rfl)).done
    · exact (Lawful.refl _ s).done
  · split
    · unfold State.cancelRequest
      split
      · exact (Lawful.refl _ s).done
      · exact ((Lawful.refl _ s).cancelPage p st).done
    · exact (Lawful.refl _ s).refuse _ _

/-! ## Writes to words: stations, baskets, fonts and the desk -/

theorem lawful_signOffTaken (s : State) (u : TerminalId) : Lawful .none s (s.signOffTaken u) := by
  have h1 : Lawful .none s (s.releaseAll (.terminal u)) := Lawful.foldl (fun t k => (Lawful.refl _ t).releaseHold k) _ s
  have h2 := h1.quiet ((Moves.refl _ _).foldl ((s.releaseAll (.terminal u)).viewedBy u) fun _ k _ ht => ht.dropViewer k u)
  exact h2.around rfl

theorem lawful_writeControl (s : State) (st owner : Station) (sz : Size) (v : Word) :
    Lawful .none s (s.writeControl st owner sz v) := by
  have hsign : ∀ u b, Lawful .none s (s.signTaken u b) := fun u b => by
    unfold State.signTaken
    split
    · exact (Lawful.refl _ s).done
    · split
      · exact ((Lawful.refl .none s).around (u := s.signOnTaken u) rfl).done
      · exact (lawful_signOffTaken s u).done
  refine Lawful.testing fun _ => ?_
  split
  · exact (Lawful.refl _ s).refuse _ _
  · split
    · exact hsign _ _
    · split
      · exact hsign _ _
      · exact (Lawful.refl _ s).refuse _ _

theorem lawful_writeRights (s : State) (st owner : Station) (sz : Size) (v : Word) :
    Lawful .none s (s.writeRights st owner sz v) := by
  refine Lawful.testing fun _ => ?_
  split
  · exact (Lawful.refl _ s).refuse _ _
  · split
    · exact (Lawful.refl _ s).refuse _ _
    · exact (Lawful.refl _ s).around rfl

theorem lawful_writeReadIndex (s : State) (st owner : Station) (sz : Size) (v : Word) :
    Lawful .none s (s.writeReadIndex st owner sz v) :=
  Lawful.testing fun _ => ((Lawful.refl _ s).stations (butStations_setReadIndex _ _ _)).done

theorem lawful_writeEnables (s : State) (st : Station) (sz : Size) (v : Word) :
    Lawful .none s (s.writeEnables st sz v) := Lawful.testing fun _ => (Lawful.refl _ s).around rfl

theorem lawful_writeEdition (s : State) (st : Station) (sz : Size) (v : Word) :
    Lawful .none s (s.writeEdition st sz v) := Lawful.testing fun _ =>
  ((Lawful.refl _ s).quiet ((Moves.refl _ s).move (.edition (clamp 1 15 v.toNat)
    ⟨by simp only [clamp]; omega, by simp only [clamp]; omega⟩))).done

theorem lawful_writeHoldWait (s : State) (st : Station) (sz : Size) (v : Word) :
    Lawful .none s (s.writeHoldWait st sz v) := Lawful.testing fun _ =>
  ((Lawful.refl _ s).quiet ((Moves.refl _ s).move (.dispatch { s.dispatch with holdWait := clamp 1 600 v.toNat }
    (.inr ⟨rfl, rfl, rfl⟩) fun _ ⟨h1, h2, _, h4⟩ =>
      ⟨h1, h2, ⟨by simp only [clamp]; omega, by simp only [clamp]; omega⟩, h4⟩))).done

theorem lawful_writeLimit (s : State) (st : Station) (b : BasketId) (sz : Size) (v : Word) :
    Lawful .none s (s.writeLimit st b sz v) := Lawful.testing fun _ => (Lawful.refl _ s).around rfl

theorem lawful_writeWatchers (s : State) (st : Station) (b : BasketId) (k : Fin 4) (sz : Size) (v : Word) :
    Lawful .none s (s.writeWatchers st b k sz v) := Lawful.testing fun _ => (Lawful.refl _ s).around rfl

theorem setWidths_geometry (bs : List Byte) : ∀ (f : Font) (c : Nat), (setWidths f c bs).size = f.size ∧
    (setWidths f c bs).leading = f.leading := by
  induction bs with
  | nil => exact fun _ _ => ⟨rfl, rfl⟩
  | cons b bs ih => exact fun f c => ih (setFontWidth f c (b.setWidth 6)) (c + 1)

/-- A font write leaves the font in range (R64, R65). -/
theorem fontRange_fontAfter {f : Font} (h : FontRange f) (sz : Size) (w : FontWrite) : FontRange (fontAfter f sz w) := by
  obtain ⟨h1, h2, h3, h4⟩ := h
  cases w with
  | size v => simp only [FontRange, fontAfter, clamp]; omega
  | leading v => simp only [FontRange, fontAfter, clamp]; omega
  | widths c v =>
    obtain ⟨e1, e2⟩ := setWidths_geometry (valueBytes sz v) f c.val
    simp only [FontRange, fontAfter, e1, e2]
    exact ⟨h1, h2, h3, h4⟩

theorem lawful_writeFont (s : State) (st : Station) (f : FontId) (sz : Size) (w : FontWrite) :
    Lawful .none s (s.writeFont st f sz w) := by
  refine Lawful.testing fun _ => ?_
  split
  · exact (lawful_releaseHeld s).refuse _ _
  · split
    · exact lawful_retryFont s ‹_›
    · have hm : Moves {} s.releaseHeld (s.releaseHeld.setFont f (fontAfter (s.releaseHeld.font f) sz w)) :=
        (Moves.refl _ _).move (.measure _ (.inr ⟨rfl, rfl, rfl, rfl⟩) fun ⟨h1, h2, h3⟩ => ⟨fun g => by
          dsimp only
          rw [tableGet_set]
          split
          · exact fontRange_fontAfter (h1 f) sz w
          · exact h1 g, h2, h3⟩)
      exact (((lawful_releaseHeld s).quiet hm).staleAll _).done

theorem lawful_writeStandard (s : State) (st : Station) (sz : Size) (v : Word) :
    Lawful .none s (s.writeStandard st sz v) := by
  refine Lawful.testing fun _ => ?_
  dsimp only
  split
  · exact (Lawful.refl _ s).done
  · have hm : Moves {} s { s with measure := { s.measure with standard := clamp 60 4092 v.toNat } } :=
      (Moves.refl _ s).move (.measure _ (.inr ⟨rfl, rfl, rfl, rfl⟩) fun ⟨h1, _, h3⟩ =>
        ⟨h1, ⟨by simp only [clamp]; omega, by simp only [clamp]; omega⟩, h3⟩)
    exact (((Lawful.refl _ s).quiet hm).staleAll _).done

theorem lawful_writeReadOnly (s : State) (st : Station) (sz : Size) : Lawful .none s (s.writeReadOnly st sz) :=
  Lawful.testing fun _ => (Lawful.refl _ s).refuse _ _

/-! ## Accesses by place -/

theorem lawful_writeText (s : State) (st : Station) (k : StoryId) (pos : Nat) (sz : Size) (data : Data) (f : Bool) :
    Lawful .none s (s.writeText st k pos sz data f) := Lawful.testing fun _ =>
  (((Lawful.refl _ s).quiet ((Moves.refl _ s).plainStore _ _ data f)).stale k).quiet
    (((Moves.refl _ _).markViewers k st).plainAnswer st f)

theorem lawful_writeHeaderPlain (s : State) (st : Station) (k : StoryId) (off : Nat) (sz : Size) (data : Data) (f : Bool) :
    Lawful .none s (s.writeHeaderPlain st k off sz data f) := Lawful.testing fun _ =>
  (Lawful.refl _ s).quiet (((Moves.refl _ s).plainStore _ _ data f).plainAnswer st f)

theorem lawful_writeRing (s : State) (st owner : Station) (off : Nat) (sz : Size) (data : Data) (f : Bool) :
    Lawful .none s (s.writeRing st owner off sz data f) := Lawful.testing fun _ =>
  (Lawful.refl _ s).quiet ((((Moves.refl _ s).plainStore _ _ data f).stations
    (butStations_noteContested _ _ _ _)).plainAnswer st f)

theorem lawful_writePlain (s : State) (st : Station) (a : Nat) (sz : Size) (data : Data) (f : Bool) :
    Lawful .none s (s.writePlain st a sz data f) :=
  (Lawful.refl _ s).quiet (((Moves.refl _ s).plainStore _ _ data f).plainAnswer st f)

theorem lawful_readText (s : State) (st : Station) (k : StoryId) (pos : Nat) (sz : Size) (f : Bool) :
    Lawful .none s (s.readText st k pos sz f) := by
  unfold State.readText
  split
  · exact (Lawful.refl _ s).refuse _ _
  · exact (Lawful.refl _ s).quiet (((Moves.refl _ s).viewBy st k).answer _ _)

theorem lawful_readWords (s : State) (st : Station) (off : Nat) (sz : Size) (f : Bool) :
    Lawful .none s (s.readWords st off sz f) := by
  have h : Lawful .none s (s.clearLatch st off sz) := by
    unfold State.clearLatch
    split
    · exact (Lawful.refl _ s).sameLink _ rfl fun h => ⟨h.largest, h.agreed, h.recorded, h.training, h.reply, h.wait, h.gap⟩
    · exact .refl _ s
  unfold State.readWords
  dsimp only
  split
  · exact h.refuse _ _
  · refine h.around ?_
    unfold State.readFree
    split <;> rfl

theorem lawful_outside (s : State) (w : Bool) (a : Nat) (sz : Size) (data : Data) (f : Bool) :
    Lawful .none s (s.outside w a sz data f) := by
  have hst := (Lawful.refl .none s).quiet ((Moves.refl _ s).plainStore a (sizeBytes sz) data f)
  unfold State.outside
  split
  · split
    · exact hst.around rfl
    · exact hst.done
  · split
    · exact (Lawful.refl _ s).around rfl
    · exact (Lawful.refl _ s).around rfl

theorem Thaws.byPlace (h : Thaws x) : ByPlace s t x := by
  cases x with
  | none => trivial
  | thaw k => trivial
  | create k => exact h.elim
  | purge k => exact h.elim
  | freeze ks => exact h

/-- A write to a live word is a lawful change, by the word's own entry. -/
theorem lawful_writeLive (s : State) (st : Station) (sz : Size) (v : Word) (w : LiveWord) :
    ∃ x, ByPlace s (s.writeLive st sz v w) x ∧ Lawful x s (s.writeLive st sz v w) := by
  cases w with
  | hold k => exact ⟨.create k, trivial, lawful_writeHold s st k sz v⟩
  | route k => exact lawful_writeRoute s st k sz _
  | state k => exact ⟨.thaw k, trivial, lawful_writeState s st k sz v⟩
  | slotStory p n =>
    obtain ⟨x, hx, h⟩ := lawful_writeStory s st p n sz v
    exact ⟨x, hx.byPlace, h⟩
  | control o => exact ⟨.none, trivial, lawful_writeControl s st o sz v⟩
  | rights o => exact ⟨.none, trivial, lawful_writeRights s st o sz v⟩
  | readIndex o => exact ⟨.none, trivial, lawful_writeReadIndex s st o sz v⟩
  | limit b => exact ⟨.none, trivial, lawful_writeLimit s st b sz v⟩
  | watchers b k => exact ⟨.none, trivial, lawful_writeWatchers s st b k sz v⟩
  | columnWidth p => exact ⟨.none, trivial, lawful_writeWidth s st p sz v⟩
  | gutter p => exact ⟨.none, trivial, lawful_writeGutter s st p sz v⟩
  | columnDepth p => exact ⟨.none, trivial, lawful_writeColumnDepth s st p sz v⟩
  | pageCommand p => exact ⟨.none, trivial, lawful_writeCommand s st p sz v⟩
  | span p n => exact ⟨.none, trivial, lawful_writeSpan s st p n sz v⟩
  | allowance p n => exact ⟨.none, trivial, lawful_writeAllowance s st p n sz v⟩
  | policy p n => exact ⟨.none, trivial, lawful_writePolicy s st p n sz v⟩
  | fontSize f => exact ⟨.none, trivial, lawful_writeFont s st f sz _⟩
  | fontLeading f => exact ⟨.none, trivial, lawful_writeFont s st f sz _⟩
  | widths f c => exact ⟨.none, trivial, lawful_writeFont s st f sz _⟩
  | edition => exact ⟨.none, trivial, lawful_writeEdition s st sz v⟩
  | standardMeasure => exact ⟨.none, trivial, lawful_writeStandard s st sz v⟩
  | holdWait => exact ⟨.none, trivial, lawful_writeHoldWait s st sz v⟩
  | attentionEnable => exact ⟨.none, trivial, lawful_writeEnables s st sz v⟩
  | _ => exact ⟨.none, trivial, lawful_writeReadOnly s st sz⟩

theorem lawful_writeWindow (s : State) (st : Station) (off : Nat) (sz : Size) (data : Data) (f : Bool) :
    ∃ x, ByPlace s (s.writeWindow st off sz data f) x ∧ Lawful x s (s.writeWindow st off sz data f) := by
  unfold State.writeWindow
  split
  · exact ⟨.none, trivial, (Lawful.refl _ s).refuse _ _⟩
  · split
    · exact ⟨.none, trivial, lawful_writeText s st _ _ sz data f⟩
    · exact ⟨.none, trivial, lawful_writeHeaderPlain s st _ _ sz data f⟩
    · exact ⟨.none, trivial, lawful_writeRing s st _ _ sz data f⟩
    · exact ⟨.none, trivial, lawful_writePlain s st _ sz data f⟩
    · exact lawful_writeLive s st sz _ _

theorem lawful_readWindow (s : State) (st : Station) (off : Nat) (sz : Size) (f : Bool) :
    Lawful .none s (s.readWindow st off sz f) := by
  unfold State.readWindow
  split
  · exact lawful_readText s st _ _ sz f
  · exact lawful_readWords s st off sz f

/-- What each station's access does lawfully, an access does; a code with no record is refused. -/
theorem Lawful.asStation {code : StationCode} {op : Station → State} (h : ∀ st, Lawful x s (op st)) :
    Lawful x s (asStation code s op) := by
  unfold Machine.asStation
  split
  · exact h _
  · exact (Lawful.refl _ s).around rfl

theorem lawful_asStation_writeWindow (s : State) (code : StationCode) (off : Nat) (sz : Size) (data : Data) (f : Bool) :
    ∃ x, ByPlace s (asStation code s fun st => s.writeWindow st off sz data f) x ∧
      Lawful x s (asStation code s fun st => s.writeWindow st off sz data f) := by
  unfold asStation
  split
  · exact lawful_writeWindow s _ off sz data f
  · exact ⟨.none, trivial, (Lawful.refl _ s).around rfl⟩

theorem lawful_asStation_writeStory (s : State) (code : StationCode) (p : PageId) (n : SlotId) (sz : Size) (v : Word) :
    ∃ x, Thaws x ∧ Lawful x s (asStation code s fun st => s.writeStory st p n sz v) := by
  unfold asStation
  split
  · exact lawful_writeStory s _ p n sz v
  · exact ⟨.none, trivial, (Lawful.refl _ s).around rfl⟩

theorem lawful_access (s : State) (code : StationCode) (w : Bool) (addr : Word) (sz : Size) (data : Data) (f : Bool) :
    ∃ x, (x = .none ∨ w = true) ∧ ByPlace s (s.access code w addr sz data f) x ∧
      Lawful x s (s.access code w addr sz data f) := by
  unfold State.access
  split
  · cases w with
    | false =>
      simp only [Bool.false_eq_true, if_false]
      exact ⟨.none, .inl rfl, trivial, Lawful.asStation fun st => lawful_readWindow s st _ sz f⟩
    | true =>
      simp only [if_true]
      obtain ⟨x, hx, h⟩ := lawful_asStation_writeWindow s code (addr.toNat - s.base) sz data f
      exact ⟨x, .inr trivial, hx, h⟩
  · exact ⟨.none, .inl rfl, trivial, lawful_outside s w _ sz data f⟩

/-! ## Every command -/

theorem inner_refreshLines (s : State) : inner s.refreshLines = inner s := inner_of_butStations (by simp)

theorem inner_setStations (t : State) (v : StationUnit) : inner { t with stations := v } = inner t := rfl

theorem inner_resetTerminals (s : State) : inner (allTerminals.foldl State.resetTerminal s) = inner s :=
  foldl_keeps inner State.resetTerminal (fun _ _ => rfl) _ _

theorem inner_resetStations (s : State) : inner s.resetStations = inner s :=
  (inner_setStations _ _).trans ((inner_of_butStations (butStations_setRing _ _ _)).trans (inner_resetTerminals s))

theorem lawful_busReset (s : State) : Lawful .none s s.busReset := by
  have h1 : Lawful .none s s.resetStations := (Lawful.refl _ s).around (inner_resetStations s)
  have h2 : Lawful .none s s.resetStations.emptyAllViewers :=
    h1.quiet ((Moves.refl _ _).foldl _ fun _ k _ ht => ht.emptyViewers k)
  have h3 := h2.trans (lawful_resetFontWait _)
  have h4 : Lawful .none s s.resetStations.emptyAllViewers.resetFontWait.releaseEvery :=
    h3.trans (Lawful.foldl (fun t k => (Lawful.refl _ t).releaseHold k) _ _)
  exact h4.around (inner_refreshLines _)

theorem inner_ringWriteStored (s : State) (w : RingWrite) (f : Bool) : inner (s.ringWriteStored w f) = inner s := by
  cases f with
  | true =>
    show inner (s.storeFaulted _ _) = _
    unfold State.storeFaulted
    rfl
  | false =>
    generalize hb : s.ringWriteBytes w = bs
    simp only [State.ringWriteStored, hb, Bool.false_eq_true, if_false]
    rfl

theorem lawful_ringWriteComplete (s : State) (f : Bool) : Lawful .none s (s.ringWriteComplete f) := by
  unfold State.ringWriteComplete
  split
  · exact .refl _ s
  · rename_i w _
    have h1 := (Lawful.refl .none s).around (inner_ringWriteStored s w f)
    split
    · exact h1.stations (by simp)
    · split
      · exact h1.stations (by simp)
      · exact h1.stations (by simp [State.advanceRing])

/-- Which phases a command may change: the rows of R3's table, each with its commands. -/
def Permitted (c : Instr) (s t : State) : PhaseEffect → Prop
  | .none => True
  | .create k => (∃ code sz, c = .claim code k sz) ∨ (∃ code sz b p, c = .routeToBasket code k sz b p) ∨
      writesByPlace c = true
  | .purge k => (t.story k = s.story k ∨ t.story k = unusedStory) ∧
      ((∃ code sz, c = .purge code k sz) ∨ writesByPlace c = true)
  | .thaw k => (∃ code sz, c = .reopen code k sz) ∨ (∃ code p n sz j, c = .place code p n sz j) ∨
      (∃ code p n sz, c = .remove code p n sz) ∨ writesByPlace c = true
  | .freeze ks => ks = freezing s ∧ (c = .ack ∨ c = .wait ∨ ∃ b, c = .incomingByte b)

theorem permitted_of_byPlace {c : Instr} (h : ByPlace s t x) (hc : x = .none ∨ writesByPlace c = true) :
    Permitted c s t x := by
  rcases hc with rfl | hc
  · trivial
  · cases x with
    | none => trivial
    | create k => exact .inr (.inr hc)
    | purge k => exact ⟨h, .inr hc⟩
    | thaw k => exact .inr (.inr (.inr hc))
    | freeze ks => exact absurd h id

theorem Thaws.permitted {c : Instr} (h : Thaws x) (hc : ∀ k, Permitted c s t (.thaw k)) : Permitted c s t x := by
  cases x with
  | none => trivial
  | thaw k => exact hc k
  | create k => exact h.elim
  | purge k => exact h.elim
  | freeze ks => exact h.elim

/-- A taken command's next state. -/
theorem next_inj {a b : State} (h : (.next a : Host.Outcome State Fault Refusal) = .next b) : a = b := by
  injection h

/-- The next state of an aligned access. -/
theorem next_of_aligned {b : Bool} {a : State}
    (h : (if b then (.next a : Host.Outcome State Fault Refusal) else .refused .misaligned) = .next t) : a = t := by
  split at h
  · exact next_inj h
  · cases h

/-- Every command but POWER_ON is a lawful change, within the phases it may change. -/
theorem exec_lawful (c : Instr) (h : exec c s = .next t) (hc : ∀ strap present, c ≠ .powerOn strap present) :
    ∃ x, Permitted c s t x ∧ Lawful x s t := by
  have of : Lawful .none s t → ∃ x, Permitted c s t x ∧ Lawful x s t := fun h => ⟨.none, trivial, h⟩
  cases c with
  | powerOn strap present => exact absurd rfl (hc strap present)
  | textRead code k pos sz f =>
    cases next_of_aligned h; exact of (Lawful.asStation fun st => lawful_readText s st k _ sz f)
  | textWrite code k pos sz data f =>
    cases next_of_aligned h; exact of (Lawful.asStation fun st => lawful_writeText s st k _ sz data f)
  | headerPlainWrite code k off sz data f =>
    cases next_of_aligned h
    obtain ⟨x, hx, hl⟩ := lawful_asStation_writeWindow s code (0x1000000 + k.val * 64 + off.val) sz data f
    exact ⟨x, permitted_of_byPlace hx (.inr rfl), hl⟩
  | plainPassThrough code w addr sz data f =>
    cases next_of_aligned h
    obtain ⟨x, hw, hx, hl⟩ := lawful_access s code w addr sz data f
    exact ⟨x, permitted_of_byPlace hx hw, hl⟩
  | accessOutsideWindow code w addr sz data f =>
    cases next_of_aligned h
    obtain ⟨x, hw, hx, hl⟩ := lawful_access s code w addr sz data f
    exact ⟨x, permitted_of_byPlace hx hw, hl⟩
  | liveWordWrite code addr sz data f =>
    cases next_of_aligned h
    obtain ⟨x, -, hx, hl⟩ := lawful_access s code true addr sz data f
    exact ⟨x, permitted_of_byPlace hx (.inr rfl), hl⟩
  | ringSlotWrite code owner off sz data f =>
    cases next_of_aligned h; exact of (Lawful.asStation fun st => lawful_writeRing s st owner _ sz data f)
  | claim code k sz =>
    cases next_inj h
    exact ⟨.create k, .inl ⟨code, sz, rfl⟩, Lawful.asStation fun st => lawful_writeHold s st k sz _⟩
  | release code k sz =>
    cases next_inj h
    exact of (Lawful.asStation fun st => lawful_writeHold_other s st k sz (code_ne_stationCode (by decide) st))
  | breakHold code k sz =>
    cases next_inj h
    exact of (Lawful.asStation fun st => lawful_writeHold_other s st k sz (code_ne_stationCode (by decide) st))
  | routeToBasket code k sz b p =>
    cases next_inj h
    exact ⟨.create k, .inr (.inl ⟨code, sz, b, p, rfl⟩),
      Lawful.asStation fun st => Lawful.testing fun _ => lawful_routeToBasket s st k b p⟩
  | routeToNone code k sz =>
    cases next_inj h
    exact of (Lawful.asStation fun st => Lawful.testing fun _ => lawful_routeOut s st k)
  | purge code k sz =>
    cases next_inj h
    refine ⟨.purge k, ⟨?_, .inl ⟨code, sz, rfl⟩⟩, Lawful.asStation fun st => lawful_writeRoute_purge s st k sz⟩
    unfold asStation
    split
    · exact story_writeRoute_purge s _ k sz
    · exact .inl rfl
  | reopen code k sz =>
    cases next_inj h
    exact ⟨.thaw k, .inl ⟨code, sz, rfl⟩, Lawful.asStation fun st => lawful_writeState s st k sz _⟩
  | limitWrite code b sz v => cases next_inj h; exact of (Lawful.asStation fun st => lawful_writeLimit s st b sz v)
  | watchersWrite code b k sz v =>
    cases next_inj h; exact of (Lawful.asStation fun st => lawful_writeWatchers s st b k sz v)
  | sizeWrite code f sz v => cases next_inj h; exact of (Lawful.asStation fun st => lawful_writeFont s st f sz _)
  | leadingWrite code f sz v => cases next_inj h; exact of (Lawful.asStation fun st => lawful_writeFont s st f sz _)
  | widthTableWrite code f c sz v =>
    cases next_of_aligned h; exact of (Lawful.asStation fun st => lawful_writeFont s st f sz _)
  | standardMeasureWrite code sz v => cases next_inj h; exact of (Lawful.asStation fun st => lawful_writeStandard s st sz v)
  | editionWrite code sz v => cases next_inj h; exact of (Lawful.asStation fun st => lawful_writeEdition s st sz v)
  | holdWaitWrite code sz v => cases next_inj h; exact of (Lawful.asStation fun st => lawful_writeHoldWait s st sz v)
  | attentionEnableWrite code sz v => cases next_inj h; exact of (Lawful.asStation fun st => lawful_writeEnables s st sz v)
  | noticeReadIndexWrite code o sz v =>
    cases next_inj h; exact of (Lawful.asStation fun st => lawful_writeReadIndex s st o sz v)
  | signOn code o sz => cases next_inj h; exact of (Lawful.asStation fun st => lawful_writeControl s st o sz _)
  | signOff code o sz => cases next_inj h; exact of (Lawful.asStation fun st => lawful_writeControl s st o sz _)
  | rightsWrite code o sz v => cases next_inj h; exact of (Lawful.asStation fun st => lawful_writeRights s st o sz v)
  | columnWidthWrite code p sz v => cases next_inj h; exact of (Lawful.asStation fun st => lawful_writeWidth s st p sz v)
  | gutterWrite code p sz v => cases next_inj h; exact of (Lawful.asStation fun st => lawful_writeGutter s st p sz v)
  | columnDepthWrite code p sz v =>
    cases next_inj h; exact of (Lawful.asStation fun st => lawful_writeColumnDepth s st p sz v)
  | place code p n sz k =>
    cases next_inj h
    obtain ⟨x, hx, hl⟩ := lawful_asStation_writeStory s code p n sz (BitVec.ofNat 32 k.val)
    exact ⟨x, hx.permitted fun _ => (.inr (.inl ⟨code, p, n, sz, k, rfl⟩)), hl⟩
  | remove code p n sz =>
    cases next_inj h
    obtain ⟨x, hx, hl⟩ := lawful_asStation_writeStory s code p n sz emptyCode
    exact ⟨x, hx.permitted fun _ => (.inr (.inr (.inl ⟨code, p, n, sz, rfl⟩))), hl⟩
  | spanWrite code p n sz v => cases next_inj h; exact of (Lawful.asStation fun st => lawful_writeSpan s st p n sz v)
  | allowanceWrite code p n sz v =>
    cases next_inj h; exact of (Lawful.asStation fun st => lawful_writeAllowance s st p n sz v)
  | policyWrite code p n sz v => cases next_inj h; exact of (Lawful.asStation fun st => lawful_writePolicy s st p n sz v)
  | dispatch code p sz => cases next_inj h; exact of (Lawful.asStation fun st => lawful_writeCommand s st p sz _)
  | cancel code p sz => cases next_inj h; exact of (Lawful.asStation fun st => lawful_writeCommand s st p sz _)
  | linkStatusRead code off sz f =>
    cases next_of_aligned h; exact of (Lawful.asStation fun st => lawful_readWords s st _ sz f)
  | measurePassTaken => cases next_inj h; exact of (lawful_takePass s)
  | measurePassCompletion => cases next_inj h; exact of (lawful_completePass s)
  | measureFault => cases next_inj h; exact of (lawful_faultPass s)
  | fontWaitExpiry => cases next_inj h; exact of (lawful_fontWaitExpiry s)
  | holdWaitExpiry => cases next_inj h; exact of (lawful_holdWaitExpiry s)
  | sendTextRead f => cases next_inj h; exact of (lawful_sendTextRead s f)
  | ringWriteStart => cases next_inj h; exact of ((Lawful.refl _ s).stations (butStations_ringWriteStart s))
  | ringWriteComplete f => cases next_inj h; exact of (lawful_ringWriteComplete s f)
  | typesetterPresentHigh => cases next_inj h; exact of (lawful_presentHigh s)
  | typesetterPresentLow => cases next_inj h; exact of (lawful_presentLow s)
  | trainingTimerExpiry => cases next_inj h; exact of (lawful_trainingExpiry s)
  | typesetterAbility m l => cases next_inj h; exact of (lawful_frameArrives s _ (.inr id))
  | ack => cases next_inj h; exact ⟨.freeze (freezing s), ⟨rfl, .inl rfl⟩, lawful_frameArrives s _ (.inl rfl)⟩
  | nak r => cases next_inj h; exact of (lawful_frameArrives s _ (.inr id))
  | wait => cases next_inj h; exact ⟨.freeze (freezing s), ⟨rfl, .inr (.inl rfl)⟩, lawful_frameArrives s _ (.inl rfl)⟩
  | ready => cases next_inj h; exact of (lawful_frameArrives s _ (.inr id))
  | waitTimerExpiry => cases next_inj h; exact of (lawful_waitExpiry s)
  | replyTimerExpiry => cases next_inj h; exact of (lawful_replyExpiry s)
  | tryEnd => cases next_inj h; exact of (lawful_tryEnd s)
  | receiverGapExpiry => cases next_inj h; exact of (lawful_gapExpiry s)
  | busReset => cases next_inj h; exact of (lawful_busReset s)
  | incomingByte b => cases next_inj h; exact ⟨.freeze (freezing s), ⟨rfl, .inr (.inr ⟨b, rfl⟩)⟩, lawful_byteArrives s b⟩
  | measureTextRead => cases next_inj h; exact of (lawful_measureBlock s)
  | timebaseTick => cases next_inj h; exact of ((Lawful.refl _ s).around rfl)
  | partAbilityEnd => cases next_inj h; exact of (lawful_abilityEnd s)

end Sys2Proof.Machine
end


section
/-! PROOFS. Power-on, and the laws every step keeps: slots and placements, the measure queue, the dispatch queue and the ranges;
and the rule of R3 on phases. -/

namespace Sys2Proof.Machine

open Safety

variable {s t : State}

/-! ## After power-on -/

section PowerOn

variable (s : State) (strap : BitVec 7) (present : Bool)

theorem story_powerOn (k : StoryId) : (s.powerOn strap present).story k = unusedStory := rfl

theorem page_powerOn (p : PageId) : (s.powerOn strap present).page p = emptyPage := rfl

theorem slotOf_powerOn (p : PageId) (n : SlotId) : (s.powerOn strap present).slotOf p n = none := by
  simp [State.slotOf, page_powerOn, emptyPage]

theorem dispatch_powerOn : (s.powerOn strap present).dispatch = State.reset.dispatch := rfl

theorem measure_powerOn : (s.powerOn strap present).measure = State.reset.measure := rfl

theorem planLaw_powerOn : PlanLaw (s.powerOn strap present) := by
  refine ⟨fun p n sl h => ?_, fun k p n h => ?_, fun k _ => by rw [story_powerOn]; rfl⟩
  · rw [slotOf_powerOn] at h; cases h
  · rw [story_powerOn] at h; cases h

theorem queueLaw_powerOn : QueueLaw (s.powerOn strap present) ∧ FontWaitLaw (s.powerOn strap present) := by
  have hpass : ∀ k, (s.powerOn strap present).inPass k = false := fun _ => rfl
  refine ⟨⟨?_, fun k => ?_, fun k => ?_, fun k => ?_⟩, ⟨?_, ?_, ?_⟩⟩ <;>
    simp only [measure_powerOn, story_powerOn, hpass] <;> simp [State.reset, unusedStory, noDepth]

/-- The link after power-on is DOWN, or in TRAINING when the present input is high (R177). -/
theorem link_powerOn_state : (s.powerOn strap present).link.state ≠ .up := by
  cases present <;> simp [State.powerOn, enterTraining, announce, transmit, powerOnLink]

theorem dispatchLaw_powerOn : DispatchLaw (s.powerOn strap present) := by
  have hkind : ∀ p, pageKind ((s.powerOn strap present).page p).state = 0 := fun p => by rw [page_powerOn]; rfl
  have hup := link_powerOn_state s strap present
  rw [dispatchLaw_iff]
  refine ⟨⟨?_, fun p => ?_, ?_, ?_, ?_, ?_, fun k => ?_⟩, ?_, fun _ h => absurd h hup⟩ <;>
    simp only [dispatch_powerOn, story_powerOn, hkind] <;> simp [State.reset, unusedStory]

theorem linkRange_powerOn : LinkRange (s.powerOn strap present).link := by
  have h0 : LinkRange { powerOnLink with present := present } := ⟨.inl rfl, rfl, nofun, nofun, nofun, nofun, nofun⟩
  cases present with
  | false => exact h0
  | true => exact ⟨h0.largest, h0.agreed, nofun, fun n h => by cases h; rfl, h0.reply, h0.wait, h0.gap⟩

theorem rangeLaw_powerOn : RangeLaw (s.powerOn strap present) := by
  have hs := slotOf_powerOn s strap present
  rw [rangeLaw_iff]
  refine ⟨fun k => ?_, ⟨fun f => ?_, ?_, ?_⟩, fun p => ⟨?_, fun n sl h => ?_, ?_⟩, ?_, ?_, linkRange_powerOn s strap present⟩
  · rw [story_powerOn]; exact ⟨Nat.zero_le _, Nat.zero_le _⟩
  · exact (by decide : 16 ≤ 40 ∧ 40 ≤ 288 ∧ 40 ≤ 48 ∧ 48 ≤ 576)
  · exact (by decide : 60 ≤ 120 ∧ 120 ≤ 4092)
  · nofun
  · rw [page_powerOn]; exact (by decide : 60 ≤ 120 ∧ 120 ≤ 480 ∧ 12 ≤ 36 ∧ 400 ≤ 6048 ∧ 6048 ≤ 8000)
  · cases (hs p n).symm.trans h
  · rw [page_powerOn]; exact Nat.zero_le _
  · exact (by decide : 1 ≤ 1 ∧ 1 ≤ 15)
  · exact ⟨nofun, nofun, (by decide : 1 ≤ 120 ∧ 120 ≤ 600), nofun⟩

end PowerOn

/-! ## Every step -/

/-- A step does nothing, powers the part on, or is a lawful change by the command at the head of the queue. -/
theorem step_cases (h : step s = .next t) :
    t = s ∨ (∃ u strap present, t = State.powerOn u strap present) ∨ ∃ x, Lawful x s t := by
  unfold step at h
  split at h
  · exact .inl (next_inj h).symm
  · rename_i c rest _
    by_cases hc : ∀ strap present, c ≠ .powerOn strap present
    · obtain ⟨x, -, hx⟩ := exec_lawful c h hc
      exact .inr (.inr ⟨x, ((Lawful.refl x s).around (u := { s with pending := rest }) rfl).trans hx⟩)
    · push Not at hc
      obtain ⟨strap, present, rfl⟩ := hc
      exact .inr (.inl ⟨_, strap, present, (next_inj h).symm⟩)

/-- Settles O6: every command is a chain of moves that fills and empties slots only with their stories' placements. -/
theorem stepsKeepPlanLaw : Obligations.StepsKeepPlanLaw := by
  intro s t hs h
  rcases step_cases h with rfl | ⟨u, strap, present, rfl⟩ | ⟨x, hx⟩
  · exact hs
  · exact planLaw_powerOn u strap present
  · exact hx.plan hs

/-- Settles O9: every command stales, measures and completes stories only together with the measure queue and engine. -/
theorem stepsKeepQueueLaw : Obligations.StepsKeepQueueLaw := by
  intro s t hp hs h
  rcases step_cases h with rfl | ⟨u, strap, present, rfl⟩ | ⟨x, hx⟩
  · exact hs
  · exact queueLaw_powerOn u strap present
  · exact hx.queue hp hs

/-- Settles O10: the page states, the closing markers and the link's state move only with the dispatch queue and engine. -/
theorem stepsKeepDispatchLaw : Obligations.StepsKeepDispatchLaw := by
  intro s t hp hs h
  rcases step_cases h with rfl | ⟨u, strap, present, rfl⟩ | ⟨x, hx⟩
  · exact hs
  · exact dispatchLaw_powerOn u strap present
  · exact hx.dispatch hp hs

/-- Settles O14: each move of a command keeps what it sets in range. -/
theorem stepsKeepRangeLaw : Obligations.StepsKeepRangeLaw := by
  intro s t hs h
  rcases step_cases h with rfl | ⟨u, strap, present, rfl⟩ | ⟨x, hx⟩
  · exact hs
  · exact rangeLaw_powerOn u strap present
  · exact hx.moves.rangeLaw hs

/-- Settles O20: a command changes phases within its one permitted effect, and an effect changes them by a row of R3's table. -/
theorem phasesAndRevisionsFollowTheirEvents : Obligations.PhasesAndRevisionsFollowTheirEvents := by
  intro c s t k h hc
  obtain ⟨x, hperm, hl⟩ := exec_lawful c h hc
  rcases hl.moves.phaseChange k with hsame | ⟨rfl, hu, hv, hr⟩ | ⟨rfl, hu, hv, hr⟩ | ⟨rfl, hu, hv, hr⟩ |
    ⟨ks, rfl, hm, hu, hv, hr⟩
  · exact .inl hsame
  · exact .inr (.inl ⟨hu, hv, hr, hperm⟩)
  · have hne : t.story k ≠ s.story k := fun he => by rw [he, hu] at hv; cases hv
    exact .inr (.inr (.inl ⟨hu, hperm.1.resolve_left hne, hperm.2⟩))
  · exact .inr (.inr (.inr (.inr ⟨hu, hv, hr, hperm⟩)))
  · obtain ⟨rfl, hcmd⟩ := hperm
    exact .inr (.inr (.inr (.inl ⟨hu, hv, hr, hcmd, mem_freezing.1 hm⟩)))

end Sys2Proof.Machine
end


section
/-! PROOFS. The values at reset, CLAIM and REOPEN (R24, R25, R11, R41, R42). -/

namespace Sys2Proof.Machine

open Safety

variable {s : State} {code : StationCode} {st : Station} {k : StoryId}

/-! ## Reset -/

/-- Settles O2: the reset state is written out field by field, and its tables list nothing. -/
theorem resetLeavesPowerOnValues : Obligations.ResetLeavesPowerOnValues := by
  refine ⟨fun _ => rfl, fun _ => rfl, fun _ => ⟨rfl, rfl, fun _ => rfl⟩, fun _ => rfl, fun _ => rfl, ?_⟩
  repeat' constructor

/-! ## Writes to HOLD -/

/-- The value of a claim is its writer's code. -/
theorem claimValue_toNat (st : Station) : (claimValue st).toNat = stationCode st := by
  have := stationCode_le st
  simp only [claimValue, BitVec.toNat_ofNat]
  omega

theorem exec_claim (hst : stationOf code = some st) (sz : Size) :
    exec (.claim code k sz) s = .next (s.writeHold st k sz (claimValue st)) := by
  show Host.Outcome.next (asStation code s _) = _
  rw [asStation_some hst]

/-- A claim by a signed-on station, once R22's tests are passed. -/
theorem writeHold_claim (hon : s.signedOn st = true) : s.writeHold st k .word (claimValue st) = s.claimRequest st k := by
  simp [State.writeHold, hon, badSize, claimValue_toNat]

theorem exec_claim_word (hst : stationOf code = some st) (hon : s.signedOn st = true) :
    exec (.claim code k .word) s = .next (s.claimRequest st k) := by
  rw [exec_claim hst, writeHold_claim hon]

/-- Only terminals have a hold limit. -/
theorem atHoldLimit_eq_false (h : ∀ u, st = .terminal u → (s.terminal u).holdCount < 16) : s.atHoldLimit st = false := by
  cases st with
  | terminal u => exact decide_eq_false (Nat.not_le.2 (h u rfl))
  | system => rfl

theorem lacksBasketRight_eq_false (h : hasBasketRight s st k) : s.lacksBasketRight st k = false := by
  unfold State.lacksBasketRight
  split
  · rw [h _ _ rfl ‹_›]; rfl
  · rfl

@[simp] theorem story_countHold (s : State) (st : Station) (f : Nat → Nat) (j : StoryId) :
    (s.countHold st f).story j = s.story j := by cases st <;> rfl

/-- What gaining a holder leaves. -/
theorem gainHold_story (s : State) (k : StoryId) (st : Station) (j : StoryId) :
    (s.gainHold k st).story j = if j = k then { s.story k with holder := some st } else s.story j := by
  rw [State.gainHold, story_countHold, story_setStory]

theorem gainHold_holdMoved (s : State) (k : StoryId) (st : Station) : holdMoved st (· + 1) s (s.gainHold k st) :=
  fun u => countHold_terminal (s.setStory k _) st (· + 1) u

theorem gainHold_frame (s : State) (k : StoryId) (st : Station) :
    s.gainHold k st = { s with stories := (s.gainHold k st).stories
                               stations := { s.stations with terminals := (s.gainHold k st).stations.terminals } } := by
  cases st <;> rfl

@[simp] theorem terminal_dropViewerOf (s : State) (k : StoryId) (st : Station) (u : TerminalId) :
    (s.dropViewerOf k st).terminal u = s.terminal u := by cases st <;> rfl

/-- A station leaves a story's viewer list; the system station is in none. -/
theorem dropViewerOf_story (s : State) (k : StoryId) (st : Station) (j : StoryId) :
    (s.dropViewerOf k st).story j = if j = k then
      { s.story k with viewers := (s.story k).viewers.filter fun v => decide (Station.terminal v.terminal ≠ st) }
    else s.story j := by
  cases st with
  | system =>
    split
    · rename_i hj; subst hj; simp [State.dropViewerOf]
    · rfl
  | terminal u =>
    rw [State.dropViewerOf, State.dropViewer, story_setStory]
    have hv : ∀ v : Viewer, (v.terminal != u) = decide (Station.terminal v.terminal ≠ .terminal u) := fun v => by
      simp [bne, BEq.beq]
    simp only [hv]

/-- A claim that is granted (R25). -/
theorem claimRequest_grant (hl : (s.story k).phase = .live) (hc : (s.story k).closing = false)
    (hh : (s.story k).holder = none) (hlim : s.atHoldLimit st = false) (hb : s.lacksBasketRight st k = false) :
    s.claimRequest st k = s.grantClaim st k := by
  simp [State.claimRequest, State.claimUsed, hl, hc, hh, hlim, hb]

theorem queueStale_frame (s : State) (k : StoryId) :
    s.queueStale k = { s with stories := (s.queueStale k).stories
                              measure := { s.measure with queue := s.measure.queue ++ [k] } } := rfl

theorem createByClaim_frame (s : State) (st : Station) (k : StoryId) :
    s.createByClaim st k = { s with
      bus := doneBus, stories := (s.createByClaim st k).stories
      measure := { s.measure with queue := s.measure.queue ++ [k] }
      stations := { s.stations with terminals := (s.createByClaim st k).stations.terminals } } := by
  unfold State.createByClaim
  rw [queueStale_frame, gainHold_frame]
  rfl

/-- Settles O28: the tests of R22 and R24 are passed, and the grant, the creation or nothing is done. -/
theorem claimGrantsOrCreates : Obligations.ClaimGrantsOrCreates := by
  intro s code st k hst hon
  simp only [exec_claim_word hst hon]
  refine ⟨fun hl hc hh => ?_, fun hlim => ⟨fun hl hc hh hb => ?_, fun hu => ?_⟩⟩
  · simp only [State.claimRequest, State.claimUsed, hl, hc, hh]
    rfl
  · rw [claimRequest_grant hl hc hh (atHoldLimit_eq_false hlim) (lacksBasketRight_eq_false hb)]
    have hs : ∀ j, (s.grantClaim st k).story j = if j = k then { s.story k with
        holder := some st, viewers := (s.story k).viewers.filter fun v => decide (Station.terminal v.terminal ≠ st) }
        else s.story j := fun j => by
      rw [State.grantClaim, story_done, dropViewerOf_story, gainHold_story, if_pos rfl, gainHold_story]
      split <;> rfl
    refine ⟨_, rfl, ?_, by rw [hs, if_pos rfl], fun j hj => by rw [hs, if_neg hj], fun u => ?_, fun a => ?_⟩
    · cases st <;> rfl
    · refine Eq.trans ?_ (gainHold_holdMoved s k st u)
      simp [State.grantClaim]
    · cases st <;> rfl
  · have hcl : s.claimRequest st k = s.createByClaim st k := by
      simp [State.claimRequest, hu, atHoldLimit_eq_false hlim]
    have hs : ∀ j, (s.createByClaim st k).story j = if j = k then
        { unusedStory with phase := .live, holder := some st, depth := { noDepth with status := .stale } }
        else s.story j := fun j => by
      simp only [State.createByClaim, State.queueStale, State.setStatus, story_done, story_setQueue, story_setStory,
        gainHold_story, if_true]
      split <;> rfl
    rw [hcl]
    refine ⟨_, rfl, ?_, by rw [hs, if_pos rfl]; rfl, fun j hj => by rw [hs, if_neg hj], fun u => ?_, fun a => ?_⟩
    · rw [createByClaim_frame]
    · exact gainHold_holdMoved (s.setStory k { unusedStory with phase := .live }) k st u
    · rw [createByClaim_frame]; rfl

/-! ## REOPEN -/

theorem exec_reopen (hst : stationOf code = some st) (sz : Size) :
    exec (.reopen code k sz) s = .next (s.writeState st k sz reopenCode) := by
  show Host.Outcome.next (asStation code s _) = _
  rw [asStation_some hst]

/-- REOPEN by the system station of a story that is not closing. -/
theorem writeState_reopen (hc : (s.story k).closing = false) :
    s.writeState .system k .word reopenCode =
      if (s.story k).phase = .unused then s.refuse .system .badState
      else if (s.story k).phase = .frozen then ((s.unfreeze k).reopenPage k).done else s.done := by
  simp [State.writeState, badSize, isTerminal, hc]

theorem unfreeze_frozen (h : (s.story k).phase = .frozen) :
    s.unfreeze k = s.setStory k { s.story k with phase := .live, revision := (s.story k).revision + 1 } := if_pos h

/-- The state a page takes when a story of its own is reopened (R42). -/
def reopened : PageState → PageState
  | .resting .sent => .resting .changed
  | .queued .sent => .queued .changed
  | x => x

theorem reopened_eq {x : PageState} (h1 : x ≠ .resting .sent) (h2 : x ≠ .queued .sent) : reopened x = x := by
  unfold reopened
  split
  · exact absurd rfl h1
  · exact absurd rfl h2
  · rfl

/-- What REOPEN does to the page of the story and to the outgoing queue, by the page's state (R42). -/
theorem reopenPage_placed {p : PageId} {n : SlotId} (h : (s.story k).placement = some (p, n)) :
    (s.reopenPage k = { s with pages := { s.pages with pages := (s.reopenPage k).pages.pages }
                               stations := (s.reopenPage k).stations }) ∧
    (∀ q, (s.reopenPage k).page q =
      if q = p then { s.page p with state := reopened (s.page p).state } else s.page q) ∧
    ((s.page p).state ≠ .resting .sent → (s.reopenPage k).stations = s.stations) ∧
    ((s.page p).state = .resting .sent → s.stations.outgoing.length < 256 →
      (s.reopenPage k).stations = { s.stations with
        outgoing := s.stations.outgoing ++ [{ recipient := .system
                                              notice := { s.storyNotice .pageChanged 0 k with
                                                page := some p, slot := some n, cause := some .system } }] }) := by
  have hset : ∀ y q, (s.setPageState p y).page q = if q = p then { s.page p with state := y } else s.page q := fun y q =>
    page_setPage s q p _
  have hsame : ∀ q, s.page q = if q = p then { s.page p with state := (s.page p).state } else s.page q := fun q => by
    split
    · rename_i hq; rw [hq]
    · rfl
  simp only [State.reopenPage, h]
  split
  · rename_i hst
    refine ⟨?_, fun q => ?_, fun hn => absurd hst hn, fun _ hl => ?_⟩
    · rw [butStations_eq (butStations_raise _ _ _)]; rfl
    · rw [page_raise, hset, hst]; rfl
    · exact congrArg State.stations (raise_taken (s.setPageState p (.resting .changed)) .system _ rfl hl)
  · rename_i hst
    exact ⟨rfl, fun q => by rw [hset, hst]; rfl, fun _ => rfl, fun he => by simp [hst] at he⟩
  · rename_i h1 h2
    have hre := reopened_eq h1 h2
    exact ⟨rfl, fun q => by rw [hre]; exact hsame q, fun _ => rfl, fun he => absurd he h1⟩

/-- Settles O31: REOPEN thaws the story, and its page follows by its state. -/
theorem reopenReturnsTheStory : Obligations.ReopenReturnsTheStory := by
  intro s k p n hc
  have hex : exec (.reopen 127#7 k .word) s = _ := exec_reopen rfl .word
  rw [hex, writeState_reopen hc]
  refine ⟨fun hl => by simp [hl]; rfl, fun hu => by simp [hu]; rfl, fun hf hp => ⟨_, rfl, ?_⟩⟩
  rw [if_neg (by simp [hf]), if_pos hf]
  have hk : ((s.unfreeze k).story k).placement = some (p, n) := (unfreeze_placement s k k).1.trans hp
  have hnot : (s.unfreeze k).storyNotice .pageChanged 0 k = s.storyNotice .pageChanged 0 k := by
    simp [unfreeze_frozen hf, State.storyNotice, State.plainNotice]
  have hu := unfreeze_frozen hf
  have hpage : ∀ q, (s.unfreeze k).page q = s.page q := fun q => by rw [hu]; rfl
  have hstn : (s.unfreeze k).stations = s.stations := by rw [hu]; rfl
  obtain ⟨hframe, hpages, hquiet, hraised⟩ := reopenPage_placed hk
  simp only [hpage, hnot, hstn] at hpages hquiet hraised
  have hstory : ∀ j, ((s.unfreeze k).reopenPage k).done.story j = (s.unfreeze k).story j := fun j => by
    rw [story_done, hframe]; rfl
  refine ⟨rfl, by rw [hstory, hu, story_setStory_same], fun j hj => by rw [hstory, hu, story_setStory_ne s _ hj],
    fun a => ?_, fun q hq => ?_, ?_, fun hs hl => ⟨?_, ?_⟩, fun hs => ⟨?_, ?_⟩, ?_⟩
  · rw [memByte_done, hframe, hu]; rfl
  · rw [page_done, hpages, if_neg hq]
  · rw [hframe, hu]; rfl
  · rw [page_done, hpages, if_pos rfl, hs]; rfl
  · exact hraised hs hl
  · rw [page_done, hpages, if_pos rfl, hs]; rfl
  · exact hquiet (by rw [hs]; nofun)
  · rintro (hs | hs)
    all_goals
      have hre : reopened (s.page p).state = (s.page p).state := by rw [hs]; rfl
      exact ⟨by rw [page_done, hpages, if_pos rfl, hre], hquiet (by rw [hs]; nofun)⟩

end Sys2Proof.Machine
end


section
/-! PROOFS. Accesses by bus address: addresses of the window, the places of a story's header, and live words as every station reads
and writes them (R165, R166, R168, section 11.2). -/

namespace Sys2Proof.Machine

open Safety

variable {s : State} {code : StationCode} {st : Station} {k : StoryId}

/-! ## Addresses of the window -/

theorem base_le (s : State) : s.base + windowBytes ≤ 2 ^ 32 := by
  have := s.strap.isLt
  simp only [State.base, windowBytes]
  omega

/-- The bus address of an offset of the window does not wrap. -/
theorem windowAddr_toNat {off : Nat} (h : off < windowBytes) : (windowAddr s off).toNat = s.base + off := by
  have := base_le s
  simp only [windowAddr, BitVec.toNat_ofNat]
  omega

theorem inWindow_windowAddr {off : Nat} (h : off < windowBytes) : s.inWindow (windowAddr s off).toNat = true := by
  rw [windowAddr_toNat h]
  simp [State.inWindow, h]

/-- The window starts at a multiple of every access size (R165). -/
theorem aligned_windowAddr {off : Nat} (h : off < windowBytes) (sz : Size) :
    aligned (windowAddr s off).toNat sz = aligned off sz := by
  have hb : s.base % sizeBytes sz = 0 := by
    cases sz <;> simp only [State.base, windowBytes, sizeBytes] <;> omega
  rw [windowAddr_toNat h, aligned, aligned, Nat.add_mod, hb, Nat.zero_add, Nat.mod_mod]

/-- An aligned access to the window by a station with a record. -/
theorem access_windowAddr (hst : stationOf code = some st) {off : Nat} (h : off < windowBytes) (w : Bool) (sz : Size)
    (data : Data) (f : Bool) :
    s.access code w (windowAddr s off) sz data f =
      if w then s.writeWindow st off sz data f else s.readWindow st off sz f := by
  rw [State.access, if_pos (inWindow_windowAddr h), asStation_some hst, windowAddr_toNat h, Nat.add_sub_cancel_left]

theorem exec_liveWordWrite (hst : stationOf code = some st) {off : Nat} (h : off < windowBytes) {sz : Size}
    (ha : aligned off sz = true) (data : Data) (f : Bool) :
    exec (.liveWordWrite code (windowAddr s off) sz data f) s = .next (s.writeWindow st off sz data f) := by
  show (if aligned (windowAddr s off).toNat sz = true then _ else _) = _
  rw [if_pos (by rw [aligned_windowAddr h, ha]), access_windowAddr hst h, if_pos rfl]

theorem exec_read (hst : stationOf code = some st) {off : Nat} (h : off < windowBytes) {sz : Size}
    (ha : aligned off sz = true) (data : Data) (f : Bool) :
    exec (.plainPassThrough code false (windowAddr s off) sz data f) s = .next (s.readWindow st off sz f) := by
  show (if aligned (windowAddr s off).toNat sz = true then _ else _) = _
  rw [if_pos (by rw [aligned_windowAddr h, ha]), access_windowAddr hst h, if_neg Bool.false_ne_true]

/-! ## The bytes of a word -/

/-- Bit by bit, what bytes pack to. -/
theorem packBytes_getLsbD (bs : List Byte) (i : Nat) (hi : i < 128) :
    (packBytes bs).getLsbD i = (bs[i / 8]?.getD 0).getLsbD (i % 8) := by
  induction bs generalizing i with
  | nil => simp [packBytes]
  | cons b bs ih =>
    simp only [packBytes, BitVec.getLsbD_or, BitVec.getLsbD_shiftLeft, BitVec.getLsbD_setWidth, hi, decide_true, Bool.true_and]
    by_cases h : i < 8
    · rw [Nat.div_eq_of_lt h, Nat.mod_eq_of_lt h]
      simp [h]
    · obtain ⟨j, rfl⟩ : ∃ j, i = j + 8 := ⟨i - 8, by omega⟩
      have hb : b.getLsbD (j + 8) = false := BitVec.getLsbD_of_ge _ _ (by omega)
      simp only [hb, Nat.add_sub_cancel, ih j (by omega), Nat.add_div_right j (by decide : 0 < 8), Nat.add_mod_right]
      simp

/-- The bytes of a word from byte `a` on pack to its bits from there on. -/
theorem packBytes_wordBytes (v : Word) (a n : Nat) (h : a + n ≤ 4) :
    packBytes ((List.range n).map fun i => wordByte v (a + i)) = (v.extractLsb' (8 * a) (8 * n)).setWidth 128 := by
  apply BitVec.eq_of_getLsbD_eq
  intro i hi
  rw [packBytes_getLsbD _ _ hi, BitVec.getLsbD_setWidth, BitVec.getLsbD_extractLsb']
  by_cases hn : i / 8 < n
  · have h1 : 8 * (a + i / 8) + i % 8 = 8 * a + i := by omega
    have h2 : i < 8 * n := by omega
    simp [hn, wordByte, h1, h2, hi, Nat.mod_lt]
  · have h2 : ¬ i < 8 * n := by omega
    simp [hn, h2]

/-! ## Live words -/

/-- A live word stands whole at an offset of the window, and is not LINK STATUS. -/
structure LiveAt (w : LiveWord) (off : Nat) : Prop where
  inside : off + 4 ≤ windowBytes
  whole : off % 4 = 0
  place : ∀ i, i < 4 → placeOf (off + i) = .live w
  quiet : w ≠ .linkStatus

variable {w : LiveWord} {off : Nat}

/-- An access within a live word takes in no byte of LINK STATUS and reaches no memory. -/
theorem LiveAt.untouched (h : LiveAt w off) {a : Nat} {sz : Size} (ha : a + sizeBytes sz ≤ 4) :
    touchesLinkStatus (off + a) sz = false ∧ touchesPlain (off + a) sz = false := by
  have hp : ∀ x ∈ accessOffsets (off + a) sz, placeOf x = .live w := fun x hx => by
    obtain ⟨i, hi, rfl⟩ := List.mem_map.1 hx
    rw [Nat.add_assoc]
    exact h.place _ (by have := List.mem_range.1 hi; omega)
  constructor
  · refine List.any_eq_false.2 fun x hx => ?_
    simp [hp x hx, h.quiet]
  · refine List.any_eq_false.2 fun x hx => ?_
    simp [hp x hx, isLive]

/-- A read within a live word shows its bytes and changes nothing (R168). -/
theorem LiveAt.readWindow (h : LiveAt w off) {a : Nat} {sz : Size} (ha : a + sizeBytes sz ≤ 4) (st : Station) (f : Bool) :
    s.readWindow st (off + a) sz f =
      { s with bus := readBus (((s.liveWord w).extractLsb' (8 * a) (8 * sizeBytes sz)).setWidth 128) } := by
  obtain ⟨hlink, hplain⟩ := h.untouched ha
  have hlt : a < 4 := by have : 0 < sizeBytes sz := by cases sz <;> decide
                         omega
  have hfree : s.readFree (off + a) sz = s := by
    have : ((accessOffsets (off + a) sz).any fun x => (s.beingWritten x).isSome) = false := by
      refine List.any_eq_false.2 fun x hx => ?_
      obtain ⟨i, hi, rfl⟩ := List.mem_map.1 hx
      have hpl := h.place (a + i) (by have := List.mem_range.1 hi; omega)
      rw [← Nat.add_assoc] at hpl
      unfold State.beingWritten
      rw [hpl]
      simp
    rw [State.readFree, if_neg (by rw [this]; exact Bool.false_ne_true)]
  have hbytes : (List.range (sizeBytes sz)).map (s.readByteAt (off + a)) =
      (List.range (sizeBytes sz)).map fun i => wordByte (s.liveWord w) (a + i) := by
    refine List.map_congr_left fun i hi => ?_
    have hi := List.mem_range.1 hi
    have hpl := h.place (a + i) (by omega)
    have hm : (off + (a + i)) % 4 = a + i := by have := h.whole; omega
    rw [State.readByteAt, Nat.add_assoc, hpl, hm]
  have hread : s.readWindow st (off + a) sz f = s.readWords st (off + a) sz f := by
    rw [State.readWindow, h.place a hlt]
  rw [hread, State.readWords, State.clearLatch, hlink, hplain]
  simp only [Bool.and_false, Bool.false_and, Bool.false_eq_true, if_false, hfree, hbytes]
  rw [packBytes_wordBytes _ _ _ ha]
  rfl

/-- Every station reads a live word whole, by halves and by bytes. -/
theorem LiveAt.shows (h : LiveAt w off) : showsWord s off (s.liveWord w) := by
  intro code st d f hst
  have hin := h.inside
  have hwh := h.whole
  have hread : ∀ (a : Nat) (sz : Size), a + sizeBytes sz ≤ 4 → a % sizeBytes sz = 0 →
      exec (.plainPassThrough code false (windowAddr s (off + a)) sz d f) s =
        .next { s with bus := readBus (((s.liveWord w).extractLsb' (8 * a) (8 * sizeBytes sz)).setWidth 128) } := by
    intro a sz ha hal
    have hsz : sizeBytes sz ∣ 4 := by
      cases sz
      · exact ⟨4, rfl⟩
      · exact ⟨2, rfl⟩
      · exact ⟨1, rfl⟩
      · simp [sizeBytes] at ha
    have hpos : 0 < sizeBytes sz := by cases sz <;> decide
    have halign : aligned (off + a) sz = true := by
      have : off % sizeBytes sz = 0 := Nat.mod_eq_zero_of_dvd (hsz.trans (Nat.dvd_of_mod_eq_zero hwh))
      simp [aligned, Nat.add_mod, this, hal]
    rw [exec_read hst (by omega) halign, h.readWindow ha]
  refine ⟨?_, fun i hi => ?_, fun i hi => ?_⟩
  · have := hread 0 .word (by decide) (by decide)
    simpa [sizeBytes] using this
  · have := hread (2 * i) .half (by simp only [sizeBytes]; omega) (by simp only [sizeBytes]; omega)
    rw [show 8 * (2 * i) = 16 * i by omega] at this
    exact this
  · exact hread i .byte (by simp only [sizeBytes]; omega) (by simp only [sizeBytes]; omega)

/-- A write within a live word that is no burst is a write to the word. -/
theorem LiveAt.writeWindow (h : LiveAt w off) {a : Nat} {sz : Size} (ha : a < 4) (hsz : sz ≠ .burst) (st : Station)
    (data : Data) (f : Bool) : s.writeWindow st (off + a) sz data f = s.writeLive st sz (dataWord data) w := by
  rw [State.writeWindow, h.place a ha, if_neg (by simp [hsz])]

/-- A whole value written to a live word by address. -/
theorem LiveAt.exec_write (h : LiveAt w off) (hst : stationOf code = some st) (v : Word) (f : Bool) :
    exec (.liveWordWrite code (windowAddr s off) .word (v.setWidth 128) f) s = .next (s.writeLive st .word v w) := by
  have hin := h.inside
  have hw := h.writeWindow (s := s) (a := 0) (by decide) (by decide : Size.word ≠ .burst) st (v.setWidth 128) f
  rw [exec_liveWordWrite hst (by omega) (by simpa [aligned, sizeBytes] using h.whole)]
  rw [Nat.add_zero] at hw
  rw [hw, dataWord]
  simp

/-- A live word with no behaviour of its own refuses every write (R168). -/
theorem LiveAt.refuses (h : LiveAt w off) (hw : ∀ st sz v, s.writeLive st sz v w = s.writeReadOnly st sz) :
    refusesWrites s off := by
  intro code st d f hst
  have hin := h.inside
  have hwh := h.whole
  have hwrite : ∀ (a : Nat) (sz : Size), a < 4 → sz ≠ .burst → aligned (off + a) sz = true →
      exec (.liveWordWrite code (windowAddr s (off + a)) sz d f) s = .next (s.writeReadOnly st sz) := fun a sz ha hsz hal => by
    rw [exec_liveWordWrite hst (by omega) hal, h.writeWindow ha hsz, hw]
  refine ⟨?_, fun i hi => ?_, fun i hi => ?_, ?_⟩
  · exact (hwrite 0 .word (by decide) (by decide) (by simpa [aligned, sizeBytes] using hwh)).trans rfl
  · exact (hwrite (2 * i) .half (by omega) (by decide) (by simp only [aligned, sizeBytes, beq_iff_eq]; omega)).trans rfl
  · exact (hwrite i .byte (by omega) (by decide) (by simp only [aligned, sizeBytes, beq_iff_eq]; omega)).trans rfl
  · rw [exec_liveWordWrite hst (by omega) (by simp [aligned, sizeBytes])]
    have htouch : touchesLive (off / 16 * 16) .burst = true := by
      refine List.any_eq_true.2 ⟨off, List.mem_map.2 ⟨off % 16, ?_, by omega⟩, ?_⟩
      · exact List.mem_range.2 (Nat.mod_lt _ (by decide))
      · have := h.place 0 (by decide)
        rw [Nat.add_zero] at this
        rw [this]; rfl
    rw [State.writeWindow, htouch]
    rfl

/-! ## The places of a story's header -/

/-- The place of each byte of a story's header (section 11.2). -/
theorem placeOf_header (k : StoryId) {h : Nat} (hh : h < 64) : placeOf (0x1000000 + 64 * k.val + h) = headerPlace k h := by
  have hk := k.isLt
  have h1 : ¬ 0x1000000 + 64 * k.val + h < 0x1000000 := by omega
  have h2 : 0x1000000 + 64 * k.val + h < 0x1020000 := by omega
  have h3 : (0x1000000 + 64 * k.val + h - 0x1000000) / 64 = k.val := by omega
  have h4 : (0x1000000 + 64 * k.val + h - 0x1000000) % 64 = h := by omega
  have h5 : Fin.ofNat 2048 k.val = k := Fin.ext (Nat.mod_eq_of_lt hk)
  rw [placeOf, if_neg h1, if_pos h2, h3, h4, h5]

/-- A word of the live block of a header. -/
theorem liveAt_header (k : StoryId) {h : Nat} (hh : h + 4 ≤ 64) (h4 : h % 4 = 0)
    (hp : ∀ i, i < 4 → headerPlace k (h + i) = .live w) (hw : w ≠ .linkStatus) : LiveAt w (0x1000000 + h + 64 * k.val) := by
  have hk := k.isLt
  refine ⟨by simp only [windowBytes]; omega, by omega, fun i hi => ?_, hw⟩
  rw [show 0x1000000 + h + 64 * k.val + i = 0x1000000 + 64 * k.val + (h + i) by omega, placeOf_header k (by omega), hp i hi]

theorem liveAt_hold (k : StoryId) : LiveAt (.hold k) (0x1000000 + 64 * k.val) :=
  liveAt_header k (h := 0) (by decide) (by decide) (fun i hi => by interval_cases i <;> rfl) (by simp)

theorem liveAt_route (k : StoryId) : LiveAt (.route k) (0x1000004 + 64 * k.val) :=
  liveAt_header k (h := 4) (by decide) (by decide) (fun i hi => by interval_cases i <;> rfl) (by simp)

theorem liveAt_state (k : StoryId) : LiveAt (.state k) (0x1000008 + 64 * k.val) :=
  liveAt_header k (h := 8) (by decide) (by decide) (fun i hi => by interval_cases i <;> rfl) (by simp)

theorem liveAt_placement (k : StoryId) : LiveAt (.placement k) (0x100000C + 64 * k.val) :=
  liveAt_header k (h := 12) (by decide) (by decide) (fun i hi => by interval_cases i <;> rfl) (by simp)

theorem liveAt_depthLow (k : StoryId) : LiveAt (.depthLow k) (0x1000010 + 64 * k.val) :=
  liveAt_header k (h := 16) (by decide) (by decide) (fun i hi => by interval_cases i <;> rfl) (by simp)

theorem liveAt_depthHigh (k : StoryId) : LiveAt (.depthHigh k) (0x1000014 + 64 * k.val) :=
  liveAt_header k (h := 20) (by decide) (by decide) (fun i hi => by interval_cases i <;> rfl) (by simp)

theorem liveAt_viewers (k : StoryId) : LiveAt (.viewers k) (0x1000018 + 64 * k.val) :=
  liveAt_header k (h := 24) (by decide) (by decide) (fun i hi => by interval_cases i <;> rfl) (by simp)

/-- The plain part of a header (R17). -/
theorem placeOf_headerPlain (k : StoryId) {h : Nat} (hl : 0x1C ≤ h) (hh : h < 64) :
    placeOf (0x1000000 + 64 * k.val + h) = .headerPlain k h := by
  rw [placeOf_header k hh]
  have h7 : 7 ≤ h / 4 := by omega
  unfold headerPlace
  split
  case h_8 => rfl
  all_goals omega

/-- An access to the plain part of a header: an aligned burst there lies in it whole. -/
theorem writeWindow_headerPlain (k : StoryId) (st : Station) {h : Nat} {sz : Size} (ha : aligned h sz = true) (hl : 0x1C ≤ h)
    (hh : h < 64) (data : Data) (f : Bool) :
    s.writeWindow st (0x1000000 + k.val * 64 + h) sz data f = s.writeHeaderPlain st k h sz data f := by
  have hburst : (sz == .burst && touchesLive (0x1000000 + 64 * k.val + h) sz) = false := by
    rw [Bool.and_eq_false_iff]
    by_cases hsz : sz = .burst
    · right
      subst hsz
      refine List.any_eq_false.2 fun x hx => ?_
      obtain ⟨i, hi, rfl⟩ := List.mem_map.1 hx
      have hi : i < 16 := List.mem_range.1 hi
      have ha : h % 16 = 0 := by simpa [aligned, sizeBytes] using ha
      rw [Nat.add_assoc, placeOf_headerPlain k (by omega) (by omega)]
      simp [isLive]
    · left; simp [hsz]
  rw [Nat.mul_comm k.val 64, State.writeWindow, hburst, placeOf_headerPlain k hl hh]
  rfl

end Sys2Proof.Machine
end


section
/-! PROOFS. Refusals follow the order of their tables: a table of tests against the reason of the first condition that holds. -/

namespace Sys2Proof.Machine

open Safety

variable {s t : State} {code : StationCode} {st : Station} {k : StoryId} {r own : Reason}

/-! ## Tables of tests -/

/-- A state is what a write refused for a reason leaves; nothing is said for `.none`. -/
def Refuses (s : State) (st : Station) (r : Reason) (t : State) : Prop :=
  r ≠ .none → t = { s.setLastRefusal st r with bus := refuseBus }

theorem Refuses.refuse : Refuses s st r (s.refuse st r) := fun _ => rfl

theorem Refuses.none : Refuses s st .none t := fun h => absurd rfl h

theorem Refuses.if {p q : Prop} [Decidable p] [Decidable q] {r' : Reason} {t' : State} (hpq : q ↔ p)
    (h : p → Refuses s st r t) (h' : ¬ p → Refuses s st r' t') :
    Refuses s st (if p then r else r') (if q then t else t') := by
  by_cases hp : p
  · rw [if_pos hp, if_pos (hpq.2 hp)]; exact h hp
  · rw [if_neg hp, if_neg (mt hpq.1 hp)]; exact h' hp

/-- The first test of a table, and the rest of it. -/
theorem Refuses.test {p : Prop} [Decidable p] {b : Bool} {ts : List (Bool × Reason)} (hb : b = true ↔ p)
    (h : ¬ p → Refuses s st own (testing st ts s t)) :
    Refuses s st (if p then r else own) (testing st ((b, r) :: ts) s t) := by
  rw [testing_cons]
  exact .if hb (fun _ => .refuse) h

/-- The last test of a table. -/
theorem Refuses.last {p : Prop} [Decidable p] {b : Bool} (hb : b = true ↔ p) (h : ¬ p → Refuses s st own t) :
    Refuses s st (if p then r else own) (testing st [(b, r)] s t) := .test hb h

/-- A test that is not met. -/
theorem Refuses.skip {b : Bool} {ts : List (Bool × Reason)} {r' : Reason} (hb : b = false)
    (h : Refuses s st r (testing st ts s t)) : Refuses s st r (testing st ((b, r') :: ts) s t) := by
  rw [testing_cons, hb]
  exact h

theorem refusedFor_of_exec {c : Instr} (h : exec c s = .next t) (hr : Refuses s st r t) : refusedFor c s st r :=
  fun hn => by rw [h, hr hn]

theorem valueRefused_of_live {w : LiveWord} {off : Nat} (hw : LiveAt w off) (hst : stationOf code = some st) {v : Word}
    (hr : Refuses s st r (s.writeLive st .word v w)) : valueRefused s code st off v r :=
  fun f => refusedFor_of_exec (hw.exec_write hst v f) hr

theorem badSize_iff (sz : Size) : badSize sz = true ↔ sz ≠ .word := by simp [badSize]

theorem not_signedOn_iff : (!s.signedOn st) = true ↔ s.signedOn st = false := by simp

theorem isTerminal_iff (st : Station) : isTerminal st = true ↔ st ≠ .system := by cases st <;> simp [isTerminal]

/-- The tests of R22 and R51 that come before a request's own. -/
theorem Refuses.signOnFirst {sz : Size} (h : Refuses s st own t) :
    Refuses s st (afterSignOn s st sz own)
      (testing st [(badSize sz, .badSize), (!s.signedOn st, .notSignedOn)] s t) :=
  .test (badSize_iff sz) fun _ => .last not_signedOn_iff fun _ => h

/-- The tests of R18 that come before a request's own. -/
theorem Refuses.systemFirst {sz : Size} {ts : List (Bool × Reason)} (h : Refuses s st own (testing st ts s t)) :
    Refuses s st (afterSystem st sz own) (testing st ((badSize sz, .badSize) :: (isTerminal st, .noRight) :: ts) s t) :=
  .test (badSize_iff sz) fun _ => .test (isTerminal_iff st) fun _ => h

/-! ## Text, header and ring slots -/

theorem exec_textWrite (hst : stationOf code = some st) {pos : Fin 8192} {sz : Size} (ha : aligned pos.val sz = true)
    (data : Data) (f : Bool) : exec (.textWrite code k pos sz data f) s = .next (s.writeText st k pos.val sz data f) := by
  show (if aligned pos.val sz = true then _ else _) = _
  rw [if_pos ha, asStation_some hst]

theorem exec_headerPlainWrite (hst : stationOf code = some st) {off : Fin 64} {sz : Size} (ha : aligned off.val sz = true)
    (hl : 0x1C ≤ off.val) (data : Data) (f : Bool) :
    exec (.headerPlainWrite code k off sz data f) s = .next (s.writeHeaderPlain st k off.val sz data f) := by
  show (if aligned off.val sz = true then _ else _) = _
  rw [if_pos ha, asStation_some hst, writeWindow_headerPlain k st ha hl off.isLt]

theorem exec_ringSlotWrite (hst : stationOf code = some st) {owner : Station} {off : Fin 512} {sz : Size}
    (ha : aligned off.val sz = true) (data : Data) (f : Bool) :
    exec (.ringSlotWrite code owner off sz data f) s = .next (s.writeRing st owner off.val sz data f) := by
  show (if aligned off.val sz = true then _ else _) = _
  rw [if_pos ha, asStation_some hst]

/-- The order of R36. -/
theorem admission_refuses (s t : State) (st : Station) (k : StoryId) :
    Refuses s st
      (if s.signedOn st = false then .notSignedOn
      else if (s.story k).phase = .unused then .badState
      else if (s.story k).phase = .frozen then .frozen
      else if (s.story k).closing = true then .closing
      else if (s.story k).holder = none ∧ st ≠ .system then .notHolder
      else if (s.story k).holder ≠ none ∧ (s.story k).holder ≠ some st then .heldByOther
      else .none)
      (testing st (s.admission st k) s t) := by
  refine .test not_signedOn_iff fun _ => .test (by simp) fun _ => .test (by simp) fun _ => .test Iff.rfl fun _ =>
    .test ?_ fun _ => .last ?_ fun _ => .none
  · simp [isTerminal_iff, and_comm]
  · simp [Option.isSome_iff_ne_none]

theorem writeAdmissionRefusesInOrder : Parts.WriteAdmissionRefusesInOrder := by
  intro s code st k pos off sz data f r hst hpos hoff hl hr hn
  subst hr
  exact ⟨refusedFor_of_exec (exec_textWrite hst hpos data f) (admission_refuses s _ st k) hn,
    refusedFor_of_exec (exec_headerPlainWrite hst hoff hl data f) (admission_refuses s _ st k) hn⟩

theorem ringSlotWritesRefuseInOrder : Parts.RingSlotWritesRefuseInOrder := by
  intro s code st owner off sz data f hst ha
  refine refusedFor_of_exec (exec_ringSlotWrite hst ha data f) (.test not_signedOn_iff fun _ => .last ?_ fun _ => .none)
  simp [isTerminal_iff]

/-! ## HOLD -/

theorem exec_release (hst : stationOf code = some st) (sz : Size) :
    exec (.release code k sz) s = .next (s.writeHold st k sz noneCode) := by
  show Host.Outcome.next (asStation code s _) = _
  rw [asStation_some hst]

theorem exec_breakHold (hst : stationOf code = some st) (sz : Size) :
    exec (.breakHold code k sz) s = .next (s.writeHold st k sz breakCode) := by
  show Host.Outcome.next (asStation code s _) = _
  rw [asStation_some hst]

/-- The request a value written to HOLD asks for. -/
theorem writeHold_eq (sz : Size) (v : Word) : s.writeHold st k sz v =
    testing st [(badSize sz, .badSize), (!s.signedOn st, .notSignedOn)] s
      (if v.toNat = stationCode st then s.claimRequest st k
      else if v = noneCode then s.releaseRequest st k
      else if v = breakCode then s.breakRequest st k
      else s.refuse st .badValue) := rfl

theorem claimRequest_refuses (s : State) (st : Station) (k : StoryId) :
    Refuses s st (claimReason s st k) (s.claimRequest st k) := by
  refine .if Iff.rfl (fun _ => .last Iff.rfl fun _ => .none) fun _ => ?_
  refine .test (by simp) fun _ => .last Iff.rfl fun _ => ?_
  refine .if Iff.rfl (fun _ => .none) fun _ => ?_
  exact .test (by simp [Option.isSome_iff_ne_none]) fun _ => .test Iff.rfl fun _ => .last Iff.rfl fun _ => .none

theorem stationOf_code (h : stationOf code = some st) : stationCode st = code.toNat := by
  unfold stationOf at h
  split at h
  · cases h; rfl
  · split at h
    · rename_i hc; cases h; rw [hc]; rfl
    · cases h

theorem holdWritesRefuseInOrder : Parts.HoldWritesRefuseInOrder := by
  intro s code st k sz hst
  refine ⟨refusedFor_of_exec (exec_claim hst sz) ?_, refusedFor_of_exec (exec_release hst sz) ?_,
    refusedFor_of_exec (exec_breakHold hst sz) ?_, fun v h1 h2 h3 => valueRefused_of_live (liveAt_hold k) hst ?_⟩
  · rw [writeHold_eq, if_pos (claimValue_toNat st)]
    exact .signOnFirst (claimRequest_refuses s st k)
  · rw [writeHold_eq, if_neg (code_ne_stationCode (by decide) st), if_pos rfl]
    refine .signOnFirst ?_
    unfold State.releaseRequest
    by_cases h : (s.story k).holder = some st
    · simp only [h, ne_eq, not_true_eq_false, if_false]; exact .none
    · simp only [h, ne_eq, not_false_eq_true, if_true, if_false]; exact .refuse
  · rw [writeHold_eq, if_neg (code_ne_stationCode (by decide) st), if_neg (show breakCode ≠ noneCode by decide), if_pos rfl]
    exact .signOnFirst (.last (isTerminal_iff st) fun _ => .none)
  · show Refuses _ _ _ (s.writeHold st k .word v)
    rw [writeHold_eq, if_neg (by rw [stationOf_code hst]; exact h1), if_neg (show v ≠ noneCode from h2),
      if_neg (show v ≠ breakCode from h3)]
    exact .signOnFirst .refuse

/-! ## STATE -/

theorem reopenRefusesInOrder : Parts.ReopenRefusesInOrder := by
  intro s code st k sz hst
  refine ⟨refusedFor_of_exec (exec_reopen hst sz) ?_, fun v hv => valueRefused_of_live (liveAt_state k) hst ?_⟩
  · refine .systemFirst ?_
    exact .skip (bne_self_eq_false _) (.test beq_iff_eq fun _ => .last Iff.rfl fun _ => .none)
  · refine .systemFirst ?_
    rw [testing_cons, if_pos (by simpa [reopenCode] using hv)]
    exact .refuse

/-! ## ROUTE -/

theorem exec_route_basket (hst : stationOf code = some st) (sz : Size) (b : BasketId) (p : Priority) :
    exec (.routeToBasket code k sz b p) s = .next (s.writeRoute st k sz (.basket b p)) := by
  show Host.Outcome.next (asStation code s _) = _
  rw [asStation_some hst]

theorem exec_route_out (hst : stationOf code = some st) (sz : Size) :
    exec (.routeToNone code k sz) s = .next (s.writeRoute st k sz .out) := by
  show Host.Outcome.next (asStation code s _) = _
  rw [asStation_some hst]

theorem exec_purge (hst : stationOf code = some st) (sz : Size) :
    exec (.purge code k sz) s = .next (s.writeRoute st k sz .purge) := by
  show Host.Outcome.next (asStation code s _) = _
  rw [asStation_some hst]

/-- A terminal that is not the holder of a held story. -/
theorem heldByOther_iff (s : State) (st : Station) (k : StoryId) :
    (isTerminal st && (s.story k).holder.isSome && (s.story k).holder != some st) = true ↔
      st ≠ .system ∧ (s.story k).holder ≠ none ∧ (s.story k).holder ≠ some st := by
  simp [isTerminal_iff, Option.isSome_iff_ne_none, and_assoc]

/-- The order of R52. -/
theorem routeRight_refuses {ts : List (Bool × Reason)} (h : Refuses s st own (testing st ts s t)) :
    Refuses s st (afterRouteRight s st k own) (testing st (s.routeRight st k ++ ts) s t) :=
  .test (heldByOther_iff s st k) fun _ => .test (by simp) fun _ => h

theorem basketFull_iff (s : State) (b : BasketId) :
    s.basketFull b = true ↔ (s.basket b).limit ≤ (s.basket b).list.length := by
  exact decide_eq_true_iff

theorem purgeRequest_refuses (s : State) (st : Station) (k : StoryId) :
    Refuses s st (purgeReason s st k) (s.purgeRequest st k) := by
  refine .test (by simp) fun _ => .test (by simp) fun _ => .test Iff.rfl fun _ => .test (heldByOther_iff s st k) fun _ =>
    .test ?_ fun _ => .last ?_ fun _ => .none
  · simp [isTerminal_iff]
  · simp [Option.isSome_iff_ne_none]

/-- A value whose basket part names no basket, NONE or PURGE asks for no route (R51). -/
theorem routeAsked_bad {v : Word} (h1 : 32 ≤ (v.extractLsb' 0 8).toNat) (h2 : v.extractLsb' 0 8 ≠ 0xFF#8)
    (h3 : v.extractLsb' 0 8 ≠ 0xFE#8) : routeAsked v = .bad := by
  have hne : ∀ c : Byte, v.extractLsb' 0 8 ≠ c → (v.extractLsb' 0 8).toNat ≠ c.toNat := fun c hc h =>
    hc (BitVec.eq_of_toNat_eq h)
  unfold routeAsked
  exact (dif_neg (by omega)).trans ((if_neg (hne _ h2)).trans (if_neg (hne _ h3)))

theorem routeWritesRefuseInOrder : Parts.RouteWritesRefuseInOrder := by
  intro s code st k sz hst
  refine ⟨fun b p => refusedFor_of_exec (exec_route_basket hst sz b p) (.signOnFirst ?_),
    refusedFor_of_exec (exec_route_out hst sz) (.signOnFirst ?_),
    refusedFor_of_exec (exec_purge hst sz) (.signOnFirst (purgeRequest_refuses s st k)),
    fun v h1 h2 h3 => valueRefused_of_live (liveAt_route k) hst ?_⟩
  · refine .if Iff.rfl (fun _ => .last (basketFull_iff s b) fun _ => .none) fun _ => routeRight_refuses ?_
    exact .last (by simp [basketFull_iff]) fun _ => .none
  · refine .if Iff.rfl (fun _ => .refuse) fun _ => ?_
    have := routeRight_refuses (k := k) (ts := []) (t := ((s.unfile k).endHoldByRoute st k).done)
      (.none : Refuses s st .none _)
    rwa [List.append_nil] at this
  · show Refuses _ _ _ (s.writeRoute st k .word (routeAsked v))
    rw [routeAsked_bad h1 h2 h3]
    exact .signOnFirst .refuse

/-- Settles O29: each table's tests stand in the order of its rule. -/
theorem refusalsFollowTheirOrder : Obligations.RefusalsFollowTheirOrder :=
  ⟨writeAdmissionRefusesInOrder, ringSlotWritesRefuseInOrder, holdWritesRefuseInOrder, reopenRefusesInOrder,
    routeWritesRefuseInOrder⟩

end Sys2Proof.Machine
end


section
/-! PROOFS. Text and the other plain words: TEXT_READ, TEXT_WRITE and words that pass through to memory (R16, R17, R37, R86, R100 to
R102, R112, R165, R168). -/

namespace Sys2Proof.Machine

open Safety

variable {s t : State} {code : StationCode} {st : Station} {k : StoryId}

/-! ## TEXT_READ -/

theorem exec_textRead (hst : stationOf code = some st) {pos : Fin 8192} {sz : Size} (ha : aligned pos.val sz = true)
    (f : Bool) : exec (.textRead code k pos sz f) s = .next (s.readText st k pos.val sz f) := by
  show (if aligned pos.val sz = true then _ else _) = _
  rw [if_pos ha, asStation_some hst]

/-- A read of a story that is UNUSED or its own, or by a terminal not signed on or the system station, registers no view (R100). -/
theorem viewBy_quiet (h : ∀ u, st = .terminal u →
    (s.story k).phase = .unused ∨ (s.terminal u).signedOn = false ∨ (s.story k).holder = some st) : s.viewBy st k = s := by
  cases st with
  | system => rfl
  | terminal u =>
    refine if_neg ?_
    rintro ⟨h1, h2, h3⟩
    rcases h u rfl with h | h | h
    · exact h1 h
    · rw [h2] at h; cases h
    · exact h3 h

theorem viewBy_terminal {u : TerminalId} (h1 : (s.story k).phase ≠ .unused) (h2 : (s.terminal u).signedOn = true)
    (h3 : (s.story k).holder ≠ some (.terminal u)) : s.viewBy (.terminal u) k = s.registerView k u := if_pos ⟨h1, h2, h3⟩

/-- The VIEW-DROPPED notice of an eviction (R101). -/
def evicted (s : State) (k : StoryId) (u : TerminalId) (v : Viewer) : Outgoing :=
  { recipient := .terminal v.terminal
    notice := { s.storyNotice .viewDropped 1 k with cause := some (.terminal u) } }

/-- A registered view comes first in the list, and the viewers past the fourth place are told they have gone (R100, R101). -/
theorem registerView_eq (s : State) (k : StoryId) (u : TerminalId) :
    s.registerView k u =
      (s.setStory k { s.story k with
        viewers := { terminal := u, stale := false } :: (othersThan s k u).take 3 }).raiseAll
      (((othersThan s k u).drop 3).map (evicted s k u)) := by
  have ho : (s.story k).viewers.filter (fun v => v.terminal != u) = othersThan s k u := by
    refine List.filter_congr fun v _ => ?_
    simp [bne, BEq.beq]
  unfold State.registerView
  rw [ho]
  rfl

@[simp] theorem story_raiseAll (s : State) (ns : List Outgoing) (k : StoryId) : (s.raiseAll ns).story k = s.story k := by
  rw [butStations_eq (butStations_raiseAll s ns)]; rfl

theorem raiseAll_frame (s : State) (ns : List Outgoing) :
    s.raiseAll ns = { s with stations := (s.raiseAll ns).stations } := butStations_eq (butStations_raiseAll s ns)

/-- Settles O25: the view is registered at the list's head, and what falls off its end is told. -/
theorem textReadReturnsTextAndRegistersView : Obligations.TextReadReturnsTextAndRegistersView := by
  intro s code st k pos sz hst ha
  rw [exec_textRead hst ha, exec_textRead hst ha]
  refine ⟨rfl, fun hq => ?_, fun u hu h1 h2 h3 => ⟨_, rfl, ?_⟩⟩
  · rw [State.readText, if_neg Bool.false_ne_true, viewBy_quiet hq]
    rfl
  · subst hu
    rw [State.readText, if_neg Bool.false_ne_true, viewBy_terminal h1 h2 h3, registerView_eq]
    set v : Story := { s.story k with viewers := { terminal := u, stale := false } :: (othersThan s k u).take 3 }
    refine ⟨?_, rfl, ?_, fun j hj => ?_, fun a => ?_, fun hl => ?_, fun x hx hon hl => ?_⟩
    · rw [raiseAll_frame]; rfl
    · rw [story_doneRead, story_raiseAll, story_setStory_same]
    · rw [story_doneRead, story_raiseAll, story_setStory_ne s v hj]
    · rw [raiseAll_frame]; rfl
    · rw [List.drop_eq_nil_of_le hl]; rfl
    · rw [hx]
      exact congrArg State.stations (raise_taken (s.setStory k v) (.terminal x.terminal) _ hon hl)

/-! ## Staling one story -/

theorem stale_frame (s : State) (k : StoryId) :
    s.stale k = { s with stories := (s.stale k).stories, measure := (s.stale k).measure } := by
  unfold State.stale
  split
  · rfl
  · rfl
  · rfl
  · rfl
  · unfold State.abandonPass State.leaveMeasuring
    split
    · split <;> rfl
    · rfl

theorem queueStale_story (s : State) (k j : StoryId) : (s.queueStale k).story j =
    if j = k then { s.story k with depth := { (s.story k).depth with status := .stale } } else s.story j :=
  story_setStory s j k _

@[simp] theorem story_abandonPass (s : State) (k j : StoryId) : (s.abandonPass k).story j = s.story j := by
  unfold State.abandonPass
  split <;> simp

/-- A story a staling cause reaches becomes STALE unless its status is NONE (R86). -/
theorem stale_story (h : (s.story k).depth.status ≠ .none) (j : StoryId) : (s.stale k).story j =
    if j = k then { s.story k with depth := { (s.story k).depth with status := .stale } } else s.story j := by
  unfold State.stale
  split
  · exact absurd ‹_› h
  · rename_i hs
    split
    · rename_i hj
      rw [hj, ← hs]
    · rfl
  · exact queueStale_story s k j
  · exact queueStale_story s k j
  · rw [queueStale_story, story_abandonPass, story_abandonPass]

/-- The measure unit after a staling cause, by the story's depth status (R86). -/
theorem stale_measure (s : State) (k : StoryId) :
    ((s.story k).depth.status = .stale → (s.stale k).measure = s.measure) ∧
    ((s.story k).depth.status = .fresh ∨ (s.story k).depth.status = .faulted →
      (s.stale k).measure = { s.measure with queue := s.measure.queue ++ [k] }) ∧
    ((s.story k).depth.status = .measuring → s.inPass k = true →
      (s.stale k).measure = { s.measure with
        queue := s.measure.queue ++ [k]
        engine := if s.measure.fontWait then .held else .idle
        fontWaitTimer := if s.measure.fontWait then some 5 else s.measure.fontWaitTimer }) := by
  unfold State.stale
  refine ⟨fun h => by rw [h], fun h => ?_, fun h hp => ?_⟩
  · rcases h with h | h <;> rw [h] <;> rfl
  · rw [h]
    simp only [State.abandonPass, hp, if_true, State.leaveMeasuring]
    split <;> rfl

/-! ## Memory under a write -/

/-- The state with memory and the count of free values replaced. -/
def State.reseat (s : State) (m : List Host.Cell) (f : Nat) : State := { s with mem := m, free := f }

/-- Memory's part of a plain write touches memory and the free values alone. -/
theorem plainStore_reseat (s : State) (a n : Nat) (data : Data) (f : Bool) :
    s.plainStore a n data f = s.reseat (s.plainStore a n data f).mem (s.plainStore a n data f).free := by
  cases f <;> rfl

theorem stale_reseat (s : State) (m : List Host.Cell) (f : Nat) (k : StoryId) :
    (s.reseat m f).stale k = (s.stale k).reseat m f := by
  have hst : (s.reseat m f).story k = s.story k := rfl
  unfold State.stale
  rw [hst]
  split
  · rfl
  · rfl
  · rfl
  · rfl
  · show ((s.reseat m f).abandonPass k).queueStale k = _
    unfold State.abandonPass State.leaveMeasuring
    show State.queueStale (if s.inPass k = true then if s.measure.fontWait = true then _ else _ else _) k = _
    split
    · split <;> rfl
    · rfl

/-! ## TEXT_WRITE -/

/-- An admitted write passes the tests of R36. -/
theorem testing_admission (h : admits s st k) : testing st (s.admission st k) s t = t := by
  obtain ⟨hon, hl, hc, hh⟩ := h
  simp only [State.admission, testing_cons, testing_nil, hon, hl, hc]
  rcases hh with hh | ⟨rfl, hh⟩
  · simp [hh]
  · simp [hh, isTerminal]

/-- The CHANGED notices of an admitted write (R102). -/
def changedNotices (s : State) (k : StoryId) (st : Station) : List Outgoing :=
  (validViewers s k).map fun v =>
    { recipient := .terminal v.terminal, notice := { s.storyNotice .changed 0 k with cause := some st } }

/-- Every VALID viewer becomes STALE and is told, given room (R102). -/
theorem markViewers_taken (hv : ∀ v ∈ validViewers s k, (s.terminal v.terminal).signedOn = true)
    (hl : s.stations.outgoing.length + (validViewers s k).length ≤ 256) :
    s.markViewers k st = { s with
      stories := (s.setStory k { s.story k with
        viewers := (s.story k).viewers.map fun v => { v with stale := true } }).stories
      stations := { s.stations with outgoing := s.stations.outgoing ++ changedNotices s k st } } := by
  set v : Story := { s.story k with viewers := (s.story k).viewers.map fun v => { v with stale := true } } with hvdef
  have hn : (s.setStory k v).storyNotice .changed 0 k = s.storyNotice .changed 0 k := by
    simp [State.storyNotice, State.plainNotice, hvdef]
  have hmark : s.markViewers k st = (s.setStory k v).raiseAll (changedNotices s k st) := by
    simp only [changedNotices, ← hn]
    rfl
  rw [hmark, raiseAll_taken]
  · rfl
  · intro o ho
    obtain ⟨w, hw, rfl⟩ := List.mem_map.1 ho
    exact hv w hw
  · simpa [changedNotices] using hl

/-- What the effects of an admitted text write leave, whatever memory does. -/
theorem textEffects (hs : (s.story k).depth.status ≠ .none)
    (hv : ∀ v ∈ validViewers s k, (s.terminal v.terminal).signedOn = true)
    (hl : s.stations.outgoing.length + (validViewers s k).length ≤ 256) :
    ∃ S : Table Story,
      (∀ (m : List Host.Cell) (f : Nat), ((s.reseat m f).stale k).markViewers k st = { s with
        mem := m, free := f, stories := S, measure := (s.stale k).measure
        stations := { s.stations with outgoing := s.stations.outgoing ++ changedNotices s k st } }) ∧
      ∀ j, tableGet (fun _ => unusedStory) S j.val = if j = k then { s.story k with
        viewers := (s.story k).viewers.map fun v => { v with stale := true }
        depth := { (s.story k).depth with status := .stale } } else s.story j := by
  have hk := stale_story hs k
  rw [if_pos rfl] at hk
  have hstn : (s.stale k).stations = s.stations := by rw [stale_frame]
  have hterm : ∀ u, (s.stale k).terminal u = s.terminal u := fun u => by rw [stale_frame]; rfl
  have hvalid : validViewers (s.stale k) k = validViewers s k := by rw [validViewers, hk, validViewers]
  have hnot : changedNotices (s.stale k) k st = changedNotices s k st := by
    have : (s.stale k).storyNotice .changed 0 k = s.storyNotice .changed 0 k := by
      have he : (s.stale k).pages = s.pages ∧ (s.stale k).timebase = s.timebase := by rw [stale_frame]; exact ⟨rfl, rfl⟩
      simp only [State.storyNotice, State.plainNotice, hk, he.1, he.2]
    rw [changedNotices, changedNotices, hvalid, this]
  refine ⟨((s.stale k).setStory k { (s.stale k).story k with
    viewers := ((s.stale k).story k).viewers.map fun v => { v with stale := true } }).stories, fun m f => ?_, fun j => ?_⟩
  · rw [stale_reseat]
    have := markViewers_taken (s := (s.stale k).reseat m f) (k := k) (st := st)
      (fun v hw => (congrArg Terminal.signedOn (hterm v.terminal)).trans (hv v (hvalid ▸ hw)))
      (by show (s.stale k).stations.outgoing.length + (validViewers (s.stale k) k).length ≤ 256
          rw [hstn, hvalid]; exact hl)
    rw [this]
    have hout : changedNotices ((s.stale k).reseat m f) k st = changedNotices s k st := hnot
    rw [hout]
    obtain ⟨A, B, hAB⟩ : ∃ A B, s.stale k = { s with stories := A, measure := B } := ⟨_, _, stale_frame s k⟩
    rw [hAB]
    rfl
  · have := story_setStory (s.stale k) j k { (s.stale k).story k with
      viewers := ((s.stale k).story k).viewers.map fun v => { v with stale := true } }
    refine Eq.trans this ?_
    split
    · rw [hk]
    · rw [stale_story hs, if_neg ‹_›]

/-- Settles O26: whatever memory does, the write's effects on the tables are the same. -/
theorem textWriteStoresAndStales : Obligations.TextWriteStoresAndStales := by
  intro s code st k pos sz data hst ha hadm hs hv hl
  obtain ⟨S, heff, hS⟩ := textEffects (st := st) hs hv hl
  obtain ⟨hm1, hm2, hm3⟩ := stale_measure s k
  have hadmit : ∀ f, s.writeText st k pos.val sz data f = s.textAdmitted st k pos.val sz data f := fun f =>
    testing_admission hadm
  have hat : ∀ f, s.textAdmitted st k pos.val sz data f = State.plainAnswer { s with
      mem := (s.plainStore (s.textAddr k pos.val) (sizeBytes sz) data f).mem
      free := (s.plainStore (s.textAddr k pos.val) (sizeBytes sz) data f).free
      stories := S, measure := (s.stale k).measure
      stations := { s.stations with outgoing := s.stations.outgoing ++ changedNotices s k st } } st f := fun f => by
    have h := heff (s.plainStore (s.textAddr k pos.val) (sizeBytes sz) data f).mem
      (s.plainStore (s.textAddr k pos.val) (sizeBytes sz) data f).free
    rw [← plainStore_reseat] at h
    rw [State.textAdmitted, h]
  rw [exec_textWrite hst ha, exec_textWrite hst ha, hadmit, hadmit, hat, hat]
  refine ⟨_, _, rfl, rfl, rfl, fun i hi => plainStore_memByte_at s _ _ data i hi,
    fun x hx => plainStore_memByte_ne s _ _ data false x hx, (hS k).trans (if_pos rfl),
    fun j hj => (hS j).trans (if_neg hj), hm1, hm2, hm3, ?_, fun x hx => ?_⟩
  · cases st <;> rfl
  · have := plainStore_memByte_ne s (s.textAddr k pos.val) (sizeBytes sz) data true x hx
    cases st <;> exact this

/-! ## Words that pass through -/

/-- The station writes a ring slot of its own, or as the system station. -/
theorem testing_ring {owner : Station} (hon : s.signedOn st = true) (ho : st = .system ∨ st = owner) :
    testing st [(!s.signedOn st, .notSignedOn), (isTerminal st && st != owner, .noRight)] s t = t := by
  rcases ho with rfl | rfl <;> simp [hon, isTerminal]

/-- A ring slot being written notes the bytes of a write that reach it (R112). -/
theorem noteContested_eq (s : State) (owner : Station) (off n : Nat) :
    s.noteContested owner off n = { s with stations := { s.stations with
      ringWrite := s.stations.ringWrite.map fun w =>
        if w.recipient = owner ∧ off / 16 = w.slot then
          { w with contested := w.contested ++ (List.range n).map fun i => off % 16 + i }
        else w } } := by
  unfold State.noteContested
  cases hw : s.stations.ringWrite with
  | none =>
    show s = { s with stations := { s.stations with ringWrite := none } }
    rw [← hw]
  | some w =>
    have hslot : (w.recipient = owner ∧ 16 * w.slot ≤ off ∧ off < 16 * w.slot + 16) ↔
        (w.recipient = owner ∧ off / 16 = w.slot) := by
      refine and_congr_right fun _ => ?_
      omega
    simp only [hslot, Option.map_some]
    split
    · rename_i h
      have hoff : ∀ i, off - 16 * w.slot + i = off % 16 + i := fun i => by omega
      simp only [hoff]
      rfl
    · rw [← hw]

/-- A plain write that memory completes changes memory alone, at the bytes named. -/
theorem plainStore_completes (s : State) (a n : Nat) (data : Data) :
    ∃ m, s.plainStore a n data false = { s with mem := m } ∧
      (∀ i, i < n → tableGet unwritten m (a + i) = data.extractLsb' (8 * i) 8) ∧
      ∀ x, x < a ∨ a + n ≤ x → tableGet unwritten m x = s.memByte x :=
  ⟨_, rfl, fun i hi => plainStore_memByte_at s a n data i hi, fun x hx => plainStore_memByte_ne s a n data false x hx⟩

theorem plainWritesReachMemory : Parts.PlainWritesReachMemory := by
  intro s code st sz data
  refine ⟨fun k off hst ha hl hadm => ?_, fun owner off hst ha hon ho => ?_, fun addr hst ha hin hpl hlive => ?_,
    fun addr ha hin => ?_⟩
  · obtain ⟨m, hm, hat, hne⟩ := plainStore_completes s (s.headerAddr k off.val) (sizeBytes sz) data
    rw [exec_headerPlainWrite hst ha hl, State.writeHeaderPlain, testing_admission hadm, hm]
    exact ⟨_, rfl, rfl, hat, hne⟩
  · obtain ⟨m, hm, hat, hne⟩ := plainStore_completes s (s.ringAddr owner off.val) (sizeBytes sz) data
    rw [exec_ringSlotWrite hst ha, State.writeRing, testing_ring hon ho, hm, noteContested_eq]
    exact ⟨_, rfl, rfl, hat, hne⟩
  · obtain ⟨m, hm, hat, hne⟩ := plainStore_completes s addr.toNat (sizeBytes sz) data
    have hbase : s.base + (addr.toNat - s.base) = addr.toNat := by
      have : s.base ≤ addr.toNat := by simp [State.inWindow] at hin; exact hin.1
      omega
    have hexec : exec (.plainPassThrough code true addr sz data false) s =
        .next (s.writePlain st addr.toNat sz data false) := by
      show (if aligned addr.toNat sz = true then _ else _) = _
      rw [if_pos ha, State.access, if_pos hin, asStation_some hst, if_pos rfl, State.writeWindow, hlive, hpl, Bool.and_false,
        if_neg Bool.false_ne_true, hbase]
    rw [hexec, State.writePlain, hm]
    exact ⟨_, rfl, rfl, hat, hne⟩
  · obtain ⟨m, hm, hat, hne⟩ := plainStore_completes s addr.toNat (sizeBytes sz) data
    have hexec : exec (.accessOutsideWindow code true addr sz data false) s =
        .next (s.outside true addr.toNat sz data false) := by
      show (if aligned addr.toNat sz = true then _ else _) = _
      rw [if_pos ha, State.access, if_neg (by rw [hin]; exact Bool.false_ne_true)]
    rw [hexec, State.outside, if_pos rfl, if_neg Bool.false_ne_true, hm]
    exact ⟨_, rfl, rfl, hat, hne⟩

/-- No story's text stands above the text area (R1). -/
theorem placeOf_ne_text {off : Nat} (h : 0x1000000 ≤ off) (k : StoryId) (pos : Nat) : placeOf off ≠ .text k pos := by
  have hheader : ∀ j a, headerPlace j a ≠ .text k pos := fun j a => by unfold headerPlace; split <;> nofun
  have hstation : ∀ o a, stationPlace o a ≠ .text k pos := fun o a => by
    unfold stationPlace
    split
    · nofun
    · split <;> nofun
  have hbasket : ∀ b a, basketPlace b a ≠ .text k pos := fun b a => by
    unfold basketPlace
    split
    · split <;> nofun
    · split <;> nofun
  have hpage : ∀ p a, pagePlace p a ≠ .text k pos := fun p a => by
    unfold pagePlace
    split
    · split <;> nofun
    · dsimp only
      split <;> nofun
  have hfont : ∀ f a, fontPlace f a ≠ .text k pos := fun f a => by
    unfold fontPlace
    split
    · split <;> nofun
    · nofun
  have hdesk : ∀ a, deskPlace a ≠ .text k pos := fun a => by unfold deskPlace; split <;> nofun
  unfold placeOf
  rw [if_neg (by omega)]
  repeat' split
  · exact hheader _ _
  · exact hstation _ _
  · nofun
  · exact hbasket _ _
  · exact hpage _ _
  · nofun
  · exact hfont _ _
  · nofun
  · exact hdesk _
  · nofun

/-- A read of bytes none of which is live, in no slot of a ring write in flight, is memory's (R168). -/
theorem readWords_plain {off : Nat} {sz : Size} (hlive : touchesLive off sz = false) (hring : s.stations.ringWrite = none) :
    s.readWords st off sz false = s.doneRead (packBytes (s.load (s.base + off) (sizeBytes sz))) ∧
    s.readWords st off sz true = s.refuse st .memoryFault := by
  have hplace : ∀ i, i < sizeBytes sz → isLive (placeOf (off + i)) = false := fun i hi =>
    Bool.eq_false_iff.2 (List.any_eq_false.1 hlive _ (List.mem_map.2 ⟨i, List.mem_range.2 hi, rfl⟩))
  have hwrite : ∀ a, s.beingWritten a = none := fun a => by simp [State.beingWritten, hring]
  have hlink : touchesLinkStatus off sz = false := by
    refine List.any_eq_false.2 fun x hx => ?_
    obtain ⟨i, hi, rfl⟩ := List.mem_map.1 hx
    have := hplace i (List.mem_range.1 hi)
    simp only [beq_iff_eq]
    intro h
    rw [h] at this
    cases this
  have hlatch : s.clearLatch st off sz = s := by rw [State.clearLatch, hlink]; rfl
  have htouch : touchesPlain off sz = true := by
    have hpos : 0 < sizeBytes sz := by cases sz <;> decide
    exact List.any_eq_true.2 ⟨off + 0, List.mem_map.2 ⟨0, List.mem_range.2 hpos, rfl⟩, by rw [hplace 0 hpos]; rfl⟩
  have hfree : s.readFree off sz = s := by
    refine if_neg ?_
    simp [hwrite]
  have hbytes : (List.range (sizeBytes sz)).map (s.readByteAt off) = s.load (s.base + off) (sizeBytes sz) := by
    refine List.map_congr_left fun i hi => ?_
    have := hplace i (List.mem_range.1 hi)
    unfold State.readByteAt
    split
    · rename_i h; rw [h] at this; cases this
    · rw [hwrite, Nat.add_assoc]
  constructor
  · simp only [State.readWords, hlatch, hfree, hbytes, Bool.false_and, Bool.false_eq_true, if_false]
  · simp only [State.readWords, hlatch, htouch, Bool.and_self, if_true]

theorem plainReadsReturnMemory : Parts.PlainReadsReturnMemory := by
  intro s code addr sz data ha
  refine ⟨fun st hst hin hoff hlive hring => ?_, fun hin => ?_⟩
  · have hbase : s.base + (addr.toNat - s.base) = addr.toNat := by omega
    have hexec : ∀ f, exec (.plainPassThrough code false addr sz data f) s =
        .next (s.readWords st (addr.toNat - s.base) sz f) := fun f => by
      show (if aligned addr.toNat sz = true then _ else _) = _
      rw [if_pos ha, State.access, if_pos hin, asStation_some hst, if_neg Bool.false_ne_true, State.readWindow]
      split
      · rename_i hpl
        exact absurd hpl (placeOf_ne_text hoff _ _)
      · rfl
    obtain ⟨h1, h2⟩ := readWords_plain (st := st) hlive hring
    rw [hbase] at h1
    rw [hexec, hexec, h1, h2]
    exact ⟨rfl, rfl⟩
  · have hexec : ∀ f, exec (.accessOutsideWindow code false addr sz data f) s =
        .next (s.outside false addr.toNat sz data f) := fun f => by
      show (if aligned addr.toNat sz = true then _ else _) = _
      rw [if_pos ha, State.access, if_neg (by rw [hin]; exact Bool.false_ne_true)]
    rw [hexec, hexec]
    exact ⟨rfl, rfl⟩

/-- Settles O27: a plain word's test, where it has one, is passed, and memory does the rest. -/
theorem plainWordsPassThrough : Obligations.PlainWordsPassThrough := ⟨plainWritesReachMemory, plainReadsReturnMemory⟩

end Sys2Proof.Machine
end


section
/-! PROOFS. What the words of a story's header show (R18 to R20, R22, R50, section 11.2). -/

namespace Sys2Proof.Machine

open Safety

variable {s : State} {k : StoryId}

/-! ## Fields of words -/

theorem holderByte_eq (h : Option Station) : holderByte h = stationByte h := by
  cases h with
  | none => rfl
  | some st => cases st <;> rfl

theorem byteField_val {n : Nat} (b : Option (Fin n)) : byteField (b.map Fin.val) = numberByte b := by cases b <;> rfl

theorem flag_mul (b : Bool) (n : Nat) : n * flag b = flagAt b n := by cases b <;> simp [flag, flagAt]

/-- Four bytes put side by side in a word. -/
def sideBySide (b : Nat → Nat) : Word := (List.range 4).foldl (fun w i => w ||| (wordOf (b i) <<< (8 * i))) 0

/-- Each byte of four put side by side is read back. -/
theorem sideBySide_byte (b : Nat → Nat) (hb : ∀ i, b i < 256) {i : Nat} (hi : i < 4) :
    (sideBySide b).extractLsb' (8 * i) 8 = BitVec.ofNat 8 (b i) := by
  have hfold : sideBySide b = wordOf (b 0) ||| wordOf (b 1) <<< 8 ||| wordOf (b 2) <<< 16 ||| wordOf (b 3) <<< 24 := by
    simp [sideBySide, List.range_succ]
  have hbit : ∀ m j, 8 ≤ j → (b m).testBit j = false := fun m j hj =>
    Nat.testBit_lt_two_pow (lt_of_lt_of_le (hb m) (Nat.pow_le_pow_right (show 2 > 0 by decide) hj))
  apply BitVec.eq_of_getLsbD_eq
  intro j hj
  rw [hfold]
  simp only [wordOf, BitVec.getLsbD_extractLsb', BitVec.getLsbD_or, BitVec.getLsbD_shiftLeft, BitVec.getLsbD_ofNat, hj,
    decide_true, Bool.true_and]
  interval_cases i <;> interval_cases j <;> simp [hbit]

/-! ## The words of a header -/

theorem viewersWord_eq (v : Story) : viewersWord v =
    sideBySide fun i => byteField ((v.viewers[i]?).map fun x => x.terminal.val + 128 * flag x.stale) := rfl

/-- The byte of a viewer, or of an empty place, fits in its field. -/
theorem viewerByte_lt (x : Option Viewer) : byteField (x.map fun x => x.terminal.val + 128 * flag x.stale) < 256 := by
  cases x with
  | none => decide
  | some x =>
    have : flag x.stale ≤ 1 := by cases x.stale <;> decide
    simp only [Option.map_some, byteField, Option.getD_some]
    omega

/-- Settles O34: each word of the live block shows its fields, and PLACE, DEPTH and VIEWERS have no behaviour of their own. -/
theorem storyWordsShowTheEntry : Obligations.StoryWordsShowTheEntry := by
  rintro s k v h rfl rfl
  have hadd : ∀ n, 0x1000000 + 64 * k.val + n = 0x1000000 + n + 64 * k.val := fun n => by omega
  simp only [hadd]
  refine ⟨?_, ?_, ?_, ?_, ?_, ?_, ⟨_, (liveAt_viewers k).shows, fun i hi => ?_⟩,
    (liveAt_placement k).refuses fun _ _ _ => rfl, (liveAt_depthLow k).refuses fun _ _ _ => rfl,
    (liveAt_depthHigh k).refuses fun _ _ _ => rfl, (liveAt_viewers k).refuses fun _ _ _ => rfl, rfl, rfl, rfl⟩
  · have := (liveAt_hold k).shows (s := s)
    rwa [State.liveWord, holderByte_eq] at this
  · have := (liveAt_route k).shows (s := s)
    rwa [State.liveWord, byteField_val] at this
  · have := (liveAt_state k).shows (s := s)
    rwa [State.liveWord, stateWord, holderByte_eq, byteField_val, flag_mul] at this
  · have := (liveAt_placement k).shows (s := s)
    rw [State.liveWord] at this
    have h1 : ((s.story k).placement.map fun pn => pn.1.val) = ((s.story k).placement.map Prod.fst).map Fin.val := by
      rw [Option.map_map]; rfl
    have h2 : ((s.story k).placement.map fun pn => pn.2.val) = ((s.story k).placement.map Prod.snd).map Fin.val := by
      rw [Option.map_map]; rfl
    rwa [h1, h2, byteField_val, byteField_val] at this
  · exact (liveAt_depthLow k).shows (s := s)
  · have := (liveAt_depthHigh k).shows (s := s)
    rwa [State.liveWord, flag_mul, flag_mul] at this
  · rw [State.liveWord, viewersWord_eq, sideBySide_byte _ (fun i => viewerByte_lt _) hi]
    cases (s.story k).viewers[i]? with
    | none => rfl
    | some x => simp only [Option.map_some, byteField, Option.getD_some, flag_mul]

end Sys2Proof.Machine
end


section
/-! PROOFS. The evaluation of a WAITING page, and an event handed to the dispatch engine (R138, R139): the model's verdict against
the conditions on slots. -/

namespace Sys2Proof.Machine

open Safety

variable {s t u : State} {k : StoryId} {e : Queued} {r : Resting}

/-! ## The lowest slot -/

/-- The occupied slots come in increasing order. -/
theorem occupied_sorted (p : Page) : (occupied p).Pairwise fun a b => a.1 < b.1 := by
  refine List.Pairwise.filterMap _ (fun i j hij a ha b hb => ?_) (List.pairwise_lt_finRange 12)
  obtain ⟨x, -, rfl⟩ := Option.map_eq_some_iff.1 ha
  obtain ⟨y, -, rfl⟩ := Option.map_eq_some_iff.1 hb
  exact hij

/-- A search over the occupied slots finds the lowest. -/
theorem findSome?_occupied {β : Type} {p : Page} {f : SlotId × Slot → Option β} {n : SlotId} {sl : Slot} {b : β}
    (hn : p.slots[n.val] = some sl) (hb : f (n, sl) = some b)
    (hlt : ∀ (m : SlotId) (sm : Slot), m < n → p.slots[m.val] = some sm → f (m, sm) = none) :
    (occupied p).findSome? f = some b := by
  obtain ⟨l₁, l₂, hl⟩ := List.append_of_mem ((mem_occupied p n sl).2 hn)
  refine List.findSome?_eq_some_iff.2 ⟨l₁, (n, sl), l₂, hl, hb, fun ⟨m, sm⟩ hm => hlt m sm ?_ ?_⟩
  · have hp := occupied_sorted p
    rw [hl, List.pairwise_append] at hp
    exact hp.2.2 (m, sm) hm (n, sl) List.mem_cons_self
  · exact (mem_occupied p m sm).1 (by rw [hl]; exact List.mem_append_left _ hm)

/-- The first occupied slot is the lowest. -/
theorem exists_lowest {p : Page} (h : occupied p ≠ []) : ∃ (n : SlotId) (sl : Slot), (occupied p).head? = some (n, sl) ∧
    p.slots[n.val] = some sl ∧ ∀ m : SlotId, m < n → p.slots[m.val] = none := by
  obtain ⟨⟨n, sl⟩, rest, hl⟩ := List.exists_cons_of_ne_nil h
  have hsorted := occupied_sorted p
  rw [hl, List.pairwise_cons] at hsorted
  refine ⟨n, sl, by rw [hl]; rfl, (mem_occupied p n sl).1 (by rw [hl]; exact List.mem_cons_self), fun m hm => ?_⟩
  refine Option.eq_none_iff_forall_ne_some.2 fun sm hsm => ?_
  have hmem := (mem_occupied p m sm).2 hsm
  rw [hl, List.mem_cons] at hmem
  rcases hmem with heq | hmem
  · cases heq; exact lt_irrefl _ hm
  · exact lt_asymm hm (hsorted.1 _ hmem)

/-! ## The verdict -/

theorem slotFails_iff (s : State) (sl : Slot) (c : Cause) : slotFails s sl c ↔ s.slotFailure sl = some c := by
  unfold slotFails State.slotFailure
  dsimp only
  generalize (s.story sl.story).depth = d
  cases hd : d.status with
  | fresh =>
    by_cases hf : d.fonts &&& ~~~ s.link.mask = 0
    · by_cases ho : sl.policy = .hold ∧ d.overset = true
      · simp [hf, ho, eq_comm]
      · simp only [hf, ne_eq, not_true_eq_false, if_neg ho, if_false, reduceCtorEq, false_and, false_or, true_and,
          and_false, iff_false]
        exact fun h => ho ⟨h.1, h.2.1⟩
    · simp only [hf, ne_eq, not_false_eq_true, if_true, true_and, false_and, and_false, or_false, false_or,
        Option.some.injEq, reduceCtorEq]
      exact eq_comm
  | faulted =>
    simp only [reduceCtorEq, false_and, or_false, true_and, Option.some.injEq]
    exact eq_comm
  | none => simp
  | stale => simp
  | measuring => simp

theorem slotStalls_iff (s : State) (sl : Slot) : slotStalls s sl ↔ s.slotWaits sl = true := by
  simp [slotStalls, State.slotWaits, Option.isSome_iff_ne_none, or_assoc]

/-- The lowest failing slot gives the verdict. -/
theorem verdict_fails {p : PageId} {n : SlotId} {sl : Slot} {c : Cause} (hn : s.slotOf p n = some sl) (hc : slotFails s sl c)
    (hlt : ∀ m sm d, m < n → s.slotOf p m = some sm → ¬ slotFails s sm d) : s.verdict p = .fails c n sl.story := by
  have : ((occupied (s.page p)).findSome? fun e => (s.slotFailure e.2).map fun c => (c, e.1, e.2.story)) =
      some (c, n, sl.story) := by
    refine findSome?_occupied hn (by simp [(slotFails_iff s sl c).1 hc]) fun m sm hm hsm => ?_
    have hnone : s.slotFailure sm = none := Option.eq_none_iff_forall_ne_some.2 fun d hd =>
      hlt m sm d hm hsm ((slotFails_iff s sm d).2 hd)
    simp [hnone]
  rw [State.verdict, this]

/-- With no slot failing, the page waits when some slot waits, and passes otherwise. -/
theorem verdict_unfailed {p : PageId} (h : ∀ n sl c, s.slotOf p n = some sl → ¬ slotFails s sl c) :
    s.verdict p = if (occupied (s.page p)).any fun e => s.slotWaits e.2 then .waits else .passes := by
  have : ((occupied (s.page p)).findSome? fun e => (s.slotFailure e.2).map fun c => (c, e.1, e.2.story)) = none := by
    rw [List.findSome?_eq_none_iff]
    rintro ⟨n, sl⟩ hmem
    have hn := (mem_occupied _ _ _).1 hmem
    have hnone : s.slotFailure sl = none := Option.eq_none_iff_forall_ne_some.2 fun d hd =>
      h n sl d hn ((slotFails_iff s sl d).2 hd)
    simp [hnone]
  rw [State.verdict, this]

theorem verdict_waits {p : PageId} (h : ∀ n sl c, s.slotOf p n = some sl → ¬ slotFails s sl c) {n : SlotId} {sl : Slot}
    (hn : s.slotOf p n = some sl) (hs : slotStalls s sl) : s.verdict p = .waits := by
  rw [verdict_unfailed h, if_pos]
  exact List.any_eq_true.2 ⟨(n, sl), (mem_occupied _ _ _).2 hn, (slotStalls_iff s sl).1 hs⟩

theorem verdict_passes {p : PageId} (h : ∀ n sl c, s.slotOf p n = some sl → ¬ slotFails s sl c)
    (hs : ∀ n sl, s.slotOf p n = some sl → ¬ slotStalls s sl) : s.verdict p = .passes := by
  rw [verdict_unfailed h, if_neg]
  rw [List.any_eq_true]
  rintro ⟨⟨n, sl⟩, hmem, hw⟩
  exact hs n sl ((mem_occupied _ _ _).1 hmem) ((slotStalls_iff s sl).2 hw)

/-! ## The evaluation of the head page -/

/-- The only page queued, WAITING, is taken off the queue when it fails, and nothing advances. -/
theorem fail_waiting (f : Failing) (hst : (s.page e.page).state = .waiting r) (hq : s.dispatch.queue = [e])
    (he : s.dispatch.engine = .waiting) : s.fail e f = (s.failRecord e f).setDispatchEngine .idle := by
  have heng : (s.failRecord e f).dispatch.engine = .waiting := by rw [failRecord_dispatch]; exact he
  have hpage : s.failPage e f = (s.failRecord e f).setDispatchEngine .idle := by
    simp [State.failPage, State.failEngine, hst, hq, heng, isSending]
  rw [State.fail, hpage]
  refine advance_empty _ ?_
  show (s.failRecord e f).dispatch.queue = []
  rw [failRecord_dispatch]
  simp [hq]

/-- The only page queued fails while WAITING, at a slot. -/
theorem waitingFails_fail {c : Cause} {n : SlotId} {k : StoryId} (hst : (s.page e.page).state = .waiting r)
    (hq : s.dispatch.queue = [e]) (he : s.dispatch.engine = .waiting) (hl : s.stations.outgoing.length < 256) :
    waitingFails e r c (failedAt s e c n k) s (s.fail e (evaluationFailure c n k)) := by
  have hw : isWaiting (s.page e.page).state = true := by rw [hst]; rfl
  have hr : restingOf (s.page e.page).state = r := by rw [hst]; rfl
  rw [fail_waiting _ hst hq he, failRecord_eq s e _ hl]
  simp only [hw, hr, hq, Bool.true_or, if_true]
  refine ⟨⟨rfl, ?_, fun q hq => ?_, fun j => ?_, fun _ => rfl⟩, rfl, ?_⟩
  · exact page_setPage_same s e.page _
  · exact page_setPage_ne s _ hq
  · refine (markClosing_story s e.page false j).trans ?_
    by_cases hj : j ∈ s.pageStories e.page <;> simp [hj]
  · simp [State.setDispatchEngine, noneWanted]

/-- A WAITING head page that passes enters SENDING. -/
theorem sendStarts_enterSending (hst : (s.page e.page).state = .waiting r) (hne : s.pageStories e.page ≠ []) :
    sendStarts e r s (s.enterSending e) := by
  obtain ⟨n, sl, hhead, hn, hlt⟩ := exists_lowest (p := s.page e.page) fun h => hne (by rw [State.pageStories, h]; rfl)
  have hr : restingOf (s.page e.page).state = r := by rw [hst]; rfl
  rw [enterSending_eq s e n sl hhead, hr, State.handOver, handFrame_eq]
  exact ⟨rfl, page_setPage_same s e.page _, fun q hq => page_setPage_ne s _ hq, n, sl, hn, hlt, rfl⟩

theorem evaluate_fails {c : Cause} {n : SlotId} {k : StoryId} (hw : s.waitingHead = some e)
    (hv : s.verdict e.page = .fails c n k) : s.evaluate = s.fail e (evaluationFailure c n k) := by
  simp only [State.evaluate, hw, hv]

theorem evaluate_waits (hw : s.waitingHead = some e) (hv : s.verdict e.page = .waits) : s.evaluate = s := by
  simp only [State.evaluate, hw, hv]

theorem evaluate_passes (hw : s.waitingHead = some e) (hv : s.verdict e.page = .passes) :
    s.evaluate = s.enterSending e := by
  simp only [State.evaluate, hw, hv]

/-- The evaluation of the WAITING head page does what R138 says. -/
theorem evaluated_evaluate (hw : s.waitingHead = some e) (hst : (s.page e.page).state = .waiting r) :
    evaluated e r s s.evaluate := by
  refine ⟨fun n sl c hn hc hlt hq he hl => ?_, fun hnone => ⟨fun ⟨n, sl, hn, hs⟩ => ?_, fun hs hne => ?_⟩⟩
  · rw [evaluate_fails hw (verdict_fails hn hc hlt)]
    exact waitingFails_fail hst hq he hl
  · exact evaluate_waits hw (verdict_waits hnone hn hs)
  · rw [evaluate_passes hw (verdict_passes hnone hs)]
    exact sendStarts_enterSending hst hne

/-- An event handed to the dispatch engine does what R139 says. -/
theorem handed_handEvent (s : State) (k : StoryId) : handed k s (s.handEvent k) := by
  refine ⟨handEvent_quiet s k, fun e r hc hw hst => ?_⟩
  rw [State.handEvent, if_pos hc]
  exact evaluated_evaluate hw hst

/-! ## The answer on the bus changes none of this -/

theorem waitingFails_done {c : Cause} {o : Outgoing} (h : waitingFails e r c o s t) : waitingFails e r c o s.done t.done := by
  obtain ⟨⟨h1, h2, h3, h4, h5⟩, h6, h7⟩ := h
  exact ⟨⟨congrArg State.done h1, h2, h3, h4, h5⟩, h6, h7⟩

theorem sendStarts_done (h : sendStarts e r s t) : sendStarts e r s.done t.done := by
  obtain ⟨h1, h2, h3, h4⟩ := h
  exact ⟨congrArg State.done h1, h2, h3, h4⟩

theorem evaluated_done (h : evaluated e r s t) : evaluated e r s.done t.done :=
  ⟨fun n sl c hn hc hlt hq he hl => waitingFails_done (h.1 n sl c hn hc hlt hq he hl),
    fun hnone => ⟨fun hs => congrArg State.done ((h.2 hnone).1 hs), fun hs hne => sendStarts_done ((h.2 hnone).2 hs hne)⟩⟩

theorem handed_done (h : handed k s t) : handed k s.done t.done :=
  ⟨fun hq => congrArg State.done (h.1 hq), fun e r hc hw hst => evaluated_done (h.2 e r hc hw hst)⟩

end Sys2Proof.Machine
end


section
/-! PROOFS. Routes and purge (R10, R12, R13, R52 to R59): lists, arrivals, the end of the writer's hold, and what a route hands to
the dispatch engine. -/

namespace Sys2Proof.Machine

open Safety

variable {s t u : State} {code : StationCode} {st : Station} {k : StoryId}

/-! ## Lists -/

theorem joinClass_eq (k : StoryId) (p : Priority) (l : List Filed) : joinClass { story := k, prio := p } l = joined k p l := by
  induction l with
  | nil => rfl
  | cons x xs ih =>
    by_cases h : prioCode x.prio ≤ prioCode p
    · simp only [joinClass, prioLe, decide_eq_true h, if_true, ih]
      simp [joined, h]
    · simp only [joinClass, prioLe, decide_eq_false h, Bool.false_eq_true, if_false]
      simp [joined, h]

theorem leaveList_eq (k : StoryId) (l : List Filed) : leaveList k l = without k l := by
  refine List.filter_congr fun x _ => ?_
  simp [bne, BEq.beq]

/-! ## Leaving and joining a basket -/

theorem unfile_frame (s : State) (k : StoryId) :
    s.unfile k = { s with stories := (s.unfile k).stories, baskets := (s.unfile k).baskets } := by
  unfold State.unfile
  split <;> rfl

theorem unfile_story (s : State) (k j : StoryId) : (s.unfile k).story j =
    if j = k then { s.story k with basket := none } else s.story j := by
  unfold State.unfile
  split
  · exact story_setStory _ j k _
  · rename_i hb
    split
    · rename_i hj
      rw [hj, ← hb]
    · rfl

theorem unfile_basket (s : State) (k : StoryId) (b : BasketId) : (s.unfile k).basket b =
    if (s.story k).basket = some b then { s.basket b with list := without k (s.basket b).list } else s.basket b := by
  unfold State.unfile
  split
  · rename_i c hc
    rw [basket_setStory, basket_setBasket, leaveList_eq, hc]
    by_cases h : b = c
    · rw [if_pos h, if_pos (by rw [h]), h]
    · rw [if_neg h, if_neg fun he => h (Option.some.inj he).symm]
  · rename_i hb
    rw [hb, if_neg nofun]

theorem file_frame (s : State) (k : StoryId) (b : BasketId) (p : Priority) :
    s.file k b p = { s with stories := (s.file k b p).stories, baskets := (s.file k b p).baskets } := rfl

theorem file_story (s : State) (k : StoryId) (b : BasketId) (p : Priority) (j : StoryId) : (s.file k b p).story j =
    if j = k then { s.story k with basket := some b, prio := p } else s.story j := story_setStory _ j k _

theorem file_basket (s : State) (k : StoryId) (b : BasketId) (p : Priority) (c : BasketId) : (s.file k b p).basket c =
    if c = b then { s.basket b with list := joined k p (s.basket b).list } else s.basket c := by
  rw [State.file, basket_setStory, basket_setBasket, joinClass_eq]

/-! ## Arrivals -/

/-- Notices for stations that are not signed on are dropped, whatever the room. -/
theorem raiseAll_filter (ns : List Outgoing) (s : State) :
    s.raiseAll ns = s.raiseAll (ns.filter fun o => s.signedOn o.recipient) := by
  induction ns generalizing s with
  | nil => rfl
  | cons o ns ih =>
    have hrest : ∀ x : Outgoing, (s.raise o.recipient o.notice).signedOn x.recipient = s.signedOn x.recipient := fun x =>
      raise_signedOn s _ _ _
    show (s.raise o.recipient o.notice).raiseAll ns = _
    rw [ih, List.filter_congr fun x _ => hrest x]
    cases ho : s.signedOn o.recipient with
    | true => rw [List.filter_cons_of_pos (by simpa using ho)]; rfl
    | false => rw [List.filter_cons_of_neg (by simpa using ho), raise_off s _ _ ho]

/-- The ARRIVAL notice of a story as its entry stands (R59). -/
def arrivalOf (s : State) (k : StoryId) (source : Option BasketId) (writer : Station) : Notice :=
  { s.storyNotice .arrival (BitVec.ofNat 8 (byteField (source.map Fin.val))) k with
    cause := some writer, urgent := (s.story k).prio == .flash }

/-- The signed-on watchers but the writer are told, given room for all. -/
theorem raiseArrivals_taken (s : State) (k : StoryId) (b : BasketId) (source : Option BasketId) (writer : Station)
    (hl : s.stations.outgoing.length + 120 ≤ 256) :
    s.raiseArrivals k b source writer = { s with stations := { s.stations with
      outgoing := s.stations.outgoing ++ arrivals s b writer (arrivalOf s k source writer) } } := by
  have hns : ((s.arrivals b writer).map fun t => ({ recipient := .terminal t, notice := arrivalOf s k source writer } :
      Outgoing)).filter (fun o => s.signedOn o.recipient) = arrivals s b writer (arrivalOf s k source writer) := by
    rw [List.filter_map, State.arrivals, List.filter_filter, arrivals, allTerminals]
    refine congrArg _ (List.filter_congr fun v _ => ?_)
    have hne : (Station.terminal v != writer) = decide (Station.terminal v ≠ writer) := by simp [bne, BEq.beq]
    rw [hne]
    exact Bool.and_comm _ _
  have hlen : (arrivals s b writer (arrivalOf s k source writer)).length ≤ 120 := by
    rw [arrivals, List.length_map]
    exact (List.length_filter_le _ _).trans (by simp)
  show s.raiseAll _ = _
  rw [raiseAll_filter]
  refine (congrArg s.raiseAll hns).trans (raiseAll_taken _ s (fun o ho => ?_) (by omega))
  rw [← hns] at ho
  exact (List.mem_filter.1 ho).2

/-- Who is told depends on the basket's watchers and on who is signed on. -/
theorem arrivals_congr {b : BasketId} {n : Notice} (hw : (t.basket b).watchers = (s.basket b).watchers)
    (hon : ∀ v, (t.terminal v).signedOn = (s.terminal v).signedOn) : arrivals t b st n = arrivals s b st n := by
  simp only [arrivals, hw, hon]

theorem sourceByte (b : Option BasketId) :
    BitVec.ofNat 8 (byteField (b.map Fin.val)) = (b.map fun c => BitVec.ofNat 8 c.val).getD 0xFF#8 := by cases b <;> rfl

theorem beq_flash (p : Priority) : (p == .flash) = decide (p = .flash) := by cases p <;> rfl

/-- The ARRIVAL of a story that has moved (R59). -/
theorem arrivalOf_moved {b : BasketId} {p : Priority} (hk : t.story k = { s.story k with basket := some b, prio := p })
    (hp : t.pages = s.pages) (ht : t.timebase = s.timebase) :
    arrivalOf t k (s.story k).basket st = arrivalNotice s k b p st := by
  simp only [arrivalOf, arrivalNotice, State.storyNotice, State.plainNotice, hk, hp, ht, sourceByte, beq_flash]

/-! ## The end of the writer's hold -/

theorem loseHold_frame (s : State) (k : StoryId) : s.loseHold k = { s with
    stories := (s.loseHold k).stories
    stations := { s.stations with terminals := (s.loseHold k).stations.terminals } } := by
  unfold State.loseHold
  split
  · rename_i st _
    cases st <;> rfl
  · rfl

theorem loseHold_story (s : State) (k j : StoryId) : (s.loseHold k).story j =
    if j = k then { s.story k with holder := none } else s.story j := by
  cases hh : (s.story k).holder with
  | none =>
    rw [loseHold_free s k hh]
    split
    · rename_i hj
      rw [hj, ← hh]
    · rfl
  | some st => rw [loseHold_held s k st hh, story_countHold, story_setStory]

theorem loseHold_holdMoved (h : (s.story k).holder = some st) : holdMoved st (· - 1) s (s.loseHold k) := by
  rw [loseHold_held s k st h]
  exact fun u => countHold_terminal (s.setStory k _) st (· - 1) u

/-- What a state with a story filed anew leaves when the writer's hold, if it is the writer's, ends and the dispatch engine is
told (R53, R58). -/
theorem routed_endHold {filing : Story → Story} {notices : List Outgoing}
    (hframe : t = { s with
      stories := t.stories, baskets := t.baskets
      stations := { s.stations with outgoing := s.stations.outgoing ++ notices } })
    (hk : t.story k = filing (s.story k)) (hne : SameStoriesBut k s t)
    (hh : (filing (s.story k)).holder = (s.story k).holder) :
    ∃ u, routeHanded k st (s.story k).holder u (t.endHoldByRoute st k).done ∧ routed k st filing notices s u ∧
      ∀ b, u.basket b = t.basket b := by
  have hholder : (t.story k).holder = (s.story k).holder := by rw [hk, hh]
  by_cases hs : (s.story k).holder = some st
  · have hend : t.endHoldByRoute st k = (t.loseHold k).handEvent k := by
      rw [State.endHoldByRoute, if_pos (hholder.trans hs), State.releaseHold]
    refine ⟨(t.loseHold k).done, ⟨fun h => absurd hs h, fun _ => ?_⟩, ⟨?_, ?_, fun j hj => ?_, fun a => ?_, ?_⟩, fun b => ?_⟩
    · rw [hend]
      exact handed_done (handed_handEvent _ k)
    · rw [loseHold_frame, hframe]
      rfl
    · rw [story_done, loseHold_story, if_pos rfl, if_pos hs, hk]
    · rw [story_done, loseHold_story, if_neg hj, hne j hj]
    · rw [loseHold_frame, hframe]; rfl
    · rw [if_pos hs]
      intro v
      rw [terminal_done, loseHold_holdMoved (hholder.trans hs) v, hframe]
      rfl
    · rw [loseHold_frame]; rfl
  · have hend : t.endHoldByRoute st k = t := by
      rw [State.endHoldByRoute, if_neg (by rwa [hholder])]
    refine ⟨t.done, ⟨fun _ => by rw [hend], fun h => absurd h hs⟩, ⟨?_, ?_, fun j hj => hne j hj, fun a => ?_, ?_⟩, fun b => rfl⟩
    · rw [hframe]; rfl
    · rw [story_done, if_neg hs, hk, ← hh]
    · rw [hframe]; rfl
    · rw [if_neg hs]
      intro v
      rw [hframe]; rfl

/-! ## ROUTE -/

/-- A route whose writer is signed on, once R51's first tests are passed. -/
theorem writeRoute_word (hon : s.signedOn st = true) (q : RouteRequest) :
    s.writeRoute st k .word q = s.routeRequest st k q := by
  simp [State.writeRoute, hon, badSize]

theorem exec_route_basket_word (hst : stationOf code = some st) (hon : s.signedOn st = true) (b : BasketId) (p : Priority) :
    exec (.routeToBasket code k .word b p) s = .next (s.routeRequest st k (.basket b p)) := by
  rw [exec_route_basket hst, writeRoute_word hon]

theorem exec_route_out_word (hst : stationOf code = some st) (hon : s.signedOn st = true) :
    exec (.routeToNone code k .word) s = .next (s.routeRequest st k .out) := by
  rw [exec_route_out hst, writeRoute_word hon]

/-- A station that may route passes the tests of R52. -/
theorem testing_routeRight (h : mayRoute s st k) (ts : List (Bool × Reason)) :
    testing st (s.routeRight st k ++ ts) s t = testing st ts s t := by
  have h1 : (isTerminal st && (s.story k).holder.isSome && (s.story k).holder != some st) = false := by
    rcases h with h | ⟨rfl, -⟩ | ⟨h, -⟩
    · simp [h]
    · rfl
    · simp [h]
  have h2 : ((s.story k).holder.isNone && s.lacksBasketRight st k) = false := by
    rcases h with h | ⟨-, h⟩ | ⟨-, h⟩
    · simp [h]
    · simp [Option.isNone_iff_eq_none, h]
    · simp [lacksBasketRight_eq_false h]
  simp only [State.routeRight, List.cons_append, List.nil_append, testing_cons, h1, h2, Bool.false_eq_true, if_false]

/-- A route to NONE that is admitted (R57). -/
theorem routeRequest_out (hu : (s.story k).phase ≠ .unused) (h : mayRoute s st k) :
    s.routeRequest st k .out = ((s.unfile k).endHoldByRoute st k).done := by
  rw [State.routeRequest, if_neg hu, State.routeOut, ← List.append_nil (s.routeRight st k), testing_routeRight h, testing_nil]

/-- A route to a basket that is admitted but for the test for room (R52). -/
theorem routeRequest_basket (hu : (s.story k).phase ≠ .unused) (h : mayRoute s st k) (b : BasketId) (p : Priority) :
    s.routeRequest st k (.basket b p) =
      if (s.story k).basket ≠ some b ∧ (s.basket b).limit ≤ (s.basket b).list.length then s.refuse st .basketFull
      else ((s.routeIn st k b p).endHoldByRoute st k).done := by
  rw [State.routeRequest, if_neg hu, State.routeTo, testing_routeRight h, testing_cons, testing_nil]
  refine if_congr ?_ rfl rfl
  rw [Bool.and_eq_true, basketFull_iff, decide_eq_true_iff]

/-- ROUTE_TO_NONE by a station that may. -/
theorem routeToNone_unfiles (hst : stationOf code = some st) (hon : s.signedOn st = true) (hu : (s.story k).phase ≠ .unused)
    (h : mayRoute s st k) :
    ∃ t u, exec (.routeToNone code k .word) s = .next t ∧ routeHanded k st (s.story k).holder u t ∧
      routed k st (fun v => { v with basket := none }) [] s u ∧
      ∀ b, u.basket b =
        if (s.story k).basket = some b then { s.basket b with list := without k (s.basket b).list } else s.basket b := by
  obtain ⟨u, hhand, hrouted, hb⟩ := routed_endHold (s := s) (t := s.unfile k) (st := st) (k := k) (notices := [])
    (filing := fun v => { v with basket := none })
    (by rw [List.append_nil]; exact unfile_frame s k) (by rw [unfile_story, if_pos rfl])
    (fun j hj => by rw [unfile_story, if_neg hj]) rfl
  refine ⟨_, u, ?_, hhand, hrouted, fun b => by rw [hb, unfile_basket]⟩
  rw [exec_route_out_word hst hon, routeRequest_out hu h]

theorem routeFilesTheStory : Parts.RouteFilesTheStory := by
  intro s code st k b p hst hon hu hmay hroom
  rw [exec_route_basket_word hst hon, routeRequest_basket hu hmay]
  refine ⟨fun hb hp => ?_, fun hb hp => ?_, fun hb hroom' => ?_, fun hb hfull => ?_⟩
  · rw [if_neg fun h => h.1 hb]
    have hin : s.routeIn st k b p = s := by rw [State.routeIn, if_pos hb, if_pos hp]
    obtain ⟨u, hhand, hrouted, hbask⟩ := routed_endHold (s := s) (t := s) (st := st) (k := k) (notices := []) (filing := id)
      (by rw [List.append_nil]) rfl (fun _ _ => rfl) rfl
    exact ⟨_, u, by rw [hin], hhand, hrouted, hbask⟩
  · rw [if_neg fun h => h.1 hb]
    have hin : s.routeIn st k b p = (s.unfile k).file k b p := by rw [State.routeIn, if_pos hb, if_neg hp]
    have hstory : ∀ j, ((s.unfile k).file k b p).story j = if j = k then { s.story k with prio := p } else s.story j :=
      fun j => by
        rw [file_story, unfile_story, if_pos rfl, unfile_story]
        split
        · rw [← hb]
        · rfl
    obtain ⟨u, hhand, hrouted, hbask⟩ := routed_endHold (s := s) (t := (s.unfile k).file k b p) (st := st) (k := k)
      (notices := []) (filing := fun v => { v with prio := p })
      (by rw [List.append_nil, file_frame, unfile_frame]) (by rw [hstory, if_pos rfl])
      (fun j hj => by rw [hstory, if_neg hj]) rfl
    refine ⟨_, u, by rw [hin], hhand, hrouted, ?_, fun c hc => ?_⟩
    · rw [hbask, file_basket, if_pos rfl, unfile_basket, if_pos hb]
    · rw [hbask, file_basket, if_neg hc, unfile_basket, if_neg]
      rw [hb, Option.some.injEq]
      exact Ne.symm hc
  · rw [if_neg fun h => absurd h.2 (Nat.not_le.2 hroom')]
    set f := (s.unfile k).file k b p with hf
    have hstory : ∀ j, f.story j = if j = k then { s.story k with basket := some b, prio := p } else s.story j := fun j => by
      rw [hf, file_story, unfile_story, if_pos rfl, unfile_story]
      split <;> rfl
    have hbasket : ∀ c, f.basket c = if c = b then { s.basket b with list := joined k p (s.basket b).list }
        else if (s.story k).basket = some c then { s.basket c with list := without k (s.basket c).list }
        else s.basket c := fun c => by
      rw [hf, file_basket, unfile_basket, unfile_basket, if_neg hb]
    have hframe : f = { s with stories := f.stories, baskets := f.baskets } := by rw [hf, file_frame, unfile_frame]
    have hin : s.routeIn st k b p = { f with stations := { s.stations with
        outgoing := s.stations.outgoing ++ arrivals s b st (arrivalNotice s k b p st) } } := by
      have hstn : f.stations = s.stations := by rw [hframe]
      rw [State.routeIn, if_neg hb, ← hf, raiseArrivals_taken f k b _ st (by rw [hstn]; exact hroom), hstn,
        arrivals_congr (s := s) (by rw [hbasket, if_pos rfl]) (fun u => by rw [hframe]; rfl),
        arrivalOf_moved (by rw [hstory, if_pos rfl]) (by rw [hframe]) (by rw [hframe])]
    rw [hin]
    obtain ⟨u, hhand, hrouted, hbask⟩ := routed_endHold (s := s) (t := { f with stations := { s.stations with
        outgoing := s.stations.outgoing ++ arrivals s b st (arrivalNotice s k b p st) } }) (st := st) (k := k)
      (notices := arrivals s b st (arrivalNotice s k b p st)) (filing := fun v => { v with basket := some b, prio := p })
      (by rw [hframe]) ((hstory k).trans (if_pos rfl)) (fun j hj => (hstory j).trans (if_neg hj)) rfl
    refine ⟨_, u, rfl, hhand, hrouted, ?_, fun c hc => ?_⟩
    · exact (hbask b).trans ((hbasket b).trans (if_pos rfl))
    · exact (hbask c).trans ((hbasket c).trans (if_neg hc))
  · rw [if_pos ⟨hb, hfull⟩]
    rfl

/-- A story newly created in a basket, before the watchers are told (R10). -/
def State.createdIn (s : State) (k : StoryId) (b : BasketId) (p : Priority) : State :=
  ((s.setStory k { unusedStory with phase := .live }).file k b p).queueStale k

theorem createdIn_frame (s : State) (k : StoryId) (b : BasketId) (p : Priority) : s.createdIn k b p = { s with
    stories := (s.createdIn k b p).stories, baskets := (s.createdIn k b p).baskets
    measure := { s.measure with queue := s.measure.queue ++ [k] } } := rfl

theorem createdIn_story (s : State) (k : StoryId) (b : BasketId) (p : Priority) (j : StoryId) :
    (s.createdIn k b p).story j = if j = k then
      { unusedStory with phase := .live, basket := some b, prio := p, depth := { noDepth with status := .stale } }
    else s.story j := by
  rw [State.createdIn, queueStale_story, file_story, if_pos rfl, file_story, story_setStory_same, story_setStory]
  split <;> rfl

theorem createdIn_basket (s : State) (k : StoryId) (b : BasketId) (p : Priority) (c : BasketId) :
    (s.createdIn k b p).basket c =
      if c = b then { s.basket b with list := joined k p (s.basket b).list } else s.basket c := file_basket _ k b p c

theorem routeCreatesTheStory : Parts.RouteCreatesTheStory := by
  intro s code st k b p hst hon hu hroom
  rw [exec_route_basket_word hst hon, State.routeRequest, if_pos hu, testing_cons, testing_nil]
  refine ⟨fun hl => ?_, fun hl => ?_⟩
  · rw [if_neg (by rw [basketFull_iff]; omega)]
    have hcreate : s.createByRoute st k b p = ((s.createdIn k b p).raiseArrivals k b none st).done := rfl
    have hnot : arrivalOf (s.createdIn k b p) k none st = { s.plainNotice .arrival 0xFF#8 with
        story := some k, basket := some b, prio := p, cause := some st, urgent := decide (p = .flash) } := by
      simp only [arrivalOf, State.storyNotice, createdIn_story, if_true, beq_flash]
      rfl
    have harr : ∀ n, arrivals (s.createdIn k b p) b st n = arrivals s b st n := fun n =>
      arrivals_congr (by rw [createdIn_basket, if_pos rfl]) (fun _ => rfl)
    rw [hcreate, raiseArrivals_taken (s.createdIn k b p) k b none st hroom, hnot, harr]
    refine ⟨_, rfl, ?_, ?_, ?_, fun j hj => ?_, fun c hc => ?_, fun a => ?_⟩
    · rw [createdIn_frame]; rfl
    · show (s.createdIn k b p).story k = _
      rw [createdIn_story, if_pos rfl]; rfl
    · show (s.createdIn k b p).basket b = _
      rw [createdIn_basket, if_pos rfl]
    · show (s.createdIn k b p).story j = _
      rw [createdIn_story, if_neg hj]
    · show (s.createdIn k b p).basket c = _
      rw [createdIn_basket, if_neg hc]
    · rw [createdIn_frame]; rfl
  · rw [if_pos ((basketFull_iff s b).2 hl)]
    rfl

/-- Settles O32: a route files the story, and what it hands over is the release of the writer's hold. -/
theorem routeToBasketFilesAndTells : Obligations.RouteToBasketFilesAndTells := ⟨routeCreatesTheStory, routeFilesTheStory⟩

/-! ## Purge -/

/-- The measure unit once a story has left it (R13, R95). -/
theorem forgetMeasure_frame (s : State) (k : StoryId) : s.forgetMeasure k = { s with
    measure := { s.measure with
      queue := s.measure.queue.filter fun j => decide (j ≠ k)
      engine := if s.inPass k = true then if s.measure.fontWait = true then .held else .idle else s.measure.engine
      fontWaitTimer :=
        if s.inPass k = true ∧ s.measure.fontWait = true then some 5 else s.measure.fontWaitTimer } } := by
  have hf : ∀ q : List StoryId, (q.filter fun j => j != k) = q.filter fun j => decide (j ≠ k) := fun q =>
    List.filter_congr fun j _ => by simp [bne, BEq.beq]
  unfold State.forgetMeasure State.abandonPass State.leaveMeasuring
  by_cases hp : s.inPass k = true
  · by_cases hw : s.measure.fontWait = true
    · simp only [if_pos hp, if_pos hw, if_pos (And.intro hp hw), hf]; rfl
    · have hn : ¬ (s.inPass k = true ∧ s.measure.fontWait = true) := fun h => hw h.2
      simp only [if_pos hp, if_neg hw, if_neg hn, hf]; rfl
  · have hn : ¬ (s.inPass k = true ∧ s.measure.fontWait = true) := fun h => hp h.1
    simp only [if_neg hp, if_neg hn, hf]; rfl

/-- A purge by the holder or the system station of a LIVE story in no slot passes the tests of R12. -/
theorem purgeRequest_taken (hl : (s.story k).phase = .live) (hc : (s.story k).closing = false)
    (hp : (s.story k).placement = none) (hh : (s.story k).holder = some st ∨ st = .system) :
    s.purgeRequest st k = s.purgeTaken k st := by
  rcases hh with hh | rfl
  · simp [State.purgeRequest, hl, hc, hp, hh]
  · simp [State.purgeRequest, hl, hc, hp, isTerminal]

/-- The VIEW-DROPPED notices of a purge (R13, R103). -/
def goneNotices (s : State) (k : StoryId) (writer : Station) : List Outgoing :=
  (s.story k).viewers.map fun v =>
    { recipient := .terminal v.terminal
      notice := { s.plainNotice .viewDropped 2 with
        story := some k, cause := some writer, depth := (s.story k).depth.depth } }

/-- The state of a purge before the viewers are told: out of the measure unit, of its basket and of its holder's hands. -/
def State.released (s : State) (k : StoryId) : State := ((s.forgetMeasure k).unfile k).loseHold k

theorem released_frame (s : State) (k : StoryId) : s.released k = { s with
    stories := (s.released k).stories, baskets := (s.released k).baskets
    measure := (s.forgetMeasure k).measure
    stations := { s.stations with terminals := (s.released k).stations.terminals } } := by
  have h : s.forgetMeasure k = { s with measure := (s.forgetMeasure k).measure } := by
    rw [forgetMeasure_frame]
  unfold State.released
  rw [loseHold_frame, unfile_frame, h]

theorem released_basket (s : State) (k : StoryId) (b : BasketId) : (s.released k).basket b = (s.unfile k).basket b := by
  have h : ((s.forgetMeasure k).unfile k).basket b = (s.unfile k).basket b := by
    rw [unfile_basket, unfile_basket, forgetMeasure_frame]
    rfl
  rw [← h, State.released, loseHold_frame]
  rfl

theorem released_story (s : State) (k j : StoryId) : (s.released k).story j =
    if j = k then { s.story k with basket := none, holder := none } else s.story j := by
  rw [State.released, loseHold_story, unfile_story, if_pos rfl, unfile_story, forgetMeasure_frame]
  split <;> rfl

theorem released_terminal (s : State) (k : StoryId) :
    (∀ old, (s.story k).holder = some old → holdMoved old (· - 1) s (s.released k)) ∧
      ((s.story k).holder = none → ∀ v, (s.released k).terminal v = s.terminal v) := by
  have hk : (((s.forgetMeasure k).unfile k).story k).holder = (s.story k).holder := by
    rw [unfile_story, if_pos rfl, forgetMeasure_frame]; rfl
  have hterm : ∀ v, ((s.forgetMeasure k).unfile k).terminal v = s.terminal v := fun v => by
    rw [unfile_frame, forgetMeasure_frame]; rfl
  refine ⟨fun old ho v => ?_, fun ho v => ?_⟩
  · rw [State.released, loseHold_holdMoved (hk.trans ho) v, hterm]
  · rw [State.released, loseHold_free _ k (hk.trans ho), hterm]

/-- Settles O33: NONE and PURGE leave the list, the hold and, for a purge, the measure unit; the viewers are told last. -/
theorem routeToNoneAndPurgeUnfile : Obligations.RouteToNoneAndPurgeUnfile := by
  intro s code st k hst hon
  refine ⟨routeToNone_unfiles hst hon, fun hl hc hp hh hv hroom => ?_⟩
  have hexec : exec (.purge code k .word) s = .next (s.purgeTaken k st) := by
    rw [exec_purge hst, writeRoute_word hon]
    exact congrArg _ (purgeRequest_taken hl hc hp hh)
  have hk : (s.released k).story k = { s.story k with basket := none, holder := none } := by rw [released_story, if_pos rfl]
  have hterm : ∀ v, ((s.released k).terminal v).signedOn = (s.terminal v).signedOn := fun v => by
    cases ho : (s.story k).holder with
    | none => rw [(released_terminal s k).2 ho]
    | some old =>
      rw [(released_terminal s k).1 old ho v]
      split <;> rfl
  have hgone : (s.released k).raiseGone k st = (s.released k).raiseAll (goneNotices s k st) := by
    have hnot : (s.released k).plainNotice .viewDropped 2 = s.plainNotice .viewDropped 2 := by rw [released_frame]; rfl
    rw [State.raiseGone, hk, hnot]
    rfl
  have hout : (s.released k).stations.outgoing = s.stations.outgoing := by rw [released_frame]
  have htaken : (s.released k).raiseAll (goneNotices s k st) = { s.released k with stations := { (s.released k).stations with
      outgoing := s.stations.outgoing ++ goneNotices s k st } } := by
    rw [raiseAll_taken, hout]
    · intro o ho
      obtain ⟨v, hmem, rfl⟩ := List.mem_map.1 ho
      exact (hterm v.terminal).trans (hv v hmem)
    · rw [hout]
      simpa [goneNotices] using hroom
  have hpurge : s.purgeTaken k st = (((s.released k).raiseGone k st).setStory k unusedStory).done := rfl
  rw [hexec, hpurge, hgone, htaken]
  refine ⟨_, rfl, ?_, by rw [story_done, story_setStory_same], fun b => ?_, (released_terminal s k).1, (released_terminal s k).2,
    fun j hj => ?_, fun a => ?_⟩
  · rw [released_frame, forgetMeasure_frame]; rfl
  · refine Eq.trans ?_ (unfile_basket s k b)
    rw [basket_done, basket_setStory]
    exact released_basket s k b
  · rw [story_done, story_setStory_ne _ _ hj]
    exact (released_story s k j).trans (if_neg hj)
  · rw [released_frame]; rfl

end Sys2Proof.Machine
end


section
/-! PROOFS. BUS_RESET (R34, R176): every hold is released in turn, and of the evaluations these cause at most one changes anything. -/

namespace Sys2Proof.Machine

open Safety

variable {s t x y : State} {k : StoryId} {l : List StoryId} {e : Queued} {r : Resting}

/-! ## The loss of several holds -/

/-- The holds of several stories end, with nothing handed to the dispatch engine. -/
def State.unhold (s : State) (l : List StoryId) : State := l.foldl State.loseHold s

@[simp] theorem unhold_nil (s : State) : s.unhold [] = s := rfl

@[simp] theorem unhold_cons (s : State) (k : StoryId) (l : List StoryId) : s.unhold (k :: l) = (s.loseHold k).unhold l := rfl

theorem unhold_frame (s : State) (l : List StoryId) : s.unhold l = { s with
    stories := (s.unhold l).stories
    stations := { s.stations with terminals := (s.unhold l).stations.terminals } } := by
  induction l generalizing s with
  | nil => rfl
  | cons k l ih =>
    rw [unhold_cons, ih, loseHold_frame]

theorem unhold_story (s : State) (l : List StoryId) (j : StoryId) : (s.unhold l).story j =
    if j ∈ l then { s.story j with holder := none } else s.story j := by
  induction l generalizing s with
  | nil => rfl
  | cons k l ih =>
    rw [unhold_cons, ih, loseHold_story]
    by_cases hk : j = k
    · subst hk
      by_cases hl : j ∈ l <;> simp [hl]
    · simp [hk]

/-- A terminal with no hold to lose loses none. -/
theorem unhold_terminal (h : ∀ u, (s.terminal u).holdCount = 0) (u : TerminalId) : (s.unhold l).terminal u = s.terminal u := by
  induction l generalizing s with
  | nil => rfl
  | cons k l ih =>
    have hk : ∀ v, (s.loseHold k).terminal v = s.terminal v := fun v => by
      cases ho : (s.story k).holder with
      | none => rw [loseHold_free s k ho]
      | some st =>
        rw [loseHold_holdMoved ho v]
        split
        · have hz : (s.terminal v).holdCount - 1 = (s.terminal v).holdCount := by rw [h v]
          simp only [hz]
        · rfl
    rw [unhold_cons, ih fun v => by rw [hk, h], hk]

/-! ## What the loss of a hold leaves of an evaluation -/

theorem loseHold_waitingHead (s : State) (k : StoryId) : (s.loseHold k).waitingHead = s.waitingHead := by
  rw [loseHold_frame]; rfl

@[simp] theorem page_loseHold (s : State) (k : StoryId) (p : PageId) : (s.loseHold k).page p = s.page p := by
  rw [loseHold_frame]; rfl

@[simp] theorem slotOf_loseHold (s : State) (k : StoryId) (p : PageId) (n : SlotId) :
    (s.loseHold k).slotOf p n = s.slotOf p n := by
  rw [loseHold_frame]; rfl

theorem pageStories_loseHold (s : State) (k : StoryId) (p : PageId) : (s.loseHold k).pageStories p = s.pageStories p := by
  rw [loseHold_frame]; rfl

/-- A story that loses its hold keeps all else. -/
theorem loseHold_keeps (s : State) (k j : StoryId) : ((s.loseHold k).story j).depth = (s.story j).depth ∧
    ((s.loseHold k).story j).closing = (s.story j).closing := by
  rw [loseHold_story]
  split
  · rename_i hj; subst hj; exact ⟨rfl, rfl⟩
  · exact ⟨rfl, rfl⟩

theorem slotFails_loseHold (s : State) (k : StoryId) (sl : Slot) (c : Cause) :
    slotFails (s.loseHold k) sl c ↔ slotFails s sl c := by
  have hl : (s.loseHold k).link = s.link := by rw [loseHold_frame]
  unfold slotFails
  rw [(loseHold_keeps s k sl.story).1, hl]

theorem failedAt_loseHold (s : State) (j : StoryId) (e : Queued) (c : Cause) (n : SlotId) (k : StoryId) :
    failedAt (s.loseHold j) e c n k = failedAt s e c n k := by
  have hst : (s.loseHold j).storyNotice .pageFailed (BitVec.ofNat 8 (causeCode c)) k =
      s.storyNotice .pageFailed (BitVec.ofNat 8 (causeCode c)) k := by
    have hp : (s.loseHold j).pages = s.pages ∧ (s.loseHold j).timebase = s.timebase := by rw [loseHold_frame]; exact ⟨rfl, rfl⟩
    have hk : ((s.loseHold j).story k).placement = (s.story k).placement ∧
        ((s.loseHold j).story k).basket = (s.story k).basket ∧ ((s.loseHold j).story k).prio = (s.story k).prio ∧
        ((s.loseHold j).story k).depth = (s.story k).depth := by
      rw [loseHold_story]
      split
      · rename_i hj; subst hj; exact ⟨rfl, rfl, rfl, rfl⟩
      · exact ⟨rfl, rfl, rfl, rfl⟩
    simp only [State.storyNotice, State.plainNotice, hp.1, hp.2, hk.1, hk.2.1, hk.2.2.1, hk.2.2.2]
  rw [failedAt, hst, failedAt]

/-- The state with what an evaluation sets replaced: stories, pages, the dispatch unit, the link and the outgoing queue. -/
def State.reworked (s : State) (S : Table Story) (P : PageUnit) (D : DispatchUnit) (L : Link) (O : List Outgoing) : State :=
  { s with stories := S, pages := P, dispatch := D, link := L, stations := { s.stations with outgoing := O } }

/-- The loss of a hold comes before or after changes that leave holders and terminals alone. -/
theorem loseHold_reworked {S : Table Story} {P : PageUnit} {D : DispatchUnit} {L : Link} {O : List Outgoing}
    (hh : ((s.reworked S P D L O).story k).holder = (s.story k).holder) :
    ∃ S', (s.reworked S P D L O).loseHold k = (s.loseHold k).reworked S' P D L O := by
  cases ho : (s.story k).holder with
  | none =>
    rw [loseHold_free _ k (hh.trans ho), loseHold_free s k ho]
    exact ⟨S, rfl⟩
  | some st =>
    rw [loseHold_held _ k st (hh.trans ho), loseHold_held s k st ho]
    cases st <;> exact ⟨_, rfl⟩

/-- A failure of the WAITING head page and the loss of a hold come in either order. -/
theorem waitingFails_loseHold {c : Cause} {o : Outgoing} (h : waitingFails e r c o s t) (k : StoryId) :
    waitingFails e r c o (s.loseHold k) (t.loseHold k) := by
  obtain ⟨⟨h1, h2, h3, h4, h5⟩, h6, h7⟩ := h
  have hlose : (s.loseHold k).pages = s.pages ∧ (s.loseHold k).dispatch = s.dispatch ∧ (s.loseHold k).link = s.link ∧
      (s.loseHold k).stations.outgoing = s.stations.outgoing := by rw [loseHold_frame]; exact ⟨rfl, rfl, rfl, rfl⟩
  obtain ⟨hpages, hdisp, hlink, hout⟩ := hlose
  have hre : t = s.reworked t.stories { s.pages with pages := t.pages.pages } t.dispatch t.link
      (s.stations.outgoing ++ [o]) := h1
  have hholder : (t.story k).holder = (s.story k).holder := by rw [h4]
  obtain ⟨S', hS⟩ := loseHold_reworked (k := k) (hre ▸ hholder)
  rw [← hre] at hS
  have hmem : ∀ (u : State) (a : Nat), (u.loseHold k).memByte a = u.memByte a := fun u a => by rw [loseHold_frame]; rfl
  refine ⟨⟨?_, by rw [page_loseHold, page_loseHold, h2], fun q hq => by rw [page_loseHold, page_loseHold, h3 q hq],
    fun j => ?_, fun a => by rw [hmem, hmem, h5]⟩, ?_, ?_⟩
  · rw [hS, ← hpages, ← hout]
    rfl
  · rw [loseHold_story, loseHold_story, h4, h4, pageStories_loseHold]
    split
    · rename_i hj; subst hj; rfl
    · rfl
  · rw [hS, hlink]; exact h6
  · rw [hS, hdisp]; exact h7

/-- The start of a send and the loss of a hold come in either order. -/
theorem sendStarts_loseHold (h : sendStarts e r s t) (k : StoryId) : sendStarts e r (s.loseHold k) (t.loseHold k) := by
  obtain ⟨h1, h2, h3, n, sl, hn, hlt, hd⟩ := h
  have hlose : (s.loseHold k).pages = s.pages ∧ (s.loseHold k).dispatch = s.dispatch ∧ (s.loseHold k).link = s.link ∧
      (s.loseHold k).stations.outgoing = s.stations.outgoing := by rw [loseHold_frame]; exact ⟨rfl, rfl, rfl, rfl⟩
  obtain ⟨hpages, hdisp, hlink, hout⟩ := hlose
  have hframe : beginFrame (s.loseHold k) e = beginFrame s e := by rw [beginFrame, page_loseHold, beginFrame]
  have hreader : (s.loseHold k).newReader sl = s.newReader sl := by
    rw [State.newReader, (loseHold_keeps s k sl.story).1, State.newReader]
  set L : Link := { s.link with
    outstanding := some { frame := beginFrame s e, tries := 1 }
    transmitter := s.link.transmitter ++ if s.link.waitHold then [] else [.attempt (beginFrame s e) true] } with hL
  have hre : t = s.reworked s.stories { s.pages with pages := t.pages.pages } t.dispatch L s.stations.outgoing := h1
  obtain ⟨S', hS⟩ := loseHold_reworked (s := s) (k := k) (S := s.stories) (P := { s.pages with pages := t.pages.pages })
    (D := t.dispatch) (L := L) (O := s.stations.outgoing) rfl
  rw [← hre] at hS
  have hstories : (t.loseHold k).stories = (s.loseHold k).stories := by
    have hst : ∀ u : State, u.stories = s.stories → (u.loseHold k).stories = (s.loseHold k).stories := fun u hu => by
      have hk : u.story k = s.story k := congrArg (fun S => tableGet (fun _ => unusedStory) S k.val) hu
      unfold State.loseHold
      rw [hk]
      split
      · rename_i st _
        cases st <;> simp only [State.countHold, State.setTerminal, State.setStory, hu]
      · exact hu
    exact hst t (by rw [h1])
  refine ⟨?_, by rw [page_loseHold, page_loseHold, h2], fun q hq => by rw [page_loseHold, page_loseHold, h3 q hq],
    n, sl, by rw [slotOf_loseHold, hn], fun m hm => by rw [slotOf_loseHold, hlt m hm], ?_⟩
  · have hS'' : S' = (s.loseHold k).stories := by rw [← hstories, hS]; rfl
    rw [hframe, hlink, hS, hS'', ← hpages, ← hout]
    rfl
  · rw [hreader, hS, hdisp]
    exact hd

theorem waitingFails_unhold {c : Cause} {o : Outgoing} (h : waitingFails e r c o s t) (l : List StoryId) :
    waitingFails e r c o (s.unhold l) (t.unhold l) := by
  induction l generalizing s t with
  | nil => exact h
  | cons k l ih => exact ih (waitingFails_loseHold h k)

theorem sendStarts_unhold (h : sendStarts e r s t) (l : List StoryId) : sendStarts e r (s.unhold l) (t.unhold l) := by
  induction l generalizing s t with
  | nil => exact h
  | cons k l ih => exact ih (sendStarts_loseHold h k)

/-! ## Releases in turn -/

/-- With no page WAITING at the head, or no closing story among them, releases hand over nothing. -/
theorem releases_quiet (h : s.waitingHead = none ∨ ∀ k ∈ l, (s.story k).closing = false) :
    l.foldl State.releaseHold s = s.unhold l := by
  induction l generalizing s with
  | nil => rfl
  | cons k l ih =>
    have hk : s.releaseHold k = s.loseHold k := by
      refine handEvent_quiet _ k ?_
      rw [(loseHold_keeps s k k).2, loseHold_waitingHead]
      rcases h with h | h
      · exact .inr h
      · exact .inl (h k List.mem_cons_self)
    rw [List.foldl_cons, hk, unhold_cons]
    refine ih ?_
    rw [loseHold_waitingHead]
    refine h.imp_right fun h j hj => ?_
    rw [(loseHold_keeps s k j).2]
    exact h j (List.mem_cons_of_mem _ hj)

/-- A page with a story still to be measured, and none that fails, goes on waiting whatever is released. -/
theorem releases_wait (hw : s.waitingHead = some e)
    (hnone : ∀ n sl c, s.slotOf e.page n = some sl → ¬ slotFails s sl c) {n : SlotId} {sl : Slot}
    (hn : s.slotOf e.page n = some sl)
    (hs : (s.story sl.story).depth.status = .stale ∨ (s.story sl.story).depth.status = .measuring) :
    l.foldl State.releaseHold s = s.unhold l := by
  induction l generalizing s with
  | nil => rfl
  | cons k l ih =>
    have hw' : (s.loseHold k).waitingHead = some e := by rw [loseHold_waitingHead, hw]
    have hnone' : ∀ n sl c, (s.loseHold k).slotOf e.page n = some sl → ¬ slotFails (s.loseHold k) sl c := fun n sl c h => by
      rw [slotFails_loseHold]
      exact hnone n sl c (by rwa [slotOf_loseHold] at h)
    have hn' : (s.loseHold k).slotOf e.page n = some sl := by rw [slotOf_loseHold, hn]
    have hs' : ((s.loseHold k).story sl.story).depth.status = .stale ∨
        ((s.loseHold k).story sl.story).depth.status = .measuring := by rwa [(loseHold_keeps s k sl.story).1]
    have hk : s.releaseHold k = s.loseHold k := by
      rw [State.releaseHold, State.handEvent]
      split
      · exact evaluate_waits hw' (verdict_waits hnone' hn' (.inr hs'))
      · rfl
    rw [List.foldl_cons, hk, unhold_cons]
    exact ih hw' hnone' hn' hs'

/-- A page with a failing slot, the only one queued, fails at the first release of a closing story. -/
theorem releases_fail (hw : s.waitingHead = some e) (hst : (s.page e.page).state = .waiting r) (hq : s.dispatch.queue = [e])
    (he : s.dispatch.engine = .waiting) (hl : s.stations.outgoing.length < 256) {n : SlotId} {sl : Slot} {c : Cause}
    (hn : s.slotOf e.page n = some sl) (hc : slotFails s sl c)
    (hlt : ∀ m sm d, m < n → s.slotOf e.page m = some sm → ¬ slotFails s sm d) (hk : ∃ k ∈ l, (s.story k).closing = true) :
    waitingFails e r c (failedAt s e c n sl.story) (s.unhold l) (l.foldl State.releaseHold s) := by
  induction l generalizing s with
  | nil => obtain ⟨k, hk, -⟩ := hk; cases hk
  | cons k l ih =>
    have hw' : (s.loseHold k).waitingHead = some e := by rw [loseHold_waitingHead, hw]
    have hst' : ((s.loseHold k).page e.page).state = .waiting r := by rw [page_loseHold, hst]
    have hq' : (s.loseHold k).dispatch.queue = [e] := by rw [loseHold_frame]; exact hq
    have he' : (s.loseHold k).dispatch.engine = .waiting := by rw [loseHold_frame]; exact he
    have hl' : (s.loseHold k).stations.outgoing.length < 256 := by rw [loseHold_frame]; exact hl
    have hn' : (s.loseHold k).slotOf e.page n = some sl := by rw [slotOf_loseHold, hn]
    have hc' : slotFails (s.loseHold k) sl c := (slotFails_loseHold s k sl c).2 hc
    have hlt' : ∀ m sm d, m < n → (s.loseHold k).slotOf e.page m = some sm → ¬ slotFails (s.loseHold k) sm d :=
      fun m sm d hm hsm => by
        rw [slotFails_loseHold]
        exact hlt m sm d hm (by rwa [slotOf_loseHold] at hsm)
    rw [List.foldl_cons, unhold_cons, State.releaseHold, State.handEvent, (loseHold_keeps s k k).2,
      ← failedAt_loseHold s k]
    cases hkc : (s.story k).closing with
    | true =>
      rw [if_pos rfl, evaluate_fails hw' (verdict_fails hn' hc' hlt')]
      have hfail := waitingFails_fail (c := c) (n := n) (k := sl.story) hst' hq' he' hl'
      have hquiet : ((s.loseHold k).fail e (evaluationFailure c n sl.story)).waitingHead = none := by
        rw [State.waitingHead, hfail.2.2]
      rw [releases_quiet (.inl hquiet)]
      exact waitingFails_unhold hfail l
    | false =>
      rw [if_neg Bool.false_ne_true]
      refine ih hw' hst' hq' he' hl' hn' hc' hlt' ?_
      obtain ⟨j, hj, hjc⟩ := hk
      rcases List.mem_cons.1 hj with rfl | hj
      · rw [hkc] at hjc; cases hjc
      · exact ⟨j, hj, by rw [(loseHold_keeps s k j).2, hjc]⟩

/-- No page is WAITING at the head once the head page is sent. -/
theorem sendStarts_waitingHead (h : sendStarts e r s t) (hw : s.waitingHead = some e) : t.waitingHead = none := by
  obtain ⟨-, hpage, -, n, sl, -, -, hd⟩ := h
  refine Option.eq_none_iff_forall_ne_some.2 fun e' he' => ?_
  obtain ⟨hhead, hkind⟩ := (waitingHead_eq_some _ _).1 he'
  have hq : t.dispatch.queue = s.dispatch.queue := by rw [hd]
  rw [hq, ((waitingHead_eq_some _ _).1 hw).1, Option.some.injEq] at hhead
  rw [← hhead, hpage] at hkind
  cases hkind

/-- A page with nothing to fail or to measure is sent at the release that leaves none of its stories held. -/
theorem releases_send (hw : s.waitingHead = some e) (hst : (s.page e.page).state = .waiting r)
    (hnone : ∀ n sl c, s.slotOf e.page n = some sl → ¬ slotFails s sl c)
    (hready : ∀ n sl, s.slotOf e.page n = some sl →
      ¬ ((s.story sl.story).depth.status = .stale ∨ (s.story sl.story).depth.status = .measuring))
    (hne : s.pageStories e.page ≠ []) (hcl : ∀ n sl, s.slotOf e.page n = some sl → (s.story sl.story).closing = true)
    (hheld : ∀ k, (s.story k).holder ≠ none → k ∈ l) (hk : ∃ k ∈ l, (s.story k).closing = true) :
    sendStarts e r (s.unhold l) (l.foldl State.releaseHold s) := by
  induction l generalizing s with
  | nil => obtain ⟨k, hk, -⟩ := hk; cases hk
  | cons k l ih =>
    have hw' : (s.loseHold k).waitingHead = some e := by rw [loseHold_waitingHead, hw]
    have hst' : ((s.loseHold k).page e.page).state = .waiting r := by rw [page_loseHold, hst]
    have hslot : ∀ n sl, (s.loseHold k).slotOf e.page n = some sl → s.slotOf e.page n = some sl := fun n sl h => by
      rwa [slotOf_loseHold] at h
    have hnone' : ∀ n sl c, (s.loseHold k).slotOf e.page n = some sl → ¬ slotFails (s.loseHold k) sl c := fun n sl c h => by
      rw [slotFails_loseHold]
      exact hnone n sl c (hslot n sl h)
    have hready' : ∀ n sl, (s.loseHold k).slotOf e.page n = some sl →
        ¬ (((s.loseHold k).story sl.story).depth.status = .stale ∨
          ((s.loseHold k).story sl.story).depth.status = .measuring) := fun n sl h => by
      rw [(loseHold_keeps s k sl.story).1]
      exact hready n sl (hslot n sl h)
    have hne' : (s.loseHold k).pageStories e.page ≠ [] := by rwa [pageStories_loseHold]
    have hcl' : ∀ n sl, (s.loseHold k).slotOf e.page n = some sl → ((s.loseHold k).story sl.story).closing = true :=
      fun n sl h => by
        rw [(loseHold_keeps s k sl.story).2]
        exact hcl n sl (hslot n sl h)
    have hheld' : ∀ j, ((s.loseHold k).story j).holder ≠ none → j ∈ l := fun j hj => by
      rw [loseHold_story] at hj
      split at hj
      · exact absurd rfl hj
      · exact (List.mem_cons.1 (hheld j hj)).resolve_left ‹_›
    rw [List.foldl_cons, unhold_cons, State.releaseHold, State.handEvent, (loseHold_keeps s k k).2]
    cases hkc : (s.story k).closing with
    | false =>
      rw [if_neg Bool.false_ne_true]
      refine ih hw' hst' hnone' hready' hne' hcl' hheld' ?_
      obtain ⟨j, hj, hjc⟩ := hk
      rcases List.mem_cons.1 hj with rfl | hj
      · rw [hkc] at hjc; cases hjc
      · exact ⟨j, hj, by rw [(loseHold_keeps s k j).2, hjc]⟩
    | true =>
      rw [if_pos rfl]
      by_cases hany : ∃ n sl, (s.loseHold k).slotOf e.page n = some sl ∧ ((s.loseHold k).story sl.story).holder ≠ none
      · obtain ⟨n, sl, hn, hh⟩ := hany
        rw [evaluate_waits hw' (verdict_waits hnone' hn (.inl hh))]
        exact ih hw' hst' hnone' hready' hne' hcl' hheld' ⟨sl.story, hheld' _ hh, hcl' n sl hn⟩
      · have hpass : ∀ n sl, (s.loseHold k).slotOf e.page n = some sl → ¬ slotStalls (s.loseHold k) sl := by
          rintro n sl hn (hh | hs)
          · exact hany ⟨n, sl, hn, hh⟩
          · exact hready' n sl hn hs
        rw [evaluate_passes hw' (verdict_passes hnone' hpass)]
        have hsend := sendStarts_enterSending hst' hne'
        rw [releases_quiet (.inl (sendStarts_waitingHead hsend hw'))]
        exact sendStarts_unhold hsend l

/-! ## All releases at once -/

theorem unhold_keeps (s : State) (l : List StoryId) (j : StoryId) : ((s.unhold l).story j).depth = (s.story j).depth := by
  rw [unhold_story]
  split <;> rfl

theorem slotOf_unhold (s : State) (l : List StoryId) (p : PageId) (n : SlotId) : (s.unhold l).slotOf p n = s.slotOf p n := by
  rw [unhold_frame]; rfl

theorem slotFails_unhold (s : State) (l : List StoryId) (sl : Slot) (c : Cause) :
    slotFails (s.unhold l) sl c ↔ slotFails s sl c := by
  have hl : (s.unhold l).link = s.link := by rw [unhold_frame]
  unfold slotFails
  rw [unhold_keeps, hl]

theorem failedAt_unhold (s : State) (l : List StoryId) (e : Queued) (c : Cause) (n : SlotId) (k : StoryId) :
    failedAt (s.unhold l) e c n k = failedAt s e c n k := by
  induction l generalizing s with
  | nil => rfl
  | cons j l ih => rw [unhold_cons, ih, failedAt_loseHold]

/-- Once every held story has been released, one of them closing, the WAITING head page has been evaluated. -/
theorem releases_evaluated (hw : s.waitingHead = some e) (hst : (s.page e.page).state = .waiting r)
    (hcl : ∀ n sl, s.slotOf e.page n = some sl → (s.story sl.story).closing = true)
    (hheld : ∀ k, (s.story k).holder ≠ none → k ∈ l) (hk : ∃ k ∈ l, (s.story k).closing = true) :
    evaluated e r (s.unhold l) (l.foldl State.releaseHold s) := by
  have hholder : ∀ k, ((s.unhold l).story k).holder = none := fun k => by
    rw [unhold_story]
    split
    · rfl
    · by_contra h
      exact ‹k ∉ l› (hheld k h)
  simp only [evaluated, slotOf_unhold, slotFails_unhold, failedAt_unhold, slotStalls, hholder, unhold_keeps, ne_eq,
    not_true_eq_false, false_or]
  refine ⟨fun n sl c hn hc hlt hq he hl => ?_, fun hnone => ⟨fun ⟨n, sl, hn, hs⟩ => ?_, fun hready hne => ?_⟩⟩
  · rw [unhold_frame] at hq he hl
    exact releases_fail hw hst hq he hl hn hc hlt hk
  · exact releases_wait hw hnone hn hs
  · have hne' : s.pageStories e.page ≠ [] := by rw [unhold_frame] at hne; exact hne
    exact releases_send hw hst hnone hready hne' hcl hheld hk

end Sys2Proof.Machine
end


section
/-! PROOFS. BUS_RESET, part by part (R21, R34, R95, R107, R115, R171, R176). -/

namespace Sys2Proof.Machine

open Safety

variable {s t : State} {k : StoryId} {e : Queued} {r : Resting}

/-! ## The station unit -/

/-- A terminal's record after a bus reset (R171, R176). -/
def resetRecord (v : Terminal) : Terminal := { v with signedOn := false, ring := emptyRing, holdCount := 0 }

theorem resetTerminals (l : List TerminalId) (s : State) : ∃ T : Table Terminal,
    l.foldl State.resetTerminal s = { s with stations := { s.stations with terminals := T } } ∧
      ∀ u : TerminalId, tableGet (fun _ => offTerminal) T u.val = if u ∈ l then resetRecord (s.terminal u) else s.terminal u := by
  induction l generalizing s with
  | nil => exact ⟨_, rfl, fun _ => rfl⟩
  | cons a l ih =>
    obtain ⟨T, hT, hu⟩ := ih (s.resetTerminal a)
    refine ⟨T, hT, fun u => ?_⟩
    have ha : (s.resetTerminal a).terminal u = if u = a then resetRecord (s.terminal u) else s.terminal u := by
      show (s.setTerminal a (resetRecord (s.terminal a))).terminal u = _
      rw [terminal_setTerminal]
      split
      · rename_i hua; rw [hua]
      · rfl
    rw [hu, ha]
    by_cases hua : u = a
    · subst hua
      by_cases hl : u ∈ l <;> simp [hl, resetRecord]
    · simp [hua]

/-- The station unit's part of a bus reset (R107, R113). -/
theorem resetStations_eq (s : State) : ∃ T : Table Terminal,
    s.resetStations = { s with stations := { s.stations with
      terminals := T, outgoing := []
      system := { s.stations.system with ring := emptyRing }
      ringWrite := s.stations.ringWrite.map fun w => { w with voided := true } } } ∧
    ∀ u : TerminalId, tableGet (fun _ => offTerminal) T u.val = resetRecord (s.terminal u) := by
  obtain ⟨T, hT, hu⟩ := resetTerminals allTerminals s
  refine ⟨T, ?_, fun u => by rw [hu, if_pos (show u ∈ allTerminals from List.mem_finRange u)]⟩
  rw [State.resetStations, hT]
  rfl

/-! ## Stories of a table -/

/-- The stories whose entry satisfies a condition that an UNUSED story's does not. -/
theorem mem_storiesWhere {p : Story → Bool} (hp : p unusedStory = false) (s : State) (k : StoryId) :
    k ∈ s.storiesWhere p ↔ p (s.story k) = true := by
  simp only [State.storiesWhere, List.mem_filterMap]
  constructor
  · rintro ⟨e, -, he⟩
    split at he
    · split at he
      · cases he; assumption
      · cases he
    · cases he
  · intro hk
    by_cases hmem : ∀ e ∈ s.stories, e.1 ≠ k.val
    · have : s.story k = unusedStory := tableGet_of_not_mem _ _ _ hmem
      rw [this, hp] at hk
      cases hk
    · push Not at hmem
      obtain ⟨e, he, hek⟩ := hmem
      refine ⟨e, he, ?_⟩
      have hlt : e.1 < 2048 := hek ▸ k.isLt
      have hid : (⟨e.1, hlt⟩ : StoryId) = k := Fin.ext hek
      rw [dif_pos hlt, hid, if_pos hk]

/-- Every viewer list is emptied (R21). -/
theorem emptyAllViewers_eq (s : State) : ∃ S : Table Story, s.emptyAllViewers = { s with stories := S } ∧
    ∀ j : StoryId, tableGet (fun _ => unusedStory) S j.val = { s.story j with viewers := [] } := by
  have hfold : ∀ (l : List StoryId) (s : State), ∃ S : Table Story,
      l.foldl State.emptyViewers s = { s with stories := S } ∧ ∀ j : StoryId, tableGet (fun _ => unusedStory) S j.val =
        if j ∈ l then { s.story j with viewers := [] } else s.story j := by
    intro l
    induction l with
    | nil => exact fun s => ⟨_, rfl, fun _ => rfl⟩
    | cons a l ih =>
      intro s
      obtain ⟨S, hS, hj⟩ := ih (s.emptyViewers a)
      refine ⟨S, hS, fun j => ?_⟩
      rw [hj, State.emptyViewers, story_setStory]
      by_cases hja : j = a
      · subst hja
        by_cases hl : j ∈ l <;> simp [hl]
      · simp [hja]
  obtain ⟨S, hS, hj⟩ := hfold (s.storiesWhere fun v => v.viewers != []) s
  refine ⟨S, hS, fun j => ?_⟩
  rw [hj]
  split
  · rfl
  · rename_i hmem
    rw [mem_storiesWhere rfl] at hmem
    have : (s.story j).viewers = [] := by simpa using hmem
    rw [← this]

/-! ## The attention lines -/

/-- The state with all attention lines low. -/
def State.lowLines (s : State) : State := { s with stations := { s.stations with groupLines := 0, systemLine := false } }

theorem terminal_lowLines (s : State) (u : TerminalId) : s.lowLines.terminal u = s.terminal u := rfl

theorem story_lowLines (s : State) (k : StoryId) : s.lowLines.story k = s.story k := rfl

/-- With no terminal signed on and the system station's ring empty, every line is low (R115). -/
theorem refreshLines_low (hon : ∀ u, (s.terminal u).signedOn = false) (hring : s.stations.system.ring = emptyRing) :
    s.refreshLines = s.lowLines := by
  have hdue : s.groupsDue = 0 := by
    apply BitVec.eq_of_getLsbD_eq
    intro i hi
    have hg : s.groupDue ⟨i, hi⟩ = false := by
      simp [State.groupDue, hon]
    exact (groupsDue_bit s ⟨i, hi⟩).trans (hg.trans (by simp))
  rw [State.refreshLines, hdue, hring]
  rfl

/-- The lines change nothing of an evaluation. -/
theorem evaluated_refreshLines (hon : ∀ u, (s.terminal u).signedOn = false) (hring : s.stations.system.ring = emptyRing)
    (h : evaluated e r s t) : evaluated e r s.refreshLines t.refreshLines := by
  have hlow : ∀ u : State, u.stations.terminals = s.stations.terminals → u.stations.system = s.stations.system →
      u.refreshLines = u.lowLines := fun u ht hs => by
    refine refreshLines_low (fun v => ?_) (by rw [hs, hring])
    rw [State.terminal, ht]
    exact hon v
  rw [hlow s rfl rfl]
  refine ⟨fun n sl c hn hc hlt hq he hl => ?_, fun hnone => ⟨fun hs => ?_, fun hready hne => ?_⟩⟩
  · obtain ⟨⟨h1, h2, h3, h4, h5⟩, h6, h7⟩ := h.1 n sl c hn hc hlt hq he hl
    rw [hlow t (by rw [h1]) (by rw [h1])]
    exact ⟨⟨congrArg State.lowLines h1, h2, h3, h4, h5⟩, h6, h7⟩
  · rw [(h.2 hnone).1 hs, hlow s rfl rfl]
  · obtain ⟨h1, h2, h3, h4⟩ := (h.2 hnone).2 hready hne
    rw [hlow t (by rw [h1]) (by rw [h1])]
    exact ⟨congrArg State.lowLines h1, h2, h3, h4⟩

/-! ## The reset -/

/-- The part of a bus reset that comes before the releases. -/
def State.cleared (s : State) : State := s.resetStations.emptyAllViewers.resetFontWait

/-- What comes before the releases, record by record. -/
theorem cleared_eq (s : State) : ∃ (T : Table Terminal) (S : Table Story),
    s.cleared = { s with
      stories := S
      stations := { s.stations with
        terminals := T, outgoing := []
        system := { s.stations.system with ring := emptyRing }
        ringWrite := s.stations.ringWrite.map fun w => { w with voided := true } }
      measure := { s.measure with
        engine := if s.measure.engine = .held then .idle else s.measure.engine
        fontWait := false, fontWaitTimer := none } } ∧
    (∀ u : TerminalId, s.cleared.terminal u = resetRecord (s.terminal u)) ∧
    ∀ j : StoryId, s.cleared.story j = { s.story j with viewers := [] } := by
  obtain ⟨T, hT, hTu⟩ := resetStations_eq s
  obtain ⟨S, hS, hSj⟩ := emptyAllViewers_eq s.resetStations
  have hframe : s.cleared = { s with
      stories := S
      stations := { s.stations with
        terminals := T, outgoing := []
        system := { s.stations.system with ring := emptyRing }
        ringWrite := s.stations.ringWrite.map fun w => { w with voided := true } }
      measure := { s.measure with
        engine := if s.measure.engine = .held then .idle else s.measure.engine
        fontWait := false, fontWaitTimer := none } } := by
    rw [State.cleared, hS, hT]
    rfl
  refine ⟨T, S, hframe, fun u => by rw [hframe]; exact hTu u, fun j => ?_⟩
  rw [hframe]
  refine (hSj j).trans ?_
  rw [hT]
  rfl

/-- The stories a bus reset releases. -/
def State.heldAfterClear (s : State) : List StoryId := s.cleared.storiesWhere fun v => v.holder.isSome

theorem mem_heldAfterClear (s : State) (k : StoryId) : k ∈ s.heldAfterClear ↔ (s.story k).holder ≠ none := by
  obtain ⟨T, S, -, -, hstory⟩ := cleared_eq s
  rw [State.heldAfterClear, mem_storiesWhere rfl, hstory]
  exact Option.isSome_iff_ne_none

/-- Every hold ends before the lines follow: what is left of the records. -/
theorem cleared_unhold (s : State) :
    (∀ u, (s.cleared.unhold s.heldAfterClear).terminal u = resetRecord (s.terminal u)) ∧
    (s.cleared.unhold s.heldAfterClear).stations.system.ring = emptyRing ∧
    ∀ j, (s.cleared.unhold s.heldAfterClear).story j = { s.story j with holder := none, viewers := [] } := by
  obtain ⟨T, S, hframe, hterm, hstory⟩ := cleared_eq s
  refine ⟨fun u => ?_, ?_, fun j => ?_⟩
  · rw [unhold_terminal (fun v => by rw [hterm]; rfl), hterm]
  · rw [unhold_frame, hframe]
  · rw [unhold_story, hstory]
    split
    · rfl
    · rename_i hj
      have : (s.story j).holder = none := by
        by_contra h
        exact hj ((mem_heldAfterClear s j).2 h)
      rw [← this]

/-- The stories on a WAITING head page are closing (R4). -/
theorem closing_of_waiting (hplan : PlanLaw s) (hdisp : DispatchLaw s) {p : PageId} (hr : (s.page p).state = .waiting r)
    {n : SlotId} {sl : Slot} (hn : s.slotOf p n = some sl) : (s.story sl.story).closing = true :=
  (hdisp.closing sl.story).2 ⟨p, n, hplan.slot _ _ _ hn, by rw [busy, hr]; rfl⟩

/-- Settles O59: the releases come after all else, and at most one of them changes more than a hold. -/
theorem busResetSignsEveryoneOff : Obligations.BusResetSignsEveryoneOff := by
  intro s hplan hdisp
  obtain ⟨T, S, hframe, -, hstory⟩ := cleared_eq s
  obtain ⟨hterm, hring, hunheld⟩ := cleared_unhold s
  have hon : ∀ u, ((s.cleared.unhold s.heldAfterClear).terminal u).signedOn = false := fun u => by rw [hterm]; rfl
  have hmem := mem_heldAfterClear s
  have hhead : s.cleared.waitingHead = s.waitingHead := by rw [hframe]; rfl
  have hpage : ∀ p, s.cleared.page p = s.page p := fun p => by rw [hframe]; rfl
  have hlow := refreshLines_low hon hring
  obtain ⟨A, B, hrest⟩ : ∃ A B, s.cleared.unhold s.heldAfterClear = { s.cleared with
      stories := A, stations := { s.cleared.stations with terminals := B } } := ⟨_, _, unhold_frame _ _⟩
  refine ⟨(s.heldAfterClear.foldl State.releaseHold s.cleared).refreshLines,
    (s.cleared.unhold s.heldAfterClear).refreshLines, rfl, fun hq => ?_, fun e r k he hr hc hh => ?_, ?_, fun u => ?_,
    fun j => ?_, fun a => ?_⟩
  · rw [releases_quiet]
    rcases hq with hq | hq
    · refine .inr fun k hk => Bool.eq_false_iff.2 fun hc => (hmem k).1 hk (hq k ?_)
      rwa [hstory] at hc
    · exact .inl (hhead.trans hq)
  · refine evaluated_refreshLines hon hring (releases_evaluated (hhead.trans he) (by rw [hpage]; exact hr)
      (fun n sl hn => ?_) (fun j hj => (hmem j).2 ?_) ⟨k, (hmem k).2 hh, by rw [hstory]; exact hc⟩)
    · rw [hstory]
      rw [State.slotOf, hpage] at hn
      exact closing_of_waiting hplan hdisp hr hn
    · rwa [hstory] at hj
  · rw [hlow, hrest, hframe]
    rfl
  · rw [hlow, terminal_lowLines, hterm]
    rfl
  · rw [hlow, story_lowLines, hunheld]
  · rw [hlow, hrest, hframe]
    rfl

end Sys2Proof.Machine
end


section
/-! PROOFS. What changes leave of holds and viewers, of the plan that was sent, and of a send: three frames, each with the law of
Safety.lean that it keeps (R23, R39, R94, R99). -/

namespace Sys2Proof.Machine

open Safety

variable {s t u : State}

/-! ## The frames -/

/-- Which stories are in use, who holds and views them, who is signed on and every hold count have stayed. -/
structure HoldFrame (s t : State) : Prop where
  used : ∀ k, (t.story k).phase = .unused ↔ (s.story k).phase = .unused
  holder : ∀ k, (t.story k).holder = (s.story k).holder
  viewers : ∀ k, (t.story k).viewers = (s.story k).viewers
  signedOn : ∀ u, (t.terminal u).signedOn = (s.terminal u).signedOn
  holdCount : ∀ u, (t.terminal u).holdCount = (s.terminal u).holdCount

/-- Phases, placements, the stories in the slots and resting states have stayed, and no page has joined the dispatch queue. -/
structure SentFrame (s t : State) : Prop where
  phase : ∀ k, (t.story k).phase = (s.story k).phase
  placement : ∀ k, (t.story k).placement = (s.story k).placement
  slots : ∀ p n, (t.slotOf p n).map Slot.story = (s.slotOf p n).map Slot.story
  resting : ∀ p, restingOf (t.page p).state = restingOf (s.page p).state
  queue : ∀ e ∈ t.dispatch.queue, e ∈ s.dispatch.queue

/-- No story of a page keeps it from passing its evaluation (R138). -/
def Ready (s : State) (p : PageId) : Prop :=
  ∀ n sl, s.slotOf p n = some sl → (s.story sl.story).holder = none ∧
    ((s.story sl.story).depth.status = .none ∨ (s.story sl.story).depth.status = .fresh)

/-- Besides, depth statuses have stayed, holds have at most ended, and only a page that is ready has entered SENDING. -/
structure SendFrame (s t : State) : Prop extends SentFrame s t where
  status : ∀ k, (t.story k).depth.status = (s.story k).depth.status
  held : ∀ k, (t.story k).holder = none ∨ (t.story k).holder = (s.story k).holder
  sending : ∀ p, isSending (t.page p).state = true → isSending (s.page p).state = true ∨ Ready t p

/-- All three frames together. -/
structure Steady (s t : State) : Prop extends HoldFrame s t, SendFrame s t

theorem HoldFrame.refl (s : State) : HoldFrame s s :=
  ⟨fun _ => .rfl, fun _ => rfl, fun _ => rfl, fun _ => rfl, fun _ => rfl⟩

theorem HoldFrame.trans (h : HoldFrame s t) (h' : HoldFrame t u) : HoldFrame s u :=
  ⟨fun k => (h'.used k).trans (h.used k), fun k => (h'.holder k).trans (h.holder k),
    fun k => (h'.viewers k).trans (h.viewers k), fun v => (h'.signedOn v).trans (h.signedOn v),
    fun v => (h'.holdCount v).trans (h.holdCount v)⟩

theorem SentFrame.refl (s : State) : SentFrame s s :=
  ⟨fun _ => rfl, fun _ => rfl, fun _ _ => rfl, fun _ => rfl, fun _ h => h⟩

theorem SentFrame.trans (h : SentFrame s t) (h' : SentFrame t u) : SentFrame s u :=
  ⟨fun k => (h'.phase k).trans (h.phase k), fun k => (h'.placement k).trans (h.placement k),
    fun p n => (h'.slots p n).trans (h.slots p n), fun p => (h'.resting p).trans (h.resting p),
    fun e he => h.queue e (h'.queue e he)⟩

/-- The story in a slot, read back through equal slots. -/
theorem slot_of_slots {p : PageId} {n : SlotId} {sl : Slot}
    (h : (t.slotOf p n).map Slot.story = (s.slotOf p n).map Slot.story) (ht : t.slotOf p n = some sl) :
    ∃ sl', s.slotOf p n = some sl' ∧ sl'.story = sl.story := by
  rw [ht, Option.map_some, eq_comm, Option.map_eq_some_iff] at h
  exact h

theorem SendFrame.refl (s : State) : SendFrame s s := ⟨.refl s, fun _ => rfl, fun _ => .inr rfl, fun _ h => .inl h⟩

/-- What makes a page ready stays under the frame of a send. -/
theorem SendFrame.ready (h : SendFrame s t) {p : PageId} (hr : Ready s p) : Ready t p := by
  intro n sl hsl
  obtain ⟨sl', hs', he⟩ := slot_of_slots (h.slots p n) hsl
  have := hr n sl' hs'
  rw [he] at this
  exact ⟨(h.held sl.story).elim id fun h => h.trans this.1, by rw [h.status]; exact this.2⟩

theorem SendFrame.trans (h : SendFrame s t) (h' : SendFrame t u) : SendFrame s u := by
  refine ⟨h.toSentFrame.trans h'.toSentFrame, fun k => (h'.status k).trans (h.status k), fun k => ?_, fun p hp => ?_⟩
  · rcases h'.held k with hn | he
    · exact .inl hn
    · rw [he]; exact h.held k
  · rcases h'.sending p hp with hs | hr
    · exact (h.sending p hs).imp_right h'.ready
    · exact .inr hr

theorem Steady.refl (s : State) : Steady s s := ⟨.refl s, .refl s⟩

theorem Steady.trans (h : Steady s t) (h' : Steady t u) : Steady s u :=
  ⟨h.toHoldFrame.trans h'.toHoldFrame, h.toSendFrame.trans h'.toSendFrame⟩

/-! ## The laws they keep -/

/-- The laws of viewer lists and of hold counts (R23, R99). -/
abbrev GuardLaw (s : State) : Prop := ViewerLaw s ∧ HoldLaw s

theorem heldCount_congr (h : ∀ k, (t.story k).holder = (s.story k).holder) (v : TerminalId) :
    heldCount t v = heldCount s v := by
  simp only [heldCount, h]

theorem HoldFrame.guardLaw (h : HoldFrame s t) (hg : GuardLaw s) : GuardLaw t := by
  obtain ⟨hv, hh⟩ := hg
  refine ⟨⟨fun k => ?_, fun k => ?_, fun k v hm => ?_, fun k v hm => ?_, fun k hk => ?_⟩,
    ⟨fun v => ?_, fun v => ?_, fun v hv => ?_, fun k hk => ?_⟩⟩
  · rw [h.viewers]; exact hv.places k
  · rw [h.viewers]; exact hv.once k
  · rw [h.viewers] at hm; rw [h.signedOn]; exact hv.signedOn k v hm
  · rw [h.viewers] at hm; rw [h.holder]; exact hv.holder k v hm
  · rw [h.viewers]; exact hv.unused k ((h.used k).1 hk)
  · rw [h.holdCount, heldCount_congr h.holder]; exact hh.count v
  · rw [h.holdCount]; exact hh.limit v
  · rw [h.signedOn] at hv; rw [h.holdCount]; exact hh.off v hv
  · rw [h.holder]; exact hh.unused k ((h.used k).1 hk)

theorem SentFrame.frozenLaw (h : SentFrame s t) (hf : FrozenLaw s) : FrozenLaw t := by
  refine ⟨fun k hk => ?_, fun p n sl hp hsl => ?_, fun p => ?_, fun e he => ?_⟩
  · rw [h.phase] at hk
    simp only [h.placement, h.resting]
    exact hf.frozen k hk
  · obtain ⟨sl', hs', he⟩ := slot_of_slots (h.slots p n) hsl
    rw [h.resting] at hp
    rw [h.phase, ← he]
    exact hf.sent p n sl' hp hs'
  · have hn : ∀ n, t.slotOf p n = none ↔ s.slotOf p n = none := fun n => by
      rw [← Option.map_eq_none_iff (f := Slot.story), h.slots, Option.map_eq_none_iff]
    simp only [h.resting, hn]
    exact hf.empty p
  · rw [h.resting]; exact hf.queued e (h.queue e he)

/-- No slot holds a story that was never measured. -/
def SlotsUsed (s : State) : Prop := ∀ p n sl, s.slotOf p n = some sl → (s.story sl.story).depth.status ≠ .none

theorem slotsUsed_of_laws (hp : PlanLaw s) (hq : QueueLaw s) : SlotsUsed s := by
  intro p n sl hsl hn
  have := hp.unused _ ((hq.none _).2 hn)
  rw [hp.slot p n sl hsl] at this
  cases this

theorem SendFrame.slotsUsed (h : SendFrame s t) (hu : SlotsUsed s) : SlotsUsed t := by
  intro p n sl hsl
  obtain ⟨sl', hs', he⟩ := slot_of_slots (h.slots p n) hsl
  rw [h.status, ← he]
  exact hu p n sl' hs'

theorem SendFrame.sendLaw (h : SendFrame s t) (hu : SlotsUsed s) (hl : SendLaw s) : SendLaw t := by
  refine ⟨fun p n sl hp hsl => ?_, fun k hk => ?_⟩
  · rcases h.sending p hp with hs | hr
    · obtain ⟨sl', hs', he⟩ := slot_of_slots (h.slots p n) hsl
      have := hl.sending p n sl' hs hs'
      rw [he] at this
      rw [h.status]
      exact ⟨(h.held sl.story).elim id fun h => h.trans this.1, this.2⟩
    · exact ⟨(hr n sl hsl).1, (hr n sl hsl).2.resolve_left (h.slotsUsed hu p n sl hsl)⟩
  · rw [h.phase] at hk
    exact (h.held k).elim id fun h => h.trans (hl.frozen k hk)

/-! ## Updates within the frames -/

/-- The sign state and hold count of every terminal are the same. -/
def SameSigns (s t : State) : Prop :=
  ∀ u, (t.terminal u).signedOn = (s.terminal u).signedOn ∧ (t.terminal u).holdCount = (s.terminal u).holdCount

theorem sameSigns_of_terminals (h : t.stations.terminals = s.stations.terminals) : SameSigns s t := fun v => by
  simp only [State.terminal, h]; exact ⟨trivial, trivial⟩

theorem sameSigns_setTerminal (s : State) {v : TerminalId} {x : Terminal} (h1 : x.signedOn = (s.terminal v).signedOn)
    (h2 : x.holdCount = (s.terminal v).holdCount) : SameSigns s (s.setTerminal v x) := fun w => by
  rw [terminal_setTerminal]
  split
  · rename_i h; subst h; exact ⟨h1, h2⟩
  · exact ⟨rfl, rfl⟩

theorem sameSigns_setRing (s : State) (st : Station) (r : Ring) : SameSigns s (s.setRing st r) := by
  cases st with
  | system => exact sameSigns_of_terminals rfl
  | terminal v => exact sameSigns_setTerminal s rfl rfl

theorem sameSigns_setLastRefusal (s : State) (st : Station) (r : Reason) : SameSigns s (s.setLastRefusal st r) := by
  cases st with
  | system => exact sameSigns_of_terminals rfl
  | terminal v => exact sameSigns_setTerminal s rfl rfl

theorem sameSigns_raise (s : State) (st : Station) (n : Notice) : SameSigns s (s.raise st n) := by
  unfold State.raise
  split
  · split
    · exact sameSigns_of_terminals rfl
    · exact sameSigns_setRing s st _
  · exact sameSigns_of_terminals rfl

/-- A change that leaves the stories, the pages and the sign states, and adds nothing to the dispatch queue. -/
theorem Steady.same (h : Steady s t) (hs : u.stories = t.stories) (hp : u.pages.pages = t.pages.pages)
    (hq : ∀ e ∈ u.dispatch.queue, e ∈ t.dispatch.queue) (ht : SameSigns t u) : Steady s u := by
  have hst : ∀ k, u.story k = t.story k := fun k => by simp [State.story, hs]
  have hpg : ∀ p, u.page p = t.page p := fun p => by simp [State.page, hp]
  refine h.trans ⟨⟨?_, ?_, ?_, fun v => (ht v).1, fun v => (ht v).2⟩, ⟨⟨?_, ?_, ?_, ?_, hq⟩, ?_, ?_, ?_⟩⟩ <;>
    simp only [hst, hpg, State.slotOf, implies_true]
  · exact fun _ => .inr trivial
  · exact fun _ h => .inl h

/-- A change of the station unit that leaves the sign states. -/
theorem Steady.stations (h : Steady s t) (hu : butStations u = butStations t) (ht : SameSigns t u) : Steady s u := by
  obtain ⟨h1, -, h3, h4, -⟩ := inner_fields (inner_of_butStations hu)
  exact h.same h1 (by rw [h3]) (by rw [h4]; exact fun _ h => h) ht

/-- A change outside the inner records and the station unit. -/
theorem Steady.around (h : Steady s t) (hu : inner u = inner t) (ht : u.stations.terminals = t.stations.terminals) :
    Steady s u := by
  obtain ⟨h1, -, h3, h4, -⟩ := inner_fields hu
  exact h.same h1 (by rw [h3]) (by rw [h4]; exact fun _ h => h) (sameSigns_of_terminals ht)

theorem Steady.raise (h : Steady s t) (st : Station) (n : Notice) : Steady s (t.raise st n) :=
  h.stations (butStations_raise t st n) (sameSigns_raise t st n)

theorem Steady.raiseAll (h : Steady s t) (ns : List Outgoing) : Steady s (t.raiseAll ns) := by
  unfold State.raiseAll
  induction ns generalizing t with
  | nil => exact h
  | cons o ns ih => exact ih (h.raise _ _)

theorem Steady.answer (h : Steady s t) (a : Answer) (d : Option Data) : Steady s (t.answer a d) := h.around rfl rfl

theorem Steady.done (h : Steady s t) : Steady s t.done := h.answer _ _

theorem Steady.refuse (h : Steady s t) (st : Station) (r : Reason) : Steady s (t.refuse st r) :=
  (h.stations (u := t.setLastRefusal st r) (by cases st <;> rfl) (sameSigns_setLastRefusal t st r)).around rfl rfl

theorem Steady.setLink (h : Steady s t) (l : Link) : Steady s (t.setLink l) := h.same rfl rfl (fun _ h => h) fun _ => ⟨rfl, rfl⟩

theorem Steady.setMeasure (h : Steady s t) (m : MeasureUnit) : Steady s { t with measure := m } :=
  h.same rfl rfl (fun _ h => h) fun _ => ⟨rfl, rfl⟩

/-- An update of the dispatch unit that adds nothing to the queue. -/
theorem Steady.setDispatch (h : Steady s t) (d : DispatchUnit) (hq : ∀ e ∈ d.queue, e ∈ t.dispatch.queue) :
    Steady s { t with dispatch := d } := h.same rfl rfl hq fun _ => ⟨rfl, rfl⟩

theorem Steady.setDispatchEngine (h : Steady s t) (e : DispatchEngine) : Steady s (t.setDispatchEngine e) :=
  h.setDispatch _ fun _ h => h

theorem Steady.setHoldTimer (h : Steady s t) (x : Option Nat) : Steady s (t.setHoldTimer x) := h.setDispatch _ fun _ h => h

theorem Steady.leaveQueue (h : Steady s t) (p : PageId) : Steady s (t.leaveQueue p) :=
  h.setDispatch _ fun _ he => List.mem_of_mem_filter he

theorem Steady.foldl {α : Type} {f : State → α → State} (h : Steady s t) (l : List α)
    (hf : ∀ t a, Steady s t → Steady s (f t a)) : Steady s (l.foldl f t) := by
  induction l generalizing t with
  | nil => exact h
  | cons a l ih => exact ih (hf t a h)

/-- An update of an entry that leaves its phase, holder, viewers, placement and depth status. -/
theorem Steady.setStory (h : Steady s t) (k : StoryId) (v : Story) (phase : v.phase = (t.story k).phase)
    (holder : v.holder = (t.story k).holder) (viewers : v.viewers = (t.story k).viewers)
    (placement : v.placement = (t.story k).placement) (status : v.depth.status = (t.story k).depth.status) :
    Steady s (t.setStory k v) := by
  have hset : ∀ {β : Type} (f : Story → β), f v = f (t.story k) → ∀ j, f ((t.setStory k v).story j) = f (t.story j) := by
    intro β f hf j
    rw [story_setStory]
    split
    · rename_i hj; rw [hj, hf]
    · rfl
  exact h.trans ⟨⟨fun j => by rw [hset Story.phase phase], hset _ holder, hset _ viewers, fun _ => rfl, fun _ => rfl⟩,
    ⟨⟨hset _ phase, hset _ placement, fun _ _ => rfl, fun _ => rfl, fun _ h => h⟩, hset (fun v => v.depth.status) status,
      fun j => .inr (hset _ holder j), fun _ h => .inl h⟩⟩

theorem Steady.setClosing (h : Steady s t) (k : StoryId) (b : Bool) : Steady s (t.setClosing k b) :=
  h.setStory k _ rfl rfl rfl rfl rfl

theorem Steady.markClosing (h : Steady s t) (p : PageId) (b : Bool) : Steady s (t.markClosing p b) :=
  h.foldl _ fun _ k hu => hu.setClosing k b

/-- An update of a page that leaves the stories in its slots and its resting state, and has it enter SENDING only when it is
ready. -/
theorem Steady.setPage (h : Steady s t) (p : PageId) (v : Page)
    (slots : ∀ n : SlotId, (v.slots[n.val]).map Slot.story = ((t.page p).slots[n.val]).map Slot.story)
    (resting : restingOf v.state = restingOf (t.page p).state)
    (sending : isSending v.state = true → isSending (t.page p).state = true ∨ Ready t p) : Steady s (t.setPage p v) := by
  have hslots : ∀ q n, ((t.setPage p v).slotOf q n).map Slot.story = (t.slotOf q n).map Slot.story := fun q n => by
    simp only [State.slotOf, page_setPage]
    split
    · rename_i hq; subst hq; exact slots n
    · rfl
  have hready : ∀ q, Ready t q → Ready (t.setPage p v) q := fun q hr n sl hsl => by
    obtain ⟨sl', hs', he⟩ := slot_of_slots (hslots q n) hsl
    rw [← he]
    exact hr n sl' hs'
  refine h.trans ⟨⟨fun _ => .rfl, fun _ => rfl, fun _ => rfl, fun _ => rfl, fun _ => rfl⟩,
    ⟨⟨fun _ => rfl, fun _ => rfl, hslots, fun q => ?_, fun _ h => h⟩, fun _ => rfl, fun _ => .inr rfl, fun q hq => ?_⟩⟩
  · rw [page_setPage]
    split
    · rename_i hq; subst hq; exact resting
    · rfl
  · rw [page_setPage] at hq
    split at hq
    · rename_i hqp; subst hqp; exact (sending hq).imp_right (hready _)
    · exact .inl hq

/-- A page that changes its state but neither its resting state nor to SENDING. -/
theorem Steady.setPageState (h : Steady s t) (p : PageId) (x : PageState) (hr : restingOf x = restingOf (t.page p).state)
    (hs : isSending x = true → isSending (t.page p).state = true ∨ Ready t p) : Steady s (t.setPageState p x) :=
  h.setPage p _ (fun _ => rfl) hr hs

end Sys2Proof.Machine
end


section
/-! PROOFS. The dispatch engine and the link leave holds, viewers, phases, plans and depth statuses, and the engine sends only pages
that are ready (R138, R142): each operation but the completion of a send stays within the three frames. -/

namespace Sys2Proof.Machine

open Safety

variable {s t u : State}

/-! ## Evaluation -/

/-- A page that passes its evaluation is ready (R138). -/
theorem ready_of_passes {p : PageId} (h : s.verdict p = .passes) : Ready s p := by
  unfold State.verdict at h
  split at h
  · cases h
  · rename_i hnone
    split at h
    · cases h
    · rename_i hany
      intro n sl hsl
      have hmem : (n, sl) ∈ occupied (s.page p) := (mem_occupied _ _ _).2 hsl
      have hfail : s.slotFailure sl = none := by simpa using List.findSome?_eq_none_iff.1 hnone _ hmem
      have hwait : s.slotWaits sl = false := by
        simpa using fun hw => hany (List.any_eq_true.2 ⟨_, hmem, hw⟩)
      simp only [State.slotWaits, Bool.or_eq_false_iff, Option.isSome_eq_false_iff, Option.isNone_iff_eq_none,
        beq_eq_false_iff_ne] at hwait
      obtain ⟨⟨hh, hst⟩, hms⟩ := hwait
      refine ⟨hh, ?_⟩
      cases hx : (s.story sl.story).depth.status with
      | none => exact .inl rfl
      | fresh => exact .inr rfl
      | stale => exact absurd hx hst
      | measuring => exact absurd hx hms
      | faulted => simp [State.slotFailure, hx] at hfail

/-! ## Failure and advance -/

theorem not_isSending_of {x : PageState} {P : Prop} (h : isSending x = false) : isSending x = true → P := fun h' => by
  rw [h] at h'; cases h'

theorem Steady.failRecord (h : Steady s t) (e : Queued) (f : Failing) : Steady s (t.failRecord e f) := by
  have h1 : Steady s (if isWaiting (t.page e.page).state || isSending (t.page e.page).state then
      t.markClosing e.page false else t) := by
    split
    · exact h.markClosing _ _
    · exact h
  have hp1 : (if isWaiting (t.page e.page).state || isSending (t.page e.page).state then
      t.markClosing e.page false else t).page e.page = t.page e.page := by
    split
    · exact page_markClosing _ _ _ _
    · rfl
  unfold State.failRecord
  dsimp only
  generalize (if isWaiting (t.page e.page).state || isSending (t.page e.page).state then
    t.markClosing e.page false else t) = t1 at h1 hp1 ⊢
  have h2 : Steady s (if isWaiting (t.page e.page).state then t1.setHoldTimer none else t1) := by
    split
    · exact h1.setHoldTimer _
    · exact h1
  have hp2 : (if isWaiting (t.page e.page).state then t1.setHoldTimer none else t1).page e.page = t.page e.page := by
    split <;> exact hp1
  refine ((h2.setPage e.page _ ?_ ?_ ?_).raise _ _).leaveQueue _
  · exact fun _ => rfl
  · rw [hp2]; rfl
  · exact not_isSending_of rfl

theorem Steady.failEngine (h : Steady s t) (p : PageId) (a b : Bool) : Steady s (t.failEngine p a b) := by
  unfold State.failEngine
  split
  · exact (h.setDispatchEngine _).setLink _
  · split
    · exact h.setDispatchEngine _
    · exact h

theorem Steady.failPage (h : Steady s t) (e : Queued) (f : Failing) : Steady s (t.failPage e f) :=
  (h.failRecord e f).failEngine _ _ _

theorem Steady.wantHold (h : Steady s t) (e : Queued) (ns : SlotId × Slot) : Steady s (t.wantHold e ns) := by
  unfold State.wantHold
  split
  · split
    · exact h
    · refine Steady.raise (h.setDispatch _ ?_) _ _
      exact fun _ h => h
  · exact h

theorem Steady.enterWaiting (h : Steady s t) (e : Queued) : Steady s (t.enterWaiting e) := by
  have h1 := (((h.setPageState e.page (.waiting (restingOf (t.page e.page).state)) rfl
    (not_isSending_of rfl)).setDispatchEngine .waiting).markClosing e.page true)
  exact ((h1.setHoldTimer _).setMeasure _).foldl _ fun _ ns hu => hu.wantHold e ns

theorem Steady.enterSending (h : Steady s t) (e : Queued) (hv : t.verdict e.page = .passes) : Steady s (t.enterSending e) := by
  unfold State.enterSending
  split
  · exact (((h.setPageState e.page (.sending (restingOf (t.page e.page).state)) rfl
      fun _ => .inr (ready_of_passes hv)).setDispatchEngine _).setHoldTimer none).setLink _
  · exact h

theorem Steady.advanceUpTo (n : Nat) (h : Steady s t) : Steady s (State.advanceUpTo n t) := by
  induction n generalizing t with
  | zero => exact h
  | succ n ih =>
    unfold State.advanceUpTo
    split
    · split
      · dsimp only
        split
        · exact ih ((h.enterWaiting _).failPage _ _)
        · exact h.enterWaiting _
        · rename_i hv
          exact (h.enterWaiting _).enterSending _ hv
      · exact h
    · exact h

theorem Steady.advance (h : Steady s t) : Steady s t.advance := h.advanceUpTo _

theorem Steady.fail (h : Steady s t) (e : Queued) (f : Failing) : Steady s (t.fail e f) := (h.failPage e f).advance

theorem Steady.evaluate (h : Steady s t) : Steady s t.evaluate := by
  unfold State.evaluate
  split
  · split
    · exact h.fail _ _
    · exact h
    · rename_i hv
      exact h.enterSending _ hv
  · exact h

theorem Steady.handEvent (h : Steady s t) (k : StoryId) : Steady s (t.handEvent k) := by
  unfold State.handEvent
  split
  · exact h.evaluate
  · exact h

theorem Steady.failSend (h : Steady s t) (c : Cause) : Steady s (t.failSend c) := by
  unfold State.failSend
  split
  · exact h.fail _ _
  · exact h

theorem Steady.abortEnd (h : Steady s t) : Steady s t.abortEnd := by
  unfold State.abortEnd
  split
  · exact (h.setDispatchEngine _).advance
  · exact h

theorem Steady.returnToQueued (h : Steady s t) : Steady s t.returnToQueued := by
  unfold State.returnToQueued
  split
  · rename_i e _
    exact (((h.setPageState e.page (.queued (restingOf (t.page e.page).state)) rfl
      (not_isSending_of rfl)).markClosing _ _).setHoldTimer _).setDispatchEngine _
  · exact h

theorem Steady.linkLost (h : Steady s t) : Steady s t.linkLost := by
  unfold State.linkLost
  split
  · exact h.failSend _
  · exact h.returnToQueued
  · exact h.abortEnd
  · exact h

theorem Steady.holdWaitExpiry (h : Steady s t) : Steady s t.holdWaitExpiry := by
  unfold State.holdWaitExpiry
  split
  · exact h.fail _ _
  · exact h

theorem Steady.cancelPage (h : Steady s t) (p : PageId) (st : Station) : Steady s (t.cancelPage p st) := by
  unfold State.cancelPage
  split
  · exact h.fail _ _
  · exact h

/-! ## Sending -/

theorem Steady.handOver (h : Steady s t) (f : Frame) : Steady s (t.handOver f) := h.setLink _

theorem Steady.handText (h : Steady s t) (x : SendState) (n : Nat) : Steady s (t.handText x n) :=
  (h.setDispatchEngine _).handOver _

theorem Steady.pumpText (h : Steady s t) (x : SendState) : Steady s (t.pumpText x) := by
  unfold State.pumpText
  split
  · exact h.handText x _
  · split
    · split
      · exact (h.setDispatchEngine _).handOver _
      · exact h.handText x _
    · exact h.setDispatchEngine _

theorem Steady.handSlot (h : Steady s t) (p : PageId) (x : SendState) (n : SlotId) : Steady s (t.handSlot p x n) := by
  unfold State.handSlot
  split
  · exact (h.setDispatchEngine _).handOver _
  · exact h

theorem Steady.sendTextRead (h : Steady s t) (f : Bool) : Steady s (t.sendTextRead f) := by
  unfold State.sendTextRead
  split
  · split
    · exact h
    · split
      · split
        · exact h.fail _ _
        · dsimp only
          split
          · exact h.pumpText _
          · exact h.setDispatchEngine _
      · exact h
  · exact h

/-- The next frame of a send, or its completion after PAGE-END (R142). -/
theorem nextFrame_cases (s : State) : Steady s s.nextFrame ∨ ∃ e q x, s.dispatch.queue = e :: q ∧
    s.dispatch.engine = .sending x ∧ x.stage = .pageEnd ∧ s.nextFrame = s.complete e := by
  unfold State.nextFrame
  split
  · rename_i e q x hq hx
    split
    · exact .inl ((Steady.refl s).handSlot _ _ _)
    · exact .inl ((Steady.refl s).pumpText _)
    · exact .inl ((Steady.refl s).pumpText _)
    · split
      · exact .inl ((Steady.refl s).handSlot _ _ _)
      · exact .inl (((Steady.refl s).setDispatchEngine _).handOver _)
    · exact .inr ⟨e, q, x, hq, hx, ‹_›, rfl⟩
  · exact .inl (.refl s)

/-! ## The link -/

theorem Steady.leaveUp (h : Steady s t) (b : Bool) : Steady s (t.leaveUp b) := ((h.setLink _).raise _ _).linkLost

theorem Steady.presentHigh (h : Steady s t) : Steady s t.presentHigh := by
  unfold State.presentHigh
  dsimp only
  split <;> exact h.setLink _

theorem Steady.presentLow (h : Steady s t) : Steady s t.presentLow := by
  unfold State.presentLow
  dsimp only
  split
  · exact h.setLink _
  · exact (h.setLink _).setLink _
  · exact (h.setLink _).leaveUp _

theorem Steady.trainingExpiry (h : Steady s t) : Steady s t.trainingExpiry := by
  unfold State.trainingExpiry
  split
  · exact h.setLink _
  · exact h

theorem Steady.takeAbility (h : Steady s t) (m l : Byte) : Steady s (t.takeAbility m l) := by
  unfold State.takeAbility
  split
  · exact h
  · exact ((h.setLink _).raise _ _).advance
  · unfold State.retrained
    dsimp only
    split
    · exact ((h.setLink _).setLink _).failSend _
    · exact h.setLink _

theorem Steady.failedTry (h : Steady s t) (o : Outstanding) : Steady s (t.failedTry o) := by
  unfold State.failedTry
  split
  · exact h.setLink _
  · exact h.leaveUp _

theorem Steady.frameEnded (h : Steady s t) (f : Frame) (c : Cause) : Steady s (t.frameEnded f c) := by
  unfold State.frameEnded
  split
  · exact h.abortEnd
  · exact h.failSend _

theorem Steady.takeNak (h : Steady s t) (r : NakReason) : Steady s (t.takeNak r) := by
  unfold State.takeNak
  split
  · split
    · exact h.failedTry _
    · split
      · exact (h.setLink _).frameEnded _ _
      · exact h.failedTry _
    · exact (h.setLink _).frameEnded _ _
  · exact h

theorem Steady.takeReady (h : Steady s t) : Steady s t.takeReady := by
  unfold State.takeReady
  split
  · split <;> exact h.setLink _
  · exact h

theorem Steady.waitExpiry (h : Steady s t) : Steady s t.waitExpiry := by
  unfold State.waitExpiry
  split
  · exact (h.setLink _).failSend _
  · exact h

theorem Steady.replyExpiry (h : Steady s t) : Steady s t.replyExpiry := by
  unfold State.replyExpiry
  split
  · exact h.failedTry _
  · exact h

theorem Steady.tryEnd (h : Steady s t) : Steady s t.tryEnd := by
  unfold State.tryEnd
  split
  · exact h.setLink _
  · exact h

theorem Steady.abilityEnd (h : Steady s t) : Steady s t.abilityEnd := by
  unfold State.abilityEnd
  split
  · exact h.setLink _
  · exact h

theorem Steady.gapExpiry (h : Steady s t) : Steady s t.gapExpiry := by
  unfold State.gapExpiry
  split
  · exact h.setLink _
  · exact h

end Sys2Proof.Machine
end


section
/-! PROOFS. Depth statuses and the laws of a send: what staling and measuring leave, and how the law of holds follows one story's
hold (R23, R86, R94, R99). -/

namespace Sys2Proof.Machine

open Safety

variable {s t u : State} {K : StoryId → Prop}

/-! ## Measuring -/

/-- Of all the frames' records only the depth statuses of certain stories have changed, none of them to NONE. -/
structure Remeasured (K : StoryId → Prop) (s t : State) : Prop extends HoldFrame s t, SentFrame s t where
  pages : t.pages = s.pages
  status : ∀ k, ¬ K k → (t.story k).depth.status = (s.story k).depth.status
  measured : ∀ k, (s.story k).depth.status ≠ .none → (t.story k).depth.status ≠ .none

theorem Remeasured.refl (K : StoryId → Prop) (s : State) : Remeasured K s s :=
  ⟨.refl s, .refl s, rfl, fun _ _ => rfl, fun _ h => h⟩

theorem Remeasured.trans (h : Remeasured K s t) (h' : Remeasured K t u) : Remeasured K s u :=
  ⟨h.toHoldFrame.trans h'.toHoldFrame, h.toSentFrame.trans h'.toSentFrame, h'.pages.trans h.pages,
    fun k hk => (h'.status k hk).trans (h.status k hk), fun k hk => h'.measured k (h.measured k hk)⟩

/-- A steady change of what is not a page. -/
theorem Remeasured.steady (h : Remeasured K s t) (h' : Steady t u) (hp : u.pages = t.pages) : Remeasured K s u :=
  h.trans ⟨h'.toHoldFrame, h'.toSentFrame, hp, fun k _ => h'.status k, fun k hk => by rw [h'.status]; exact hk⟩

theorem Remeasured.setMeasure (h : Remeasured K s t) (m : MeasureUnit) : Remeasured K s { t with measure := m } :=
  h.steady ((Steady.refl t).setMeasure m) rfl

theorem Remeasured.setDepth (h : Remeasured K s t) {k : StoryId} (hk : K k) (d : DepthRecord)
    (hd : (t.story k).depth.status ≠ .none → d.status ≠ .none) :
    Remeasured K s (t.setStory k { t.story k with depth := d }) := by
  have hset : ∀ {β : Type} (f : Story → β), f { t.story k with depth := d } = f (t.story k) →
      ∀ j, f ((t.setStory k { t.story k with depth := d }).story j) = f (t.story j) := by
    intro β f hf j
    rw [story_setStory]
    split
    · rename_i hj; rw [hj, hf]
    · rfl
  refine h.trans ⟨⟨fun j => by rw [hset Story.phase rfl], hset _ rfl, hset _ rfl, fun _ => rfl, fun _ => rfl⟩,
    ⟨hset _ rfl, hset _ rfl, fun _ _ => rfl, fun _ => rfl, fun _ h => h⟩, rfl, fun j hj => ?_, fun j hj => ?_⟩
  · rw [story_setStory_ne _ _ fun he : j = k => hj (he ▸ hk)]
  · rw [story_setStory]
    split
    · rename_i he; exact hd (he ▸ hj)
    · exact hj

theorem Remeasured.leaveMeasuring (h : Remeasured K s t) : Remeasured K s t.leaveMeasuring := by
  unfold State.leaveMeasuring
  split <;> exact h.setMeasure _

theorem Remeasured.abandonPass (h : Remeasured K s t) (k : StoryId) : Remeasured K s (t.abandonPass k) := by
  unfold State.abandonPass
  split
  · exact h.leaveMeasuring
  · exact h

theorem Remeasured.queueStale (h : Remeasured K s t) {k : StoryId} (hk : K k) : Remeasured K s (t.queueStale k) :=
  (h.setDepth hk _ fun _ => by simp).setMeasure _

theorem Remeasured.stale (h : Remeasured K s t) {k : StoryId} (hk : K k) : Remeasured K s (t.stale k) := by
  unfold State.stale
  split
  · exact h
  · exact h
  · exact h.queueStale hk
  · exact h.queueStale hk
  · exact (h.abandonPass k).queueStale hk

theorem Remeasured.staleAll (h : Remeasured K s t) {ks : List StoryId} (hk : ∀ k ∈ ks, K k) : Remeasured K s (t.staleAll ks) := by
  unfold State.staleAll
  induction ks generalizing t with
  | nil => exact h
  | cons k ks ih => exact ih (h.stale (hk k (.head _))) fun j hj => hk j (.tail _ hj)

theorem Steady.evaluateOverset (h : Steady s t) (k : StoryId) (c : Option Station) : Steady s (t.evaluateOverset k c) := by
  have h1 := h.setStory k { t.story k with depth := { (t.story k).depth with overset := t.oversetNow k } } rfl rfl rfl rfl rfl
  unfold State.evaluateOverset
  dsimp only
  split
  · exact h1
  · exact h1.raiseAll _

theorem Steady.allowanceChanged (h : Steady s t) (k : StoryId) (st : Station) : Steady s (t.allowanceChanged k st) := by
  unfold State.allowanceChanged
  split
  · exact h.evaluateOverset k _
  · exact h

/-! ## The law of a send -/

/-- The law of a send, with no unmeasured story in a slot. -/
structure SendReady (s : State) : Prop extends SendLaw s where
  used : SlotsUsed s

theorem SendFrame.sendReady (h : SendFrame s t) (hr : SendReady s) : SendReady t :=
  ⟨h.sendLaw hr.used hr.toSendLaw, h.slotsUsed hr.used⟩

/-- A story sits on a SENDING page. -/
def OnSending (s : State) (k : StoryId) : Prop :=
  ∃ p n sl, isSending (s.page p).state = true ∧ s.slotOf p n = some sl ∧ sl.story = k

/-- The stories of a SENDING page are closing (R4). -/
theorem OnSending.closing {k : StoryId} (h : OnSending s k) (hp : PlanLaw s) (hd : DispatchLaw s) :
    (s.story k).closing = true := by
  obtain ⟨p, n, sl, hs, hsl, rfl⟩ := h
  exact (hd.closing _).2 ⟨p, n, hp.slot p n sl hsl, by simp [busy, hs]⟩

/-- A story on a SENDING page is placed there. -/
theorem OnSending.placed {k : StoryId} (h : OnSending s k) (hp : PlanLaw s) :
    ∃ p n, (s.story k).placement = some (p, n) ∧ isSending (s.page p).state = true := by
  obtain ⟨p, n, sl, hs, hsl, rfl⟩ := h
  exact ⟨p, n, hp.slot p n sl hsl, hs⟩

/-- A SENDING page is the head of the dispatch queue (R94). -/
theorem OnSending.sendingHead {k : StoryId} (h : OnSending s k) (hd : DispatchLaw s) : s.sendingHead.isSome = true := by
  obtain ⟨p, -, -, hs, -⟩ := h
  have hk : pageKind (s.page p).state = 3 := by simpa [isSending_eq] using hs
  obtain ⟨e, he, hpe⟩ := Option.map_eq_some_iff.1 ((DispatchLaw_core hd).head_of_busy (.inr hk))
  exact Option.isSome_iff_exists.2 ⟨e, (sendingHead_eq_some _ _).2 ⟨he, by rw [hpe]; exact hk⟩⟩

/-- The stories of a SENDING page are FRESH. -/
theorem OnSending.fresh {k : StoryId} (h : OnSending s k) (hl : SendLaw s) : (s.story k).depth.status = .fresh := by
  obtain ⟨p, n, sl, hs, hsl, rfl⟩ := h
  exact (hl.sending p n sl hs hsl).2

/-- Measuring keeps the law of a send when no story it touches sits on a SENDING page. -/
theorem Remeasured.sendReady (h : Remeasured K s t) (hk : ∀ k, K k → ¬ OnSending s k) (hr : SendReady s) : SendReady t := by
  have hpage : ∀ p, t.page p = s.page p := fun p => by simp [State.page, h.pages]
  have hslot : ∀ p n, t.slotOf p n = s.slotOf p n := fun p n => by simp [State.slotOf, hpage]
  refine ⟨⟨fun p n sl hp hsl => ?_, fun k hf => ?_⟩, fun p n sl hsl => ?_⟩
  · rw [hpage] at hp
    rw [hslot] at hsl
    rw [h.holder, h.status _ fun hK => hk _ hK ⟨p, n, sl, hp, hsl, rfl⟩]
    exact hr.sending p n sl hp hsl
  · rw [h.phase] at hf
    rw [h.holder]
    exact hr.frozen k hf
  · rw [hslot] at hsl
    exact h.measured _ (hr.used p n sl hsl)

/-- A new entry for a story that sits on no SENDING page, held or FROZEN but not both, keeps the law of a send. -/
theorem sendReady_of_entry {k : StoryId} (hpages : t.pages = s.pages)
    (hstory : ∀ j, j ≠ k → (t.story j).phase = (s.story j).phase ∧ (t.story j).holder = (s.story j).holder ∧
      (t.story j).depth.status = (s.story j).depth.status)
    (hk : ¬ OnSending s k) (hf : (t.story k).phase = .frozen → (t.story k).holder = none)
    (hu : (∃ p n sl, s.slotOf p n = some sl ∧ sl.story = k) → (t.story k).depth.status ≠ .none)
    (hr : SendReady s) : SendReady t := by
  have hpage : ∀ p, t.page p = s.page p := fun p => by simp [State.page, hpages]
  have hslot : ∀ p n, t.slotOf p n = s.slotOf p n := fun p n => by simp [State.slotOf, hpage]
  refine ⟨⟨fun p n sl hp hsl => ?_, fun j hj => ?_⟩, fun p n sl hsl => ?_⟩
  · rw [hpage] at hp
    rw [hslot] at hsl
    obtain ⟨-, h2, h3⟩ := hstory sl.story fun he => hk ⟨p, n, sl, hp, hsl, he⟩
    rw [h2, h3]
    exact hr.sending p n sl hp hsl
  · by_cases hjk : j = k
    · subst hjk; exact hf hj
    · obtain ⟨h1, h2, -⟩ := hstory j hjk
      rw [h1] at hj
      rw [h2]
      exact hr.frozen j hj
  · rw [hslot] at hsl
    by_cases hjk : sl.story = k
    · rw [hjk]; exact hu ⟨p, n, sl, hsl, hjk⟩
    · rw [(hstory _ hjk).2.2]; exact hr.used p n sl hsl

/-! ## The hold of one story -/

/-- How many stories a terminal holds when the predicate differs at one of them. -/
theorem countP_update {α : Type} [DecidableEq α] {p q : α → Bool} {k : α} (hpq : ∀ j, j ≠ k → q j = p j) :
    ∀ l : List α, l.Nodup → k ∈ l → l.countP q + (p k).toNat = l.countP p + (q k).toNat := by
  intro l
  induction l with
  | nil => intro _ h; cases h
  | cons a l ih =>
    intro hn hk
    obtain ⟨ha, hn⟩ := List.nodup_cons.1 hn
    rw [List.countP_cons, List.countP_cons]
    by_cases hak : a = k
    · subst hak
      have hl : l.countP q = l.countP p := List.countP_congr fun j hj => by
        rw [hpq j fun he => ha (he ▸ hj)]
      rw [hl]
      cases hp : p a <;> cases hq : q a <;> simp
    · have := ih hn ((List.mem_cons.1 hk).resolve_left fun h => hak h.symm)
      rw [hpq a hak]
      omega

/-- One story's holder against how many stories a terminal holds. -/
def holdsOne (s : State) (k : StoryId) (v : TerminalId) : Nat :=
  (decide ((s.story k).holder = some (.terminal v))).toNat

theorem heldCount_update {k : StoryId} (h : ∀ j, j ≠ k → (t.story j).holder = (s.story j).holder) (v : TerminalId) :
    heldCount t v + holdsOne s k v = heldCount s v + holdsOne t k v :=
  countP_update (p := fun j => decide ((s.story j).holder = some (.terminal v)))
    (q := fun j => decide ((t.story j).holder = some (.terminal v)))
    (fun j hj => by rw [h j hj]) _ (List.nodup_finRange _) (List.mem_finRange k)

/-- One story's entry may have changed: its holder, with the hold counts, and its viewers, of which some may have gone. -/
structure Reheld (k : StoryId) (s t : State) : Prop where
  used : ∀ j, j ≠ k → ((t.story j).phase = .unused ↔ (s.story j).phase = .unused)
  holder : ∀ j, j ≠ k → (t.story j).holder = (s.story j).holder
  viewers : ∀ j, j ≠ k → (t.story j).viewers = (s.story j).viewers
  signedOn : ∀ v, (t.terminal v).signedOn = (s.terminal v).signedOn
  count : ∀ v, (s.terminal v).holdCount = heldCount s v →
    (t.terminal v).holdCount + holdsOne s k v = (s.terminal v).holdCount + holdsOne t k v
  left : (t.story k).viewers.Sublist (s.story k).viewers
  apart : ∀ v ∈ (t.story k).viewers, (t.story k).holder ≠ some (.terminal v.terminal)
  unused : (t.story k).phase = .unused → (t.story k).holder = none ∧
    ((s.story k).phase = .unused ∨ (t.story k).viewers = [])
  taken : ∀ v, (t.story k).holder = some (.terminal v) → (s.story k).holder = some (.terminal v) ∨
    ((s.terminal v).signedOn = true ∧ (s.terminal v).holdCount < 16)

theorem Reheld.guardLaw {k : StoryId} (h : Reheld k s t) (hg : GuardLaw s) : GuardLaw t := by
  obtain ⟨hv, hh⟩ := hg
  have hcount : ∀ v, (t.terminal v).holdCount = heldCount t v := fun v => by
    have h1 := h.count v (hh.count v)
    have h2 := heldCount_update h.holder v
    have h3 := hh.count v
    omega
  have hone : ∀ v, holdsOne t k v = 0 ∨ holdsOne s k v = 1 ∨
      ((s.terminal v).signedOn = true ∧ (s.terminal v).holdCount < 16) := fun v => by
    by_cases hk : (t.story k).holder = some (.terminal v)
    · rcases h.taken v hk with h1 | h1
      · exact .inr (.inl (by simp [holdsOne, h1]))
      · exact .inr (.inr h1)
    · exact .inl (by simp [holdsOne, hk])
  have hle : holdsOne t k ≤ fun _ => 1 := fun v => Bool.toNat_le _
  refine ⟨⟨fun j => ?_, fun j => ?_, fun j v hm => ?_, fun j v hm => ?_, fun j hj => ?_⟩,
    ⟨hcount, fun v => ?_, fun v hoff => ?_, fun j hj => ?_⟩⟩
  · by_cases hjk : j = k
    · subst hjk; exact h.left.length_le.trans (hv.places j)
    · rw [h.viewers j hjk]; exact hv.places j
  · by_cases hjk : j = k
    · subst hjk; exact (hv.once j).sublist (h.left.map _)
    · rw [h.viewers j hjk]; exact hv.once j
  · rw [h.signedOn]
    by_cases hjk : j = k
    · subst hjk; exact hv.signedOn j v (h.left.mem hm)
    · rw [h.viewers j hjk] at hm; exact hv.signedOn j v hm
  · by_cases hjk : j = k
    · subst hjk; exact h.apart v hm
    · rw [h.viewers j hjk] at hm; rw [h.holder j hjk]; exact hv.holder j v hm
  · by_cases hjk : j = k
    · subst hjk
      rcases (h.unused hj).2 with hu | hn
      · exact List.sublist_nil.1 (hv.unused j hu ▸ h.left)
      · exact hn
    · rw [h.viewers j hjk]; exact hv.unused j ((h.used j hjk).1 hj)
  · have h1 := h.count v (hh.count v)
    have h2 := hh.limit v
    have h3 := hle v
    simp only at h3
    rcases hone v with h4 | h4 | ⟨-, h4⟩ <;> omega
  · rw [h.signedOn] at hoff
    have h1 := h.count v (hh.count v)
    have h2 := hh.off v hoff
    rcases hone v with h4 | h4 | ⟨h4, -⟩
    · omega
    · have h3 := hle v
      simp only at h3
      omega
    · rw [hoff] at h4; cases h4
  · by_cases hjk : j = k
    · subst hjk; exact (h.unused hj).1
    · rw [h.holder j hjk]; exact hh.unused j ((h.used j hjk).1 hj)

/-- One story's viewers may have changed, and nothing else of holds. -/
structure Reviewed (k : StoryId) (s t : State) : Prop where
  used : ∀ j, (t.story j).phase = .unused ↔ (s.story j).phase = .unused
  holder : ∀ j, (t.story j).holder = (s.story j).holder
  viewers : ∀ j, j ≠ k → (t.story j).viewers = (s.story j).viewers
  signs : SameSigns s t

/-- A viewer list within the law keeps the law of holds. -/
theorem Reviewed.guardLaw {k : StoryId} (h : Reviewed k s t) (places : (t.story k).viewers.length ≤ 4)
    (once : ((t.story k).viewers.map Viewer.terminal).Nodup)
    (named : ∀ v ∈ (t.story k).viewers, (s.terminal v.terminal).signedOn = true ∧
      (s.story k).holder ≠ some (.terminal v.terminal))
    (unused : (s.story k).phase = .unused → (t.story k).viewers = []) (hg : GuardLaw s) : GuardLaw t := by
  obtain ⟨hv, hh⟩ := hg
  refine ⟨⟨fun j => ?_, fun j => ?_, fun j v hm => ?_, fun j v hm => ?_, fun j hj => ?_⟩,
    ⟨fun v => ?_, fun v => ?_, fun v hoff => ?_, fun j hj => ?_⟩⟩
  · by_cases hjk : j = k
    · subst hjk; exact places
    · rw [h.viewers j hjk]; exact hv.places j
  · by_cases hjk : j = k
    · subst hjk; exact once
    · rw [h.viewers j hjk]; exact hv.once j
  · rw [(h.signs _).1]
    by_cases hjk : j = k
    · subst hjk; exact (named v hm).1
    · rw [h.viewers j hjk] at hm; exact hv.signedOn j v hm
  · rw [h.holder]
    by_cases hjk : j = k
    · subst hjk; exact (named v hm).2
    · rw [h.viewers j hjk] at hm; exact hv.holder j v hm
  · by_cases hjk : j = k
    · subst hjk; exact unused ((h.used j).1 hj)
    · rw [h.viewers j hjk]; exact hv.unused j ((h.used j).1 hj)
  · rw [(h.signs v).2, heldCount_congr h.holder]; exact hh.count v
  · rw [(h.signs v).2]; exact hh.limit v
  · rw [(h.signs v).1] at hoff; rw [(h.signs v).2]; exact hh.off v hoff
  · rw [h.holder]; exact hh.unused j ((h.used j).1 hj)

end Sys2Proof.Machine
end


section
/-! PROOFS. Writes to a story's words, to its text and to its header keep the laws of holds, of what was sent and of a send. -/

namespace Sys2Proof.Machine

open Safety

variable {s t u : State}

/-! ## What a command keeps -/

/-- A change that keeps the laws of holds, of what was sent and of a send, the last two given the laws of plans, of the dispatch
queue and of the measure queue. -/
structure Sound (s t : State) : Prop where
  guard : GuardLaw s → GuardLaw t
  frozen : PlanLaw s → DispatchLaw s → FrozenLaw s → FrozenLaw t
  send : PlanLaw s → DispatchLaw s → QueueLaw s → SendReady s → SendReady t

theorem sound_of_frames (hg : GuardLaw s → GuardLaw t) (h : SendFrame s t) : Sound s t :=
  ⟨hg, fun _ _ => h.frozenLaw, fun _ _ _ => h.sendReady⟩

theorem Steady.sound (h : Steady s t) : Sound s t := sound_of_frames h.guardLaw h.toSendFrame

theorem Sound.refl (s : State) : Sound s s := (Steady.refl s).sound

/-- A steady change extends one that keeps the laws. -/
theorem Sound.steady (h : Sound s t) (h' : Steady t u) : Sound s u :=
  ⟨fun hg => h'.guardLaw (h.guard hg), fun hp hd hf => h'.frozenLaw (h.frozen hp hd hf),
    fun hp hd hq hr => h'.sendReady (h.send hp hd hq hr)⟩

theorem Sound.done (h : Sound s t) : Sound s t.done := h.steady (Steady.refl t).done

theorem sound_refuse (s : State) (st : Station) (r : Reason) : Sound s (s.refuse st r) := ((Steady.refl s).refuse st r).sound

theorem Sound.testing {st : Station} {ts : List (Bool × Reason)} (h : (∀ c ∈ ts, c.1 = false) → Sound s t) :
    Sound s (testing st ts s t) := by
  rcases testing_cases st ts s t with ⟨h1, h2⟩ | ⟨c, -, -, h1⟩
  · rw [h1]; exact h h2
  · rw [h1]; exact sound_refuse s st c.2

/-- Measuring that touches no story on a SENDING page keeps the laws. -/
theorem Remeasured.sound {K : StoryId → Prop} (h : Remeasured K s t)
    (hk : PlanLaw s → DispatchLaw s → QueueLaw s → SendLaw s → ∀ k, K k → ¬ OnSending s k) : Sound s t :=
  ⟨h.toHoldFrame.guardLaw, fun _ _ => h.toSentFrame.frozenLaw,
    fun hp hd hq hr => h.sendReady (hk hp hd hq hr.toSendLaw) hr⟩

theorem onSending_congr (h : t.pages = s.pages) (k : StoryId) : OnSending t k ↔ OnSending s k := by
  simp [OnSending, State.slotOf, State.page, h]

/-! ## Entries of stories in no slot -/

/-- No slot holds a story without a placement (R6). -/
theorem not_slotted (hp : PlanLaw s) {k : StoryId} (hk : (s.story k).placement = none) :
    ¬ ∃ p n sl, s.slotOf p n = some sl ∧ sl.story = k := by
  rintro ⟨p, n, sl, hsl, rfl⟩
  rw [hp.slot p n sl hsl] at hk
  cases hk

theorem not_onSending (hp : PlanLaw s) {k : StoryId} (hk : (s.story k).placement = none) : ¬ OnSending s k :=
  fun ⟨p, n, sl, _, hsl, he⟩ => not_slotted hp hk ⟨p, n, sl, hsl, he⟩

/-- A new entry, not FROZEN, for a story in no slot keeps the law of what was sent. -/
theorem frozenLaw_of_entry {k : StoryId} (hpages : t.pages = s.pages) (hqueue : t.dispatch = s.dispatch)
    (hstory : ∀ j, j ≠ k → (t.story j).phase = (s.story j).phase ∧ (t.story j).placement = (s.story j).placement)
    (hk : ¬ ∃ p n sl, s.slotOf p n = some sl ∧ sl.story = k) (hph : (t.story k).phase ≠ .frozen) (hf : FrozenLaw s) :
    FrozenLaw t := by
  have hpage : ∀ p, t.page p = s.page p := fun p => by simp [State.page, hpages]
  have hslot : ∀ p n, t.slotOf p n = s.slotOf p n := fun p n => by simp [State.slotOf, hpage]
  refine ⟨fun j hj => ?_, fun p n sl hp hsl => ?_, fun p => ?_, fun e he => ?_⟩
  · have hjk : j ≠ k := fun he => hph (he ▸ hj)
    rw [(hstory j hjk).1] at hj
    rw [(hstory j hjk).2]
    simpa only [hpage] using hf.frozen j hj
  · rw [hpage] at hp
    rw [hslot] at hsl
    rw [(hstory sl.story fun he => hk ⟨p, n, sl, hsl, he⟩).1]
    exact hf.sent p n sl hp hsl
  · simpa only [hpage, hslot] using hf.empty p
  · rw [hqueue] at he
    rw [hpage]
    exact hf.queued e he

/-! ## Holds -/

/-- An update of an entry's viewers and holder. -/
theorem SendFrame.setStory (h : SendFrame s t) (k : StoryId) (v : Story) (phase : v.phase = (t.story k).phase)
    (placement : v.placement = (t.story k).placement) (status : v.depth.status = (t.story k).depth.status)
    (held : v.holder = none ∨ v.holder = (t.story k).holder) : SendFrame s (t.setStory k v) := by
  have hset : ∀ {β : Type} (f : Story → β), f v = f (t.story k) → ∀ j, f ((t.setStory k v).story j) = f (t.story j) := by
    intro β f hf j
    rw [story_setStory]
    split
    · rename_i hj; rw [hj, hf]
    · rfl
  refine h.trans ⟨⟨hset _ phase, hset _ placement, fun _ _ => rfl, fun _ => rfl, fun _ h => h⟩,
    hset (fun v => v.depth.status) status, fun j => ?_, fun _ h => .inl h⟩
  rw [story_setStory]
  split
  · rename_i hj; rw [hj]; exact held
  · exact .inr rfl

/-- A change of the station unit keeps the frame of a send. -/
theorem SendFrame.stations (h : SendFrame s t) (hu : butStations u = butStations t) : SendFrame s u := by
  obtain ⟨h1, -, h3, h4, -⟩ := inner_fields (inner_of_butStations hu)
  have hst : ∀ k, u.story k = t.story k := fun k => by simp [State.story, h1]
  have hpg : ∀ p, u.page p = t.page p := fun p => by simp [State.page, h3]
  refine h.trans ⟨⟨?_, ?_, ?_, ?_, ?_⟩, ?_, ?_, ?_⟩ <;> simp only [hst, hpg, h4, State.slotOf, implies_true]
  · exact fun _ h => h
  · exact fun _ => .inr trivial
  · exact fun _ h => .inl h

theorem SendFrame.loseHold (h : SendFrame s t) (k : StoryId) : SendFrame s (t.loseHold k) := by
  unfold State.loseHold
  split
  · exact (h.setStory k { t.story k with holder := none } rfl rfl rfl (.inl rfl)).stations (butStations_countHold _ _ _)
  · exact h

theorem SendFrame.releaseHold (h : SendFrame s t) (k : StoryId) : SendFrame s (t.releaseHold k) :=
  (h.loseHold k).trans ((Steady.refl _).handEvent k).toSendFrame

/-- How many stories a station holds is counted down with its hold (R23). -/
theorem reheld_loseHold (s : State) (k : StoryId) (st : Station) (hk : (s.story k).holder = some st) :
    Reheld k s (s.loseHold k) := by
  have hterm := loseHold_holdMoved hk
  have hne : ∀ j, j ≠ k → (s.loseHold k).story j = s.story j := fun j hj => by rw [loseHold_story, if_neg hj]
  have hk' : (s.loseHold k).story k = { s.story k with holder := none } := by rw [loseHold_story, if_pos rfl]
  refine ⟨fun j hj => by rw [hne j hj], fun j hj => by rw [hne j hj], fun j hj => by rw [hne j hj], fun v => ?_,
    fun v hc => ?_, by rw [hk'], fun v _ => by rw [hk']; simp, fun hu => ?_, fun v hv => ?_⟩
  · rw [hterm]; split <;> rfl
  · have hone := heldCount_update (s := s) (t := s.loseHold k) (fun j hj => by rw [hne j hj]) v
    have ht : holdsOne (s.loseHold k) k v = 0 := by simp [holdsOne, hk']
    rw [hterm]
    by_cases hv : st = .terminal v
    · have hs : holdsOne s k v = 1 := by simp [holdsOne, hk, hv]
      rw [if_pos hv]
      dsimp only
      omega
    · have hs : holdsOne s k v = 0 := by simp [holdsOne, hk, hv]
      rw [if_neg hv, hs, ht]
  · rw [hk'] at hu
    exact ⟨by rw [hk'], .inl hu⟩
  · rw [hk'] at hv; cases hv

theorem guardLaw_loseHold (k : StoryId) (hg : GuardLaw s) : GuardLaw (s.loseHold k) := by
  cases hk : (s.story k).holder with
  | none => rw [loseHold_free s k hk]; exact hg
  | some st => exact (reheld_loseHold s k st hk).guardLaw hg

theorem guardLaw_releaseHold (k : StoryId) (hg : GuardLaw s) : GuardLaw (s.releaseHold k) :=
  ((Steady.refl _).handEvent k).guardLaw (guardLaw_loseHold k hg)

/-- A station, signed on and below the hold limit, gains the hold of a story nobody holds and that it does not view (R23). -/
theorem reheld_gain {k : StoryId} {st : Station} {v : Story} (hstory : ∀ j, j ≠ k → t.story j = s.story j)
    (hk : t.story k = { v with holder := some st }) (hterm : holdMoved st (· + 1) s t) (hh : (s.story k).holder = none)
    (hu : v.phase ≠ .unused) (hleft : v.viewers.Sublist (s.story k).viewers)
    (hview : ∀ x ∈ v.viewers, st ≠ .terminal x.terminal)
    (hst : ∀ u, st = .terminal u → (s.terminal u).signedOn = true ∧ (s.terminal u).holdCount < 16) : Reheld k s t := by
  refine ⟨fun j hj => by rw [hstory j hj], fun j hj => by rw [hstory j hj], fun j hj => by rw [hstory j hj], fun x => ?_,
    fun x _ => ?_, by rw [hk]; exact hleft, fun x hx => ?_, fun h => absurd (by rw [hk] at h; exact h) hu, fun x hx => ?_⟩
  · rw [hterm]; split <;> rfl
  · have hs : holdsOne s k x = 0 := by simp [holdsOne, hh]
    rw [hterm, hs]
    by_cases hx : st = .terminal x
    · have ht : holdsOne t k x = 1 := by simp [holdsOne, hk, hx]
      rw [if_pos hx, ht]
    · have ht : holdsOne t k x = 0 := by simp [holdsOne, hk, hx]
      rw [if_neg hx, ht]
  · rw [hk] at hx ⊢
    exact fun he => hview x hx (Option.some.inj he)
  · rw [hk] at hx
    exact .inr (hst x (Option.some.inj hx))

/-- An entry that nobody held and nobody holds, with no viewers. -/
theorem reheld_bare {k : StoryId} (hne : ∀ j, j ≠ k → t.story j = s.story j) (hsigns : SameSigns s t)
    (hs : (s.story k).holder = none) (ht : (t.story k).holder = none) (hv : (t.story k).viewers = []) : Reheld k s t := by
  refine ⟨fun j hj => by rw [hne j hj], fun j hj => by rw [hne j hj], fun j hj => by rw [hne j hj],
    fun v => (hsigns v).1, fun v _ => ?_, by rw [hv]; exact List.nil_sublist _, fun v h => ?_, fun _ => ⟨ht, .inr hv⟩,
    fun v h => ?_⟩
  · have h1 : holdsOne s k v = 0 := by simp [holdsOne, hs]
    have h2 : holdsOne t k v = 0 := by simp [holdsOne, ht]
    rw [h1, h2, (hsigns v).2]
  · rw [hv] at h; cases h
  · rw [ht] at h; cases h

theorem below_holdLimit {st : Station} (h : s.atHoldLimit st = false) (hon : s.signedOn st = true) (v : TerminalId)
    (hv : st = .terminal v) : (s.terminal v).signedOn = true ∧ (s.terminal v).holdCount < 16 := by
  subst hv
  exact ⟨hon, Nat.not_le.1 (of_decide_eq_false h)⟩

/-! ## Writes to HOLD -/

/-- A story created is LIVE, in no slot and STALE (R10, R11). -/
theorem sound_created {k : StoryId} (hu : (s.story k).phase = .unused) (hpages : t.pages = s.pages)
    (hdis : t.dispatch = s.dispatch) (hne : ∀ j, j ≠ k → t.story j = s.story j) (hlive : (t.story k).phase = .live)
    (hg : GuardLaw s → GuardLaw t) : Sound s (t.queueStale k) := by
  have hre := (Remeasured.refl (· = k) t).queueStale rfl
  have hts : ((t.queueStale k).story k).depth.status = .stale := by
    simp [State.queueStale, State.setStatus, State.setQueue, State.story, State.setStory]
  refine ⟨fun h => hre.toHoldFrame.guardLaw (hg h), fun hp _ hf => ?_, fun hp _ _ hr => ?_⟩
  · refine hre.toSentFrame.frozenLaw (frozenLaw_of_entry hpages hdis (fun j hj => ?_) (not_slotted hp (hp.unused k hu))
      (by rw [hlive]; simp) hf)
    rw [hne j hj]; exact ⟨rfl, rfl⟩
  · refine sendReady_of_entry (k := k) (hre.pages.trans hpages) (fun j hj => ?_) (not_onSending hp (hp.unused k hu))
      (fun h => ?_) (fun _ => by rw [hts]; simp) hr
    · rw [hre.phase, hre.holder, hre.status j hj, hne j hj]; exact ⟨rfl, rfl, rfl⟩
    · rw [hre.phase, hlive] at h; cases h

theorem sound_createByClaim (st : Station) (k : StoryId) (hu : (s.story k).phase = .unused) (hon : s.signedOn st = true)
    (hl : s.atHoldLimit st = false) : Sound s (s.createByClaim st k) := by
  have hk : ((s.setStory k { unusedStory with phase := .live }).gainHold k st).story k =
      { ({ unusedStory with phase := .live } : Story) with holder := some st } := by
    rw [gainHold_story, if_pos rfl, story_setStory_same]
  have hne : ∀ j, j ≠ k → ((s.setStory k { unusedStory with phase := .live }).gainHold k st).story j = s.story j :=
    fun j hj => by rw [gainHold_story, if_neg hj, story_setStory_ne _ _ hj]
  refine (sound_created hu (by rw [gainHold_frame]; rfl) (by rw [gainHold_frame]; rfl) hne (by rw [hk]) fun hg => ?_).done
  exact (reheld_gain hne hk (gainHold_holdMoved _ _ _) (hg.2.unused k hu) (by simp) (by simp [unusedStory])
    (by simp [unusedStory]) (below_holdLimit hl hon)).guardLaw hg

theorem sound_grantClaim (st : Station) (k : StoryId) (hu : (s.story k).phase = .live) (hc : (s.story k).closing = false)
    (hh : (s.story k).holder = none) (hon : s.signedOn st = true) (hl : s.atHoldLimit st = false) :
    Sound s (s.grantClaim st k) := by
  have hstory : ∀ j, ((s.gainHold k st).dropViewerOf k st).story j = if j = k then
      { ({ s.story k with viewers := (s.story k).viewers.filter fun v => decide (Station.terminal v.terminal ≠ st) } : Story)
        with holder := some st } else s.story j := fun j => by
    rw [dropViewerOf_story, gainHold_story, if_pos rfl, gainHold_story]
    split <;> rfl
  have hterm : holdMoved st (· + 1) s ((s.gainHold k st).dropViewerOf k st) := fun v => by
    rw [terminal_dropViewerOf, gainHold_holdMoved]
  have hne : ∀ j, j ≠ k → ((s.gainHold k st).dropViewerOf k st).story j = s.story j := fun j hj => by rw [hstory, if_neg hj]
  have hk := hstory k
  rw [if_pos rfl] at hk
  have hframe : ((s.gainHold k st).dropViewerOf k st).pages = s.pages ∧
      ((s.gainHold k st).dropViewerOf k st).dispatch = s.dispatch := by
    cases st <;> exact ⟨rfl, rfl⟩
  refine Sound.done ⟨fun hg => ?_, fun _ _ hf => ?_, fun hp hd _ hr => ?_⟩
  · exact (reheld_gain hne hk hterm hh (by simp [hu]) List.filter_sublist
      (fun x hx he => of_decide_eq_true (List.mem_filter.1 hx).2 he.symm) (below_holdLimit hl hon)).guardLaw hg
  · have hpage : ∀ p, ((s.gainHold k st).dropViewerOf k st).page p = s.page p := fun p => by simp [State.page, hframe.1]
    refine SentFrame.frozenLaw ⟨fun j => ?_, fun j => ?_, fun p n => by simp [State.slotOf, hpage], fun p => by rw [hpage],
      by rw [hframe.2]; exact fun _ h => h⟩ hf
    · rw [hstory]; split <;> simp [*]
    · rw [hstory]; split <;> simp [*]
  · refine sendReady_of_entry hframe.1 (fun j hj => by rw [hne j hj]; exact ⟨rfl, rfl, rfl⟩)
      (fun ho => by rw [ho.closing hp hd] at hc; cases hc) (fun h => by rw [hk] at h; simp [hu] at h) ?_ hr
    rintro ⟨p, n, sl, hsl, rfl⟩
    rw [hk]
    exact hr.used p n sl hsl

theorem sound_claimRequest (s : State) (st : Station) (k : StoryId) (hon : s.signedOn st = true) :
    Sound s (s.claimRequest st k) := by
  unfold State.claimRequest
  split
  · rename_i hu
    refine Sound.testing fun h => sound_createByClaim st k hu hon ?_
    simpa using h
  · rename_i hu
    refine Sound.testing fun h => ?_
    simp only [List.mem_cons, List.not_mem_nil, or_false, forall_eq_or_imp, forall_eq, beq_eq_false_iff_ne] at h
    obtain ⟨hf, hc⟩ := h
    split
    · exact (Sound.refl s).done
    · refine Sound.testing fun h => ?_
      simp only [List.mem_cons, List.not_mem_nil, or_false, forall_eq_or_imp, forall_eq, Option.isSome_eq_false_iff,
        Option.isNone_iff_eq_none] at h
      obtain ⟨hh, hl, -⟩ := h
      refine sound_grantClaim st k ?_ hc hh hon hl
      cases hph : (s.story k).phase with
      | unused => exact absurd hph hu
      | live => rfl
      | frozen => exact absurd hph hf

theorem sound_releaseHold (s : State) (k : StoryId) : Sound s (s.releaseHold k) :=
  sound_of_frames (guardLaw_releaseHold k) ((SendFrame.refl s).releaseHold k)

theorem sound_loseHold (s : State) (k : StoryId) : Sound s (s.loseHold k) :=
  sound_of_frames (guardLaw_loseHold k) ((SendFrame.refl s).loseHold k)

theorem sound_releaseRequest (s : State) (st : Station) (k : StoryId) : Sound s (s.releaseRequest st k) := by
  unfold State.releaseRequest
  split
  · exact (sound_releaseHold s k).done
  · exact sound_refuse _ _ _

theorem sound_breakRequest (s : State) (st : Station) (k : StoryId) : Sound s (s.breakRequest st k) := by
  refine Sound.testing fun _ => ?_
  split
  · exact (Sound.refl s).done
  · exact ((sound_loseHold s k).steady (((Steady.refl _).raise _ _).handEvent k)).done

theorem sound_writeHold (s : State) (st : Station) (k : StoryId) (sz : Size) (v : Word) : Sound s (s.writeHold st k sz v) := by
  refine Sound.testing fun h => ?_
  have hon : s.signedOn st = true := by simpa using h (!s.signedOn st, .notSignedOn) (by simp)
  split
  · exact sound_claimRequest s st k hon
  · split
    · exact sound_releaseRequest s st k
    · split
      · exact sound_breakRequest s st k
      · exact sound_refuse _ _ _

/-! ## Writes to STATE -/

/-- Pages that keep their stories, none of which enters SENDING, keep the law of a send. -/
theorem sendReady_of_pages (hstory : ∀ k, t.story k = s.story k)
    (hslots : ∀ p n, (t.slotOf p n).map Slot.story = (s.slotOf p n).map Slot.story)
    (hsend : ∀ p, isSending (t.page p).state = true → isSending (s.page p).state = true) (hr : SendReady s) : SendReady t := by
  refine ⟨⟨fun p n sl hp hsl => ?_, fun k hk => ?_⟩, fun p n sl hsl => ?_⟩
  · obtain ⟨sl', hs', he⟩ := slot_of_slots (hslots p n) hsl
    rw [hstory, ← he]
    exact hr.sending p n sl' (hsend p hp) hs'
  · rw [hstory] at hk ⊢
    exact hr.frozen k hk
  · obtain ⟨sl', hs', he⟩ := slot_of_slots (hslots p n) hsl
    rw [hstory, ← he]
    exact hr.used p n sl' hs'

/-- Changes of pages leave holds. -/
theorem HoldFrame.setPage (h : HoldFrame s t) (p : PageId) (v : Page) : HoldFrame s (t.setPage p v) :=
  h.trans ⟨fun _ => .rfl, fun _ => rfl, fun _ => rfl, fun _ => rfl, fun _ => rfl⟩

theorem HoldFrame.reopenPage (h : HoldFrame s t) (k : StoryId) : HoldFrame s (t.reopenPage k) := by
  unfold State.reopenPage
  split
  · split
    · exact (h.setPage _ _).trans ((Steady.refl _).raise _ _).toHoldFrame
    · exact h.setPage _ _
    · exact h
  · exact h

theorem unfreeze_story (s : State) (k j : StoryId) : (s.unfreeze k).story j =
    if j = k ∧ (s.story k).phase = .frozen then { s.story k with phase := .live, revision := (s.story k).revision + 1 }
    else s.story j := by
  unfold State.unfreeze
  split
  · rw [story_setStory]; simp [*]
  · simp [*]

theorem terminal_unfreeze (s : State) (k : StoryId) (v : TerminalId) : (s.unfreeze k).terminal v = s.terminal v := by
  unfold State.unfreeze
  split <;> rfl

theorem HoldFrame.unfreeze (h : HoldFrame s t) (k : StoryId) : HoldFrame s (t.unfreeze k) := by
  refine h.trans ⟨fun j => ?_, fun j => ?_, fun j => ?_, fun v => by rw [terminal_unfreeze],
    fun v => by rw [terminal_unfreeze]⟩ <;> rw [unfreeze_story] <;> split <;> simp_all

/-- A page's resting state does not change, or changes as an edit changes it, and its slots or a story on it may have changed
with it (R42, R127). -/
theorem frozenLaw_of_edit {p : PageId} {r : Resting}
    (others : ∀ q, q ≠ p → restingOf (t.page q).state = restingOf (s.page q).state)
    (slots : ∀ q n, q ≠ p → (t.slotOf q n).map Slot.story = (s.slotOf q n).map Slot.story)
    (edit : restingOf (t.page p).state = editResting r (anyOccupied (t.page p)))
    (was : restingOf (s.page p).state = r)
    (phase : ∀ j, (t.story j).phase = .frozen → (s.story j).phase = .frozen ∧
      (t.story j).placement = (s.story j).placement)
    (kept : ∀ q n sl, q ≠ p → s.slotOf q n = some sl → (s.story sl.story).phase = .frozen →
      (t.story sl.story).phase = .frozen)
    (occ : ∀ j n, (t.story j).phase = .frozen → (t.story j).placement = some (p, n) → anyOccupied (t.page p) = true)
    (queue : ∀ e ∈ t.dispatch.queue, e ∈ s.dispatch.queue)
    (left : anyOccupied (t.page p) = false → ∀ e ∈ t.dispatch.queue, e.page ≠ p)
    (hf : FrozenLaw s) : FrozenLaw t := by
  have hnone : anyOccupied (t.page p) = false ↔ ∀ n, t.slotOf p n = none := by
    simp only [anyOccupied, Bool.not_eq_false', List.isEmpty_iff, List.eq_nil_iff_forall_not_mem, Prod.forall, mem_occupied]
    exact ⟨fun h n => Option.eq_none_iff_forall_ne_some.2 (h n), fun h n => Option.eq_none_iff_forall_ne_some.1 (h n)⟩
  have hedit : ∀ o, editResting r o ≠ .sent ∧ (editResting r o = .empty ↔ o = false) ∧
      (o = true → r = .sent ∨ r = .changed → editResting r o = .changed) := by
    intro o
    cases o <;> cases r <;> simp [editResting]
  refine ⟨fun j hj => ?_, fun q n sl hq hsl => ?_, fun q => ?_, fun e he => ?_⟩
  · obtain ⟨hjs, hpl⟩ := phase j hj
    obtain ⟨q, n, hjq, hr⟩ := hf.frozen j hjs
    refine ⟨q, n, hpl.trans hjq, ?_⟩
    by_cases hqp : q = p
    · subst hqp
      have ho := occ j n hj (hpl.trans hjq)
      rw [edit]
      exact .inr ((hedit _).2.2 ho (by rwa [was] at hr))
    · rwa [others q hqp]
  · by_cases hqp : q = p
    · subst hqp
      rw [edit] at hq
      exact absurd hq (hedit _).1
    · obtain ⟨sl', hs', he⟩ := slot_of_slots (slots q n hqp) hsl
      rw [others q hqp] at hq
      rw [← he]
      exact kept q n sl' hqp hs' (hf.sent q n sl' hq hs')
  · by_cases hqp : q = p
    · subst hqp
      rw [edit, (hedit _).2.1, hnone]
    · have hn : ∀ n, t.slotOf q n = none ↔ s.slotOf q n = none := fun n => by
        rw [← Option.map_eq_none_iff (f := Slot.story), slots q n hqp, Option.map_eq_none_iff]
      simp only [others q hqp, hn]
      exact hf.empty q
  · by_cases hqp : e.page = p
    · rw [hqp, edit]
      intro h
      exact left ((hedit _).2.1.1 h) e he hqp
    · rw [others _ hqp]
      exact hf.queued e (queue e he)

theorem anyOccupied_of_slot {v : Page} {n : SlotId} {sl : Slot} (h : v.slots[n.val] = some sl) : anyOccupied v = true := by
  have := List.ne_nil_of_mem ((mem_occupied v n sl).2 h)
  simpa [anyOccupied] using this

/-- A page that is not busy changes its resting state within its kind when REOPEN reaches it. -/
theorem reopened_kind (x : PageState) : pageKind (reopened x) = pageKind x := by
  cases x with
  | resting r => cases r <;> rfl
  | queued r => cases r <;> rfl
  | waiting r => rfl
  | sending r => rfl

theorem reopened_resting {x : PageState} (hk : pageKind x < 2) (hr : restingOf x = .sent ∨ restingOf x = .changed) :
    restingOf (reopened x) = .changed := by
  cases x with
  | resting r => cases r <;> simp_all [reopened, restingOf]
  | queued r => cases r <;> simp_all [reopened, restingOf]
  | waiting r => simp [pageKind] at hk
  | sending r => simp [pageKind] at hk

theorem story_reopenPage (s : State) (k j : StoryId) : (s.reopenPage k).story j = s.story j := by
  unfold State.reopenPage
  split
  · split
    · exact story_raise _ _ _ _
    · rfl
    · rfl
  · rfl

theorem dispatch_reopenPage (s : State) (k : StoryId) : (s.reopenPage k).dispatch = s.dispatch := by
  unfold State.reopenPage
  split
  · split
    · exact raise_dispatch _ _ _
    · rfl
    · rfl
  · rfl

/-- REOPEN changes a page's state within its kind alone (R42). -/
theorem page_reopenPage (s : State) (k : StoryId) (q : PageId) :
    (s.reopenPage k).page q = s.page q ∨ (∃ n, (s.story k).placement = some (q, n)) ∧
      (s.reopenPage k).page q = { s.page q with state := reopened (s.page q).state } := by
  cases hk : (s.story k).placement with
  | none => exact .inl (by simp [State.reopenPage, hk])
  | some pn =>
    obtain ⟨p, n⟩ := pn
    rw [(reopenPage_placed hk).2.1]
    split
    · rename_i hq; subst hq; exact .inr ⟨⟨n, rfl⟩, rfl⟩
    · exact .inl rfl

/-- REOPEN of a FROZEN story that is not closing (R41, R42). -/
theorem sound_reopen (k : StoryId) (hf : (s.story k).phase = .frozen) (hc : (s.story k).closing = false) :
    Sound s ((s.unfreeze k).reopenPage k) := by
  have hstory : ∀ j, ((s.unfreeze k).reopenPage k).story j =
      if j = k then { s.story k with phase := .live, revision := (s.story k).revision + 1 } else s.story j := fun j => by
    rw [story_reopenPage, unfreeze_story]; simp [hf]
  have hne : ∀ j, j ≠ k → ((s.unfreeze k).reopenPage k).story j = s.story j := fun j hj => by rw [hstory, if_neg hj]
  have hk := hstory k
  rw [if_pos rfl] at hk
  have hpages : ∀ q, (s.unfreeze k).page q = s.page q := fun q => by simp [State.page, (unfreeze_fields s k).1]
  have hslots : ∀ q n, ((s.unfreeze k).reopenPage k).slotOf q n = s.slotOf q n := fun q n => by
    rcases page_reopenPage (s.unfreeze k) k q with h | ⟨-, h⟩ <;> simp [State.slotOf, h, hpages]
  refine ⟨(((HoldFrame.refl s).unfreeze k).reopenPage k).guardLaw, fun hp hd hfl => ?_, fun hp hd _ hr => ?_⟩
  · obtain ⟨p, n, hpl, hres⟩ := hfl.frozen k hf
    have hpl' : ((s.unfreeze k).story k).placement = some (p, n) := by rw [(unfreeze_placement s k k).1, hpl]
    have hpage := (reopenPage_placed hpl').2.1
    simp only [hpages] at hpage
    have hkind : pageKind (s.page p).state < 2 := by
      by_contra hb
      have hbusy : busy s p = true := (busy_iff s p).2 (by have := pageKind_le (s.page p).state; omega)
      rw [(hd.closing k).2 ⟨p, n, hpl, hbusy⟩] at hc
      cases hc
    obtain ⟨sl, hsl, hslk⟩ := hp.placement k p n hpl
    have hocc : anyOccupied (((s.unfreeze k).reopenPage k).page p) = true :=
      anyOccupied_of_slot (n := n) (sl := sl) ((hslots p n).trans hsl)
    refine frozenLaw_of_edit (p := p) (r := restingOf (s.page p).state) (fun q hq => by rw [hpage, if_neg hq])
      (fun q n _ => by rw [hslots]) ?_ rfl (fun j hj => ?_) (fun q m sl' hq hsl' hfr => ?_) (fun _ _ _ _ => hocc)
      (fun e he => ?_) (fun h => ?_) hfl
    · rw [hocc, hpage, if_pos rfl]
      dsimp only
      rw [reopened_resting hkind hres]
      rcases hres with h | h <;> rw [h] <;> rfl
    · have hjk : j ≠ k := fun he => by rw [he, hk] at hj; cases hj
      rw [hne j hjk] at hj ⊢
      exact ⟨hj, rfl⟩
    · have hjk : sl'.story ≠ k := fun he => by
        have h1 := hp.slot q m sl' hsl'
        rw [he, hpl] at h1
        exact hq (congrArg Prod.fst (Option.some.inj h1)).symm
      rw [hne _ hjk]
      exact hfr
    · rwa [dispatch_reopenPage, (unfreeze_fields s k).2.1] at he
    · rw [hocc] at h; cases h
  · have hr1 : SendReady (s.unfreeze k) := by
      have hfz : (s.unfreeze k).story k = { s.story k with phase := .live, revision := (s.story k).revision + 1 } := by
        rw [unfreeze_story]; simp [hf]
      refine sendReady_of_entry (k := k) (unfreeze_fields s k).1 (fun j hj => ?_)
        (fun ho => by rw [ho.closing hp hd] at hc; cases hc) (fun h => by rw [hfz] at h; cases h) ?_ hr
      · rw [unfreeze_story]; simp [hj]
      · rintro ⟨p, n, sl, hsl, rfl⟩
        rw [hfz]
        exact hr.used p n sl hsl
    refine sendReady_of_pages (fun j => story_reopenPage _ k j)
      (fun p n => by rw [hslots]; simp [State.slotOf, hpages]) (fun p h => ?_) hr1
    rcases page_reopenPage (s.unfreeze k) k p with h' | ⟨-, h'⟩ <;> rw [h'] at h
    · exact h
    · rw [isSending_eq] at h ⊢
      rwa [reopened_kind] at h

theorem sound_writeState (s : State) (st : Station) (k : StoryId) (sz : Size) (v : Word) :
    Sound s (s.writeState st k sz v) := by
  refine Sound.testing fun h => ?_
  have hc : (s.story k).closing = false := by simpa using h ((s.story k).closing, .closing) (by simp)
  split
  · exact (sound_reopen k ‹_› hc).done
  · exact (Sound.refl s).done

/-! ## Writes to ROUTE -/

theorem Steady.setBasket (h : Steady s t) (b : BasketId) (v : Basket) : Steady s (t.setBasket b v) := h.around rfl rfl

theorem Steady.file (h : Steady s t) (k : StoryId) (b : BasketId) (p : Priority) : Steady s (t.file k b p) :=
  (h.setBasket b _).setStory k _ rfl rfl rfl rfl rfl

theorem Steady.unfile (h : Steady s t) (k : StoryId) : Steady s (t.unfile k) := by
  unfold State.unfile
  split
  · exact (h.setBasket _ _).setStory k { t.story k with basket := none } rfl rfl rfl rfl rfl
  · exact h

theorem Steady.routeIn (h : Steady s t) (st : Station) (k : StoryId) (b : BasketId) (p : Priority) :
    Steady s (t.routeIn st k b p) := by
  unfold State.routeIn
  split
  · split
    · exact h
    · exact (h.unfile k).file k b p
  · exact ((h.unfile k).file k b p).raiseAll _

/-- The end of the writer's hold after a steady change. -/
theorem sound_endHoldByRoute (h : Steady s t) (st : Station) (k : StoryId) : Sound s (t.endHoldByRoute st k) := by
  unfold State.endHoldByRoute
  split
  · exact sound_of_frames (fun hg => guardLaw_releaseHold k (h.guardLaw hg)) (h.toSendFrame.releaseHold k)
  · exact h.sound

theorem sound_createByRoute (st : Station) (k : StoryId) (b : BasketId) (p : Priority) (hu : (s.story k).phase = .unused) :
    Sound s (s.createByRoute st k b p) := by
  have hk : ((s.setStory k { unusedStory with phase := .live }).file k b p).story k =
      { unusedStory with phase := .live, basket := some b, prio := p } := by
    simp [State.file]
  have hne : ∀ j, j ≠ k → ((s.setStory k { unusedStory with phase := .live }).file k b p).story j = s.story j :=
    fun j hj => by simp [State.file, hj]
  refine ((sound_created (t := (s.setStory k { unusedStory with phase := .live }).file k b p) hu rfl rfl hne (by rw [hk])
    fun hg => ?_).steady ((Steady.refl _).raiseAll _)).done
  exact (reheld_bare hne (fun _ => ⟨rfl, rfl⟩) (hg.2.unused k hu) (by rw [hk]; rfl) (by rw [hk]; rfl)).guardLaw hg

theorem Steady.leaveMeasuring (h : Steady s t) : Steady s t.leaveMeasuring := by
  unfold State.leaveMeasuring
  split <;> exact h.setMeasure _

theorem Steady.abandonPass (h : Steady s t) (k : StoryId) : Steady s (t.abandonPass k) := by
  unfold State.abandonPass
  split
  · exact h.leaveMeasuring
  · exact h

theorem Steady.forgetMeasure (h : Steady s t) (k : StoryId) : Steady s (t.forgetMeasure k) :=
  (h.abandonPass k).setMeasure _

/-- An unheld story in no slot that takes its power-on value. -/
theorem sound_unuse {k : StoryId} (hg : GuardLaw s → GuardLaw t) (h : SendFrame s t) (hh : (t.story k).holder = none)
    (hpl : (s.story k).placement = none) : Sound s (t.setStory k unusedStory) := by
  have hne : ∀ j, j ≠ k → (t.setStory k unusedStory).story j = t.story j := fun j hj => story_setStory_ne _ _ hj
  have hk : (t.setStory k unusedStory).story k = unusedStory := story_setStory_same _ _ _
  have hslot : PlanLaw s → ¬ ∃ p n sl, t.slotOf p n = some sl ∧ sl.story = k := fun hp ⟨p, n, sl, hsl, he⟩ => by
    obtain ⟨sl', hs', he'⟩ := slot_of_slots (h.slots p n) hsl
    exact not_slotted hp hpl ⟨p, n, sl', hs', he'.trans he⟩
  refine ⟨fun hgs => (reheld_bare hne (fun _ => ⟨rfl, rfl⟩) hh (by rw [hk]; rfl) (by rw [hk]; rfl)).guardLaw (hg hgs),
    fun hp _ hf => ?_, fun hp _ _ hr => ?_⟩
  · refine frozenLaw_of_entry (s := t) (k := k) rfl rfl (fun j hj => by rw [hne j hj]; exact ⟨rfl, rfl⟩) (hslot hp) ?_
      (h.frozenLaw hf)
    rw [hk]; simp [unusedStory]
  · exact sendReady_of_entry (s := t) (k := k) rfl (fun j hj => by rw [hne j hj]; exact ⟨rfl, rfl, rfl⟩)
      (fun ⟨p, n, sl, _, hsl, he⟩ => hslot hp ⟨p, n, sl, hsl, he⟩) (fun _ => by rw [hk]; rfl)
      (fun hx => absurd hx (hslot hp)) (h.sendReady hr)

theorem sound_purgeTaken (k : StoryId) (st : Station) (hpl : (s.story k).placement = none) : Sound s (s.purgeTaken k st) := by
  have h1 : Steady s ((s.forgetMeasure k).unfile k) := ((Steady.refl s).forgetMeasure k).unfile k
  have h2 : Steady (((s.forgetMeasure k).unfile k).loseHold k) ((((s.forgetMeasure k).unfile k).loseHold k).raiseGone k st) :=
    (Steady.refl _).raiseAll _
  refine Sound.done (sound_unuse (fun hg => h2.guardLaw (guardLaw_loseHold k (h1.guardLaw hg)))
    ((h1.toSendFrame.loseHold k).trans h2.toSendFrame) ?_ hpl)
  rw [h2.holder, loseHold_story, if_pos rfl]

theorem sound_purgeRequest (s : State) (st : Station) (k : StoryId) : Sound s (s.purgeRequest st k) := by
  refine Sound.testing fun h => sound_purgeTaken k st ?_
  simpa using h ((s.story k).placement.isSome, .badState) (by simp)

theorem sound_writeRoute (s : State) (st : Station) (k : StoryId) (sz : Size) (q : RouteRequest) :
    Sound s (s.writeRoute st k sz q) := by
  refine Sound.testing fun _ => ?_
  unfold State.routeRequest
  split
  · exact sound_refuse _ _ _
  · exact sound_purgeRequest s st k
  · split
    · exact sound_refuse _ _ _
    · exact Sound.testing fun _ => (sound_endHoldByRoute ((Steady.refl s).unfile k) st k).done
  · split
    · exact Sound.testing fun _ => sound_createByRoute st k _ _ ‹_›
    · exact Sound.testing fun _ => (sound_endHoldByRoute ((Steady.refl s).routeIn st k _ _) st k).done

/-! ## Text, headers and rings -/

theorem Steady.plainStore (h : Steady s t) (a n : Nat) (data : Data) (f : Bool) : Steady s (t.plainStore a n data f) :=
  h.around (by cases f <;> rfl) (by cases f <;> rfl)

theorem Steady.plainAnswer (h : Steady s t) (st : Station) (f : Bool) : Steady s (t.plainAnswer st f) := by
  cases f
  · exact h.done
  · exact h.refuse _ _

/-- A view registered goes to the front, and at most three others stay (R100, R101). -/
theorem sound_registerView (k : StoryId) (v : TerminalId) (hu : (s.story k).phase ≠ .unused)
    (hon : (s.terminal v).signedOn = true) (hh : (s.story k).holder ≠ some (.terminal v)) : Sound s (s.registerView k v) := by
  unfold State.registerView
  dsimp only
  generalize hvs : ({ terminal := v, stale := false } :: ((s.story k).viewers.filter fun x => x.terminal != v).take
    (viewerPlaces - 1) : List Viewer) = vs
  have hframe : SendFrame s (s.setStory k { s.story k with viewers := vs }) :=
    (SendFrame.refl s).setStory k _ rfl rfl rfl (.inr rfl)
  have hst : ∀ j, (s.setStory k { s.story k with viewers := vs }).story j =
      if j = k then { s.story k with viewers := vs } else s.story j := fun j => story_setStory _ _ _ _
  have hk := hst k
  rw [if_pos rfl] at hk
  have hrev : Reviewed k s (s.setStory k { s.story k with viewers := vs }) := by
    refine ⟨fun j => ?_, fun j => ?_, fun j hj => by rw [hst, if_neg hj], fun _ => ⟨rfl, rfl⟩⟩ <;> rw [hst] <;> split <;>
      simp_all
  have hmem : ∀ x ∈ vs, x.terminal = v ∨ x ∈ (s.story k).viewers := fun x hx => by
    rw [← hvs] at hx
    rcases List.mem_cons.1 hx with rfl | hx
    · exact .inl rfl
    · exact .inr (List.mem_filter.1 (List.mem_of_mem_take hx)).1
  refine (sound_of_frames (fun hg => hrev.guardLaw ?_ ?_ (fun x hx => ?_) (fun h => absurd h hu) hg) hframe).steady
    ((Steady.refl _).raiseAll _)
  · rw [hk, ← hvs]
    simp only [viewerPlaces, List.length_cons, List.length_take]
    omega
  · rw [hk, ← hvs]
    simp only [List.map_cons, List.nodup_cons, List.mem_map, not_exists, not_and]
    refine ⟨fun x hx => ?_, (hg.1.once k).sublist (((List.take_sublist _ _).trans List.filter_sublist).map _)⟩
    simpa using (List.mem_filter.1 (List.mem_of_mem_take hx)).2
  · rw [hk] at hx
    rcases hmem x hx with he | hv
    · rw [he]; exact ⟨hon, hh⟩
    · exact ⟨hg.1.signedOn k x hv, hg.1.holder k x hv⟩

theorem sound_viewBy (s : State) (st : Station) (k : StoryId) : Sound s (s.viewBy st k) := by
  cases st with
  | system => exact .refl s
  | terminal v =>
    unfold State.viewBy
    dsimp only
    split
    · rename_i h
      exact sound_registerView k v h.1 h.2.1 h.2.2
    · exact .refl s

/-- A write marks viewers STALE and drops none (R102). -/
theorem guardLaw_markViewers (k : StoryId) (st : Station) (hg : GuardLaw s) : GuardLaw (s.markViewers k st) := by
  unfold State.markViewers
  dsimp only
  have hst : ∀ j, (s.setStory k { s.story k with viewers := (s.story k).viewers.map fun v => { v with stale := true } }).story
      j = if j = k then { s.story k with viewers := (s.story k).viewers.map fun v => { v with stale := true } }
        else s.story j := fun j => story_setStory _ _ _ _
  have hk := hst k
  rw [if_pos rfl] at hk
  have hrev : Reviewed k s (s.setStory k { s.story k with
      viewers := (s.story k).viewers.map fun v => { v with stale := true } }) := by
    refine ⟨fun j => ?_, fun j => ?_, fun j hj => by rw [hst, if_neg hj], fun _ => ⟨rfl, rfl⟩⟩ <;> rw [hst] <;> split <;>
      simp_all
  refine ((Steady.refl _).raiseAll _).guardLaw (hrev.guardLaw ?_ ?_ (fun x hx => ?_) (fun h => ?_) hg)
  · rw [hk, List.length_map]; exact hg.1.places k
  · rw [hk, List.map_map]; exact hg.1.once k
  · rw [hk, List.mem_map] at hx
    obtain ⟨y, hy, rfl⟩ := hx
    exact ⟨hg.1.signedOn k y hy, hg.1.holder k y hy⟩
  · rw [hk, hg.1.unused k h]; rfl

theorem sendFrame_markViewers (s : State) (k : StoryId) (st : Station) : SendFrame s (s.markViewers k st) :=
  ((SendFrame.refl s).setStory k
    { s.story k with viewers := (s.story k).viewers.map fun v => { v with stale := true } } rfl rfl rfl (.inr rfl)).trans
    ((Steady.refl _).raiseAll _).toSendFrame

/-- What passes the admission test writes to a LIVE story that is not closing (R35, R36). -/
theorem not_closing_of_admission {st : Station} {k : StoryId} (h : ∀ c ∈ s.admission st k, c.1 = false) :
    (s.story k).closing = false := by
  simpa using h ((s.story k).closing, .closing) (by simp [State.admission])

theorem sound_writeText (s : State) (st : Station) (k : StoryId) (pos : Nat) (sz : Size) (data : Data) (f : Bool) :
    Sound s (s.writeText st k pos sz data f) := by
  refine Sound.testing fun h => ?_
  have hc := not_closing_of_admission h
  have h1 := (Steady.refl s).plainStore (s.textAddr k pos) (sizeBytes sz) data f
  have hp1 : (s.plainStore (s.textAddr k pos) (sizeBytes sz) data f).pages = s.pages := by cases f <;> rfl
  have h2 := (Remeasured.refl (· = k) (s.plainStore (s.textAddr k pos) (sizeBytes sz) data f)).stale rfl
  have h3 := sendFrame_markViewers ((s.plainStore (s.textAddr k pos) (sizeBytes sz) data f).stale k) k st
  have h4 := (Steady.refl (((s.plainStore (s.textAddr k pos) (sizeBytes sz) data f).stale k).markViewers k st)).plainAnswer st f
  refine ⟨fun hg => ?_, fun _ _ hf => ?_, fun hp hd _ hr => ?_⟩
  · exact h4.guardLaw (guardLaw_markViewers k st (h2.toHoldFrame.guardLaw (h1.guardLaw hg)))
  · exact h4.frozenLaw (h3.frozenLaw (h2.toSentFrame.frozenLaw (h1.frozenLaw hf)))
  · refine h4.sendReady (h3.sendReady (h2.sendReady (fun j hj ho => ?_) (h1.sendReady hr)))
    rw [onSending_congr hp1, hj] at ho
    rw [ho.closing hp hd] at hc
    cases hc

theorem sound_writeHeaderPlain (s : State) (st : Station) (k : StoryId) (off : Nat) (sz : Size) (data : Data) (f : Bool) :
    Sound s (s.writeHeaderPlain st k off sz data f) :=
  Sound.testing fun _ => (((Steady.refl s).plainStore _ _ _ _).plainAnswer _ _).sound

theorem sound_writePlain (s : State) (st : Station) (a : Nat) (sz : Size) (data : Data) (f : Bool) :
    Sound s (s.writePlain st a sz data f) := (((Steady.refl s).plainStore _ _ _ _).plainAnswer _ _).sound

theorem Steady.noteContested (h : Steady s t) (o : Station) (off n : Nat) : Steady s (t.noteContested o off n) :=
  h.stations (butStations_noteContested t o off n) (by
    unfold State.noteContested
    split
    · split <;> exact sameSigns_of_terminals rfl
    · exact sameSigns_of_terminals rfl)

theorem sound_writeRing (s : State) (st owner : Station) (off : Nat) (sz : Size) (data : Data) (f : Bool) :
    Sound s (s.writeRing st owner off sz data f) :=
  Sound.testing fun _ => ((((Steady.refl s).plainStore _ _ _ _).noteContested _ _ _).plainAnswer _ _).sound

theorem sound_readText (s : State) (st : Station) (k : StoryId) (pos : Nat) (sz : Size) (f : Bool) :
    Sound s (s.readText st k pos sz f) := by
  unfold State.readText
  split
  · exact sound_refuse _ _ _
  · exact (sound_viewBy s st k).steady ((Steady.refl _).around rfl rfl)

theorem sound_readWords (s : State) (st : Station) (off : Nat) (sz : Size) (f : Bool) : Sound s (s.readWords st off sz f) := by
  have h1 : Steady s (s.clearLatch st off sz) := by
    unfold State.clearLatch
    split
    · exact (Steady.refl s).setLink _
    · exact .refl s
  unfold State.readWords
  dsimp only
  split
  · exact (h1.refuse _ _).sound
  · refine Steady.sound (Steady.around (t := (s.clearLatch st off sz).readFree off sz) ?_ rfl rfl)
    unfold State.readFree
    split
    · exact h1.around rfl rfl
    · exact h1

theorem sound_outside (s : State) (w : Bool) (a : Nat) (sz : Size) (data : Data) (f : Bool) :
    Sound s (s.outside w a sz data f) := by
  unfold State.outside
  have h1 := (Steady.refl s).plainStore a (sizeBytes sz) data f
  split
  · split
    · exact (h1.answer _ _).sound
    · exact h1.done.sound
  · split <;> exact ((Steady.refl s).answer _ _).sound

end Sys2Proof.Machine
end


section
/-! PROOFS. Writes to a page's plan keep the laws of holds, of what was sent and of a send (R39, R120, R123 to R128). -/

namespace Sys2Proof.Machine

open Safety

variable {s t u : State} {p : PageId} {K : StoryId → Prop}

/-! ## Edits of a page -/

theorem anyOccupied_eq_false (s : State) (p : PageId) : anyOccupied (s.page p) = false ↔ ∀ n, s.slotOf p n = none := by
  simp only [anyOccupied, Bool.not_eq_false', List.isEmpty_iff, List.eq_nil_iff_forall_not_mem, Prod.forall, mem_occupied]
  exact ⟨fun h n => Option.eq_none_iff_forall_ne_some.2 (h n), fun h n => Option.eq_none_iff_forall_ne_some.1 (h n)⟩

theorem anyOccupied_congr (h : ∀ n, (t.slotOf p n).map Slot.story = (s.slotOf p n).map Slot.story) :
    anyOccupied (t.page p) = anyOccupied (s.page p) := by
  rw [Bool.eq_iff_iff, ← not_iff_not, Bool.not_eq_true, Bool.not_eq_true, anyOccupied_eq_false, anyOccupied_eq_false]
  refine forall_congr' fun n => ?_
  rw [← Option.map_eq_none_iff (f := Slot.story), h, Option.map_eq_none_iff]

/-- A page cancelled is no longer queued (R134, R146). -/
theorem cancelPage_leaves (s : State) (p : PageId) (st : Station) : ∀ e ∈ (s.cancelPage p st).dispatch.queue, e.page ≠ p := by
  intro e he
  unfold State.cancelPage at he
  split at he
  · rename_i e' hq
    have hp : e'.page = p := by simpa using List.find?_some hq
    have h1 := (Steady.refl (s.failPage e' _)).advance.queue e he
    rw [failPage_queue, hp] at h1
    simpa using (List.mem_filter.1 h1).2
  · rename_i hq
    simpa using List.find?_eq_none.1 hq e he

/-- What an edit of a page that is not busy does to its state: it keeps its kind, takes the resting state of R127, and leaves the
queue when no slot is occupied. -/
theorem edited_state (hb : pageKind (s.page p).state < 2) (n : Option SlotId) (b : Option StoryId) (st : Station) :
    ∃ y, pageKind y = pageKind (s.page p).state ∧
      restingOf y = editResting (restingOf (s.page p).state) (anyOccupied (s.page p)) ∧
      Steady (s.setPageState p y) (s.edited p n b st) ∧
      (pageKind y = 1 → anyOccupied (s.page p) = false → ∀ e ∈ (s.edited p n b st).dispatch.queue, e.page ≠ p) := by
  unfold State.edited
  dsimp only
  split
  · rename_i r hr
    refine ⟨.resting (editResting r (anyOccupied (s.page p))), by rw [hr]; rfl, by rw [hr]; rfl, ?_, fun h => by cases h⟩
    split
    · exact (Steady.refl _).raise _ _
    · exact .refl _
  · rename_i r hr
    refine ⟨.queued (editResting r (anyOccupied (s.page p))), by rw [hr]; rfl, by rw [hr]; rfl, ?_, fun _ ho => ?_⟩
    · split
      · exact .refl _
      · exact (Steady.refl _).cancelPage _ _
    · rw [ho]
      exact cancelPage_leaves _ p st
  · rename_i h1 h2
    cases hx : (s.page p).state with
    | resting r => exact absurd hx (h1 r)
    | queued r => exact absurd hx (h2 r)
    | waiting r => simp [hx, pageKind] at hb
    | sending r => simp [hx, pageKind] at hb

theorem HoldFrame.edited (h : HoldFrame s t) (hb : pageKind (t.page p).state < 2) (n : Option SlotId) (b : Option StoryId)
    (st : Station) : HoldFrame s (t.edited p n b st) := by
  obtain ⟨y, -, -, hs, -⟩ := edited_state hb n b st
  exact (h.setPage _ _).trans hs.toHoldFrame

theorem sendReady_edited (hb : pageKind (s.page p).state < 2) (n : Option SlotId) (b : Option StoryId) (st : Station)
    (hr : SendReady s) : SendReady (s.edited p n b st) := by
  obtain ⟨y, hy, -, hs, -⟩ := edited_state hb n b st
  refine hs.sendReady (sendReady_of_pages (s := s) (t := s.setPageState p y) (fun _ => rfl) (fun q m => ?_) (fun q hq => ?_) hr)
  · simp only [State.slotOf, page_setPageState]
    split
    · rename_i h; subst h; rfl
    · rfl
  · rw [page_setPageState] at hq
    split at hq
    · rename_i h
      rw [isSending_eq] at hq ⊢
      rw [h]
      rwa [hy] at hq
    · exact hq

/-- An edit of a page that is not busy, after changes of its slots and of the stories in them, keeps the law of what was sent. -/
theorem frozenLaw_edited (state : ∀ q, (t.page q).state = (s.page q).state)
    (slots : ∀ q n, q ≠ p → (t.slotOf q n).map Slot.story = (s.slotOf q n).map Slot.story)
    (phase : ∀ j, (t.story j).phase = .frozen → (s.story j).phase = .frozen ∧
      (t.story j).placement = (s.story j).placement)
    (kept : ∀ q n sl, q ≠ p → s.slotOf q n = some sl → (s.story sl.story).phase = .frozen →
      (t.story sl.story).phase = .frozen)
    (occ : ∀ j n, (t.story j).phase = .frozen → (t.story j).placement = some (p, n) → anyOccupied (t.page p) = true)
    (queue : ∀ e ∈ t.dispatch.queue, e ∈ s.dispatch.queue) (hb : pageKind (s.page p).state < 2) (n : Option SlotId)
    (b : Option StoryId) (st : Station) (hd : DispatchLaw s) (hf : FrozenLaw s) : FrozenLaw (t.edited p n b st) := by
  obtain ⟨y, hy, hry, hs, hleft⟩ := edited_state (s := t) (by rw [state]; exact hb) n b st
  have hpage : ∀ q, q ≠ p → (t.setPageState p y).page q = t.page q := fun q hq => by rw [page_setPageState, if_neg hq]
  have hslot : ∀ q m, ((t.edited p n b st).slotOf q m).map Slot.story = (t.slotOf q m).map Slot.story := fun q m => by
    rw [hs.slots]
    simp only [State.slotOf, page_setPageState]
    split
    · rename_i h; subst h; rfl
    · rfl
  have hocc : anyOccupied ((t.edited p n b st).page p) = anyOccupied (t.page p) := anyOccupied_congr (hslot p)
  have hqueue : ∀ e ∈ (t.edited p n b st).dispatch.queue, e ∈ s.dispatch.queue := fun e he => queue e (hs.queue e he)
  refine frozenLaw_of_edit (p := p) (r := restingOf (s.page p).state) (fun q hq => ?_)
    (fun q m hq => (hslot q m).trans (slots q m hq)) ?_ rfl (fun j hj => ?_) (fun q m sl hq hsl hfr => ?_)
    (fun j m hj hpl => ?_) hqueue (fun ho e he hep => ?_) hf
  · rw [hs.resting, hpage q hq, state]
  · rw [hs.resting, page_setPageState, if_pos rfl, hocc, ← state p]
    exact hry
  · rw [hs.phase] at hj
    rw [hs.placement]
    exact phase j hj
  · rw [hs.phase]
    exact kept q m sl hq hsl hfr
  · rw [hs.phase] at hj
    rw [hs.placement] at hpl
    rw [hocc]
    exact occ j m hj hpl
  · rw [hocc] at ho
    have hrest := (hd.queued p).1 (List.mem_map.2 ⟨e, hqueue e he, hep⟩)
    rw [atRest_eq] at hrest
    have hk : pageKind (s.page p).state ≠ 0 := of_decide_eq_false hrest
    exact hleft (by rw [hy, state]; omega) ho e he hep

/-- A page that is not busy is not SENDING. -/
theorem not_isSending_of_kind (hb : pageKind (s.page p).state < 2) : isSending (s.page p).state = false := by
  rw [isSending_eq]
  exact decide_eq_false (by omega)

/-- No story of a page that is not busy sits on a SENDING page. -/
theorem not_onSending_of_placed (hp : PlanLaw s) (hb : pageKind (s.page p).state < 2) {k : StoryId} {n : SlotId}
    (hk : (s.story k).placement = some (p, n)) : ¬ OnSending s k := by
  intro ho
  obtain ⟨q, m, hq, hs⟩ := ho.placed hp
  rw [hk] at hq
  cases hq
  rw [not_isSending_of_kind hb] at hs
  cases hs

/-! ## Terms of slots and geometry -/

/-- New terms or geometry of a page that is not busy, the measuring it causes, and the edit of the page. -/
theorem sound_terms (h1 : Steady s t) (h2 : Remeasured K t u) (state : ∀ q, (t.page q).state = (s.page q).state)
    (hb : pageKind (s.page p).state < 2) (hK : PlanLaw s → ∀ k, K k → ¬ OnSending s k) (n : Option SlotId)
    (b : Option StoryId) (st : Station) : Sound s (u.edited p n b st) := by
  have hpage : ∀ q, u.page q = t.page q := fun q => by simp [State.page, h2.pages]
  have hbu : pageKind (u.page p).state < 2 := by rw [hpage, state]; exact hb
  have hsent := h1.toSentFrame.trans h2.toSentFrame
  refine ⟨((h1.toHoldFrame.trans h2.toHoldFrame).edited hbu n b st).guardLaw, fun hp hd hf => ?_, fun hp _ _ hr => ?_⟩
  · refine frozenLaw_edited (fun q => by rw [hpage, state]) (fun q m _ => hsent.slots q m) (fun j hj => ?_)
      (fun q m sl _ _ hfr => by rw [hsent.phase]; exact hfr) (fun j m hj hpl => ?_) hsent.queue hb n b st hd hf
    · rw [hsent.phase] at hj
      exact ⟨hj, hsent.placement j⟩
    · rw [hsent.placement] at hpl
      obtain ⟨sl, hsl, -⟩ := hp.placement j p m hpl
      have h3 := hsent.slots p m
      rw [hsl, Option.map_some, Option.map_eq_some_iff] at h3
      obtain ⟨sl', hsl', -⟩ := h3
      exact anyOccupied_of_slot hsl'
  · refine sendReady_edited hbu n b st (h2.sendReady (fun k hk ho => hK hp k hk ?_) (h1.sendReady hr))
    obtain ⟨q, m, sl, hs, hsl, he⟩ := ho
    obtain ⟨sl', hsl', he'⟩ := slot_of_slots (h1.slots q m) hsl
    rw [state] at hs
    exact ⟨q, m, sl', hs, hsl', he'.trans he⟩

theorem Steady.putTerms (h : Steady s t) {n : SlotId} {sl new : Slot} (hs : t.slotOf p n = some sl)
    (hst : new.story = sl.story) : Steady s (t.putSlot p n (some new)) := by
  refine h.setPage p (setSlot (t.page p) n (some new)) (fun m => ?_) rfl .inl
  simp only [setSlot, Vector.getElem_set]
  split
  · rename_i hm
    have hs : (t.page p).slots[m.val] = some sl := by simpa only [State.slotOf, Fin.val_inj.1 hm] using hs
    simp [hs, hst]
  · rfl

theorem state_putSlot (s : State) (p : PageId) (n : SlotId) (v : Option Slot) (q : PageId) :
    ((s.putSlot p n v).page q).state = (s.page q).state := by
  simp only [State.putSlot, page_setPage]
  split
  · rename_i hq; subst hq; rfl
  · rfl

theorem mem_remeasured {old : Page} {k : StoryId} (h : k ∈ s.remeasured p old) : ∃ n, (s.story k).placement = some (p, n) := by
  have hk := (mem_storiesWhere (by rfl) s k).1 h
  split at hk
  · rename_i q n hpl
    simp only [Bool.and_eq_true, beq_iff_eq] at hk
    exact ⟨n, by rw [hpl, hk.1]⟩
  · cases hk

theorem sound_regeometry (st : Station) (new : Page) (hs : new.slots = (s.page p).slots)
    (hst : new.state = (s.page p).state) (hb : pageKind (s.page p).state < 2) : Sound s (s.regeometry st p new) := by
  unfold State.regeometry
  split
  · exact (Sound.refl s).done
  · have h1 : Steady s (s.setPage p new) :=
      (Steady.refl s).setPage p new (fun n => by rw [hs]) (by rw [hst]) (by rw [hst]; exact .inl)
    have h2 : Remeasured (fun k => ∃ n, (s.story k).placement = some (p, n)) (s.setPage p new)
        ((s.setPage p new).staleAll ((s.setPage p new).remeasured p (s.page p))) :=
      (Remeasured.refl _ _).staleAll fun k hk => by simpa using mem_remeasured hk
    refine (sound_terms h1 h2 (fun q => ?_) hb (fun hp k ⟨n, hk⟩ => ?_) _ _ _).done
    · rw [page_setPage]
      split
      · rename_i hq; rw [hq, hst]
      · rfl
    · exact not_onSending_of_placed hp hb hk

theorem sound_writeWidth (s : State) (st : Station) (p : PageId) (sz : Size) (v : Word) :
    Sound s (s.writeWidth st p sz v) :=
  Sound.testing fun h => sound_regeometry st _ rfl rfl (planTests_kind h)

theorem sound_writeGutter (s : State) (st : Station) (p : PageId) (sz : Size) (v : Word) :
    Sound s (s.writeGutter st p sz v) :=
  Sound.testing fun h => sound_regeometry st _ rfl rfl (planTests_kind h)

theorem pages_allowanceChanged (s : State) (k : StoryId) (st : Station) : (s.allowanceChanged k st).pages = s.pages := by
  have h := butStories_allowanceChanged s k st
  simp only [butStories, Prod.mk.injEq] at h
  simp [h]

theorem sound_writeColumnDepth (s : State) (st : Station) (p : PageId) (sz : Size) (v : Word) :
    Sound s (s.writeColumnDepth st p sz v) := by
  refine Sound.testing fun h => ?_
  dsimp only
  split
  · exact (Sound.refl s).done
  · have h1 : Steady s (s.setPage p (lowerPage (s.page p) (clamp 400 8000 v.toNat))) := by
      refine (Steady.refl s).setPage p _ (fun n => ?_) rfl .inl
      simp only [lowerPage, Vector.getElem_map, Option.map_map]
      rfl
    have h2 := h1.foldl (loweredStories (s.page p) (clamp 400 8000 v.toNat)) fun u k hu => hu.allowanceChanged k st
    refine Sound.done (sound_terms h2 (.refl (fun _ => False) _) (fun q => ?_) (planTests_kind h) (fun _ _ h => h.elim) _ _ _)
    have hpg := foldl_keeps State.pages (fun u k => u.allowanceChanged k st) (fun u k => pages_allowanceChanged u k st)
      (loweredStories (s.page p) (clamp 400 8000 v.toNat)) (s.setPage p (lowerPage (s.page p) (clamp 400 8000 v.toNat)))
    rw [State.page, hpg]
    show ((s.setPage p (lowerPage (s.page p) _)).page q).state = _
    rw [page_setPage]
    split
    · rename_i hq; rw [hq]; rfl
    · rfl

/-- A story in a slot of a page that is not busy sits on no SENDING page. -/
theorem not_onSending_of_slot (hb : pageKind (s.page p).state < 2) {n : SlotId} {sl : Slot} (hsl : s.slotOf p n = some sl)
    (hp : PlanLaw s) (k : StoryId) (hk : k = sl.story) : ¬ OnSending s k := by
  subst hk
  exact not_onSending_of_placed hp hb (hp.slot p n sl hsl)

theorem sound_writeSpan (s : State) (st : Station) (p : PageId) (n : SlotId) (sz : Size) (v : Word) :
    Sound s (s.writeSpan st p n sz v) := by
  refine Sound.testing fun h => ?_
  split
  · exact sound_refuse _ _ _
  · rename_i sl hsl
    dsimp only
    split
    · exact (Sound.refl s).done
    · exact Sound.done (sound_terms (K := (· = sl.story)) (Steady.putTerms (.refl s) hsl (by rfl)) ((Remeasured.refl _ _).stale rfl)
        (state_putSlot s p n _) (planTests_kind h) (not_onSending_of_slot (planTests_kind h) hsl) _ _ _)

theorem sound_writeAllowance (s : State) (st : Station) (p : PageId) (n : SlotId) (sz : Size) (v : Word) :
    Sound s (s.writeAllowance st p n sz v) := by
  refine Sound.testing fun h => ?_
  split
  · exact sound_refuse _ _ _
  · rename_i sl hsl
    dsimp only
    split
    · exact (Sound.refl s).done
    · refine Sound.done (sound_terms (K := fun _ => False) ((Steady.putTerms (.refl s) hsl (by rfl)).allowanceChanged _ _)
        (.refl _ _) (fun q => ?_) (planTests_kind h) (fun _ _ h => h.elim) _ _ _)
      simp only [State.page, pages_allowanceChanged]
      exact state_putSlot s p n _ q

theorem sound_writePolicy (s : State) (st : Station) (p : PageId) (n : SlotId) (sz : Size) (v : Word) :
    Sound s (s.writePolicy st p n sz v) := by
  refine Sound.testing fun h => ?_
  split
  · exact sound_refuse _ _ _
  · split
    · exact sound_refuse _ _ _
    · rename_i sl hsl
      split
      · exact (Sound.refl s).done
      · exact Sound.done (sound_terms (K := fun _ => False) (Steady.putTerms (.refl s) hsl (by rfl)) (.refl _ _)
          (state_putSlot s p n _) (planTests_kind h) (fun _ _ h => h.elim) _ _ _)

/-! ## The story of a slot -/

/-- Slot `n` of page `p` takes another story, or none: the story it held is thawed, and nothing else of the plan changes. -/
structure Reslotted (p : PageId) (n : SlotId) (new : Option StoryId) (s t : State) : Prop extends HoldFrame s t where
  state : ∀ q, (t.page q).state = (s.page q).state
  dispatch : t.dispatch = s.dispatch
  slot : (t.slotOf p n).map Slot.story = new
  slots : ∀ q m, (q, m) ≠ (p, n) → t.slotOf q m = s.slotOf q m
  status : ∀ j, (t.story j).depth.status = (s.story j).depth.status
  thawed : ∀ j, (s.slotOf p n).map Slot.story = some j → (t.story j).phase ≠ .frozen
  phase : ∀ j, (s.slotOf p n).map Slot.story ≠ some j → (t.story j).phase = (s.story j).phase
  placement : ∀ j, (s.slotOf p n).map Slot.story ≠ some j → new ≠ some j → (t.story j).placement = (s.story j).placement

theorem Reslotted.frozenLaw {n : SlotId} {new : Option StoryId} (h : Reslotted p n new s t) (h2 : Remeasured K t u)
    (hn : ∀ k, new = some k → (s.story k).placement = none) (hb : pageKind (s.page p).state < 2) (x : Option SlotId)
    (b : Option StoryId) (st : Station) (hp : PlanLaw s) (hd : DispatchLaw s) (hf : FrozenLaw s) :
    FrozenLaw (u.edited p x b st) := by
  have hpage : ∀ q, u.page q = t.page q := fun q => by simp [State.page, h2.pages]
  have hslot : ∀ q m, u.slotOf q m = t.slotOf q m := fun q m => by simp [State.slotOf, hpage]
  have hold : ∀ j, (u.story j).phase = .frozen → (s.slotOf p n).map Slot.story ≠ some j := fun j hj he => by
    rw [h2.phase] at hj
    exact h.thawed j he hj
  have hfr : ∀ j, (u.story j).phase = .frozen → (s.story j).phase = .frozen ∧ (u.story j).placement = (s.story j).placement := by
    intro j hj
    have h1 := hold j hj
    rw [h2.phase, h.phase j h1] at hj
    refine ⟨hj, ?_⟩
    rw [h2.placement, h.placement j h1]
    intro he
    obtain ⟨q, m, hq, -⟩ := hf.frozen j hj
    rw [hn j he] at hq
    cases hq
  refine frozenLaw_edited (fun q => by rw [hpage, h.state]) (fun q m hq => ?_) hfr (fun q m sl hq hsl hfz => ?_)
    (fun j m hj hpl => ?_) (fun e he => by have := h2.queue e he; rwa [h.dispatch] at this) hb x b st hd hf
  · rw [hslot, h.slots q m fun he => hq (congrArg Prod.fst he)]
  · rw [h2.phase, h.phase, hfz]
    intro he
    obtain ⟨sl', hs', hk⟩ := Option.map_eq_some_iff.1 he
    have h1 := hp.slot p n sl' hs'
    rw [hk, hp.slot q m sl hsl] at h1
    exact hq (congrArg Prod.fst (Option.some.inj h1))
  · rw [(hfr j hj).2] at hpl
    obtain ⟨sl, hsl, he⟩ := hp.placement j p m hpl
    have hm : (p, m) ≠ (p, n) := fun hmn => by
      cases hmn
      exact hold j hj (by rw [hsl, ← he]; rfl)
    rw [hpage]
    exact anyOccupied_of_slot ((h.slots p m hm).trans hsl)

theorem Reslotted.sendReady {n : SlotId} {new : Option StoryId} (h : Reslotted p n new s t) (h2 : Remeasured K t u)
    (hK : ∀ k, K k → (s.slotOf p n).map Slot.story = some k ∨ new = some k)
    (hn : ∀ k, new = some k → (s.story k).placement = none ∧ (s.story k).phase ≠ .unused) (hb : pageKind (s.page p).state < 2)
    (x : Option SlotId) (b : Option StoryId) (st : Station) (hp : PlanLaw s) (hq : QueueLaw s) (hr : SendReady s) :
    SendReady (u.edited p x b st) := by
  have hpage : ∀ q, u.page q = t.page q := fun q => by simp [State.page, h2.pages]
  have hsp : isSending (t.page p).state = false := by rw [h.state]; exact not_isSending_of_kind hb
  have hne : ∀ {q}, isSending (t.page q).state = true → q ≠ p := fun hq he => by rw [he, hsp] at hq; cases hq
  have hslots : ∀ {q}, q ≠ p → ∀ m, t.slotOf q m = s.slotOf q m := fun hq m => h.slots _ m fun he => hq (congrArg Prod.fst he)
  have hready : SendReady t := by
    refine ⟨⟨fun q m sl hs hsl => ?_, fun j hj => ?_⟩, fun q m sl hsl => ?_⟩
    · rw [hslots (hne hs)] at hsl
      rw [h.state] at hs
      rw [h.holder, h.status]
      exact hr.sending q m sl hs hsl
    · rw [h.holder]
      have h1 : (s.slotOf p n).map Slot.story ≠ some j := fun he => h.thawed j he hj
      rw [h.phase j h1] at hj
      exact hr.frozen j hj
    · rw [h.status]
      by_cases hqm : (q, m) = (p, n)
      · cases hqm
        have hk : new = some sl.story := by rw [← h.slot, hsl]; rfl
        exact fun hnone => (hn _ hk).2 ((hq.none _).2 hnone)
      · rw [h.slots q m hqm] at hsl
        exact hr.used q m sl hsl
  refine sendReady_edited (by rw [hpage, h.state]; exact hb) x b st (h2.sendReady (fun k hk ho => ?_) hready)
  obtain ⟨q, m, sl, hs, hsl, rfl⟩ := ho
  rw [hslots (hne hs)] at hsl
  have hpl := hp.slot q m sl hsl
  rcases hK _ hk with h1 | h1
  · obtain ⟨sl', hs', he⟩ := Option.map_eq_some_iff.1 h1
    have h3 := hp.slot p n sl' hs'
    rw [he, hpl] at h3
    exact hne hs (congrArg Prod.fst (Option.some.inj h3))
  · rw [(hn _ h1).1] at hpl
    cases hpl

theorem Reslotted.sound {n : SlotId} {new : Option StoryId} (h : Reslotted p n new s t) (h2 : Remeasured K t u)
    (hK : ∀ k, K k → (s.slotOf p n).map Slot.story = some k ∨ new = some k)
    (hn : ∀ k, new = some k → (s.story k).placement = none ∧ (s.story k).phase ≠ .unused) (hb : pageKind (s.page p).state < 2)
    (x : Option SlotId) (b : Option StoryId) (st : Station) : Sound s (u.edited p x b st) := by
  have hbu : pageKind (u.page p).state < 2 := by
    have : u.page p = t.page p := by simp [State.page, h2.pages]
    rw [this, h.state]
    exact hb
  exact ⟨((h.toHoldFrame.trans h2.toHoldFrame).edited hbu x b st).guardLaw,
    fun hp hd hf => h.frozenLaw h2 (fun k hk => (hn k hk).1) hb x b st hp hd hf,
    fun hp _ hq hr => h.sendReady h2 hK hn hb x b st hp hq hr⟩

/-- A story taken from its slot is thawed and unplaced (R124, R125). -/
theorem story_unplace (s : State) (k j : StoryId) :
    (s.unplace k).story j = if j = k then { (s.unfreeze k).story k with placement := none } else s.story j := by
  unfold State.unplace
  rw [story_setStory]
  split
  · rfl
  · rename_i h
    rw [unfreeze_story, if_neg fun hc => h hc.1]

theorem HoldFrame.unplace (h : HoldFrame s t) (k : StoryId) : HoldFrame s (t.unplace k) := by
  refine (h.unfreeze k).trans ⟨fun j => ?_, fun j => ?_, fun j => ?_, fun _ => rfl, fun _ => rfl⟩ <;>
    · unfold State.unplace
      rw [story_setStory]
      split
      · rename_i hj; rw [hj]
      · rfl

theorem HoldFrame.placeIn (h : HoldFrame s t) (k : StoryId) (p : PageId) (n : SlotId) : HoldFrame s (t.placeIn k p n) := by
  refine h.trans ⟨fun j => ?_, fun j => ?_, fun j => ?_, fun _ => rfl, fun _ => rfl⟩ <;>
    · unfold State.placeIn
      rw [story_setStory]
      split
      · rename_i hj; rw [hj]
      · rfl

theorem phase_unplace (s : State) (k : StoryId) : ((s.unplace k).story k).phase ≠ .frozen := by
  rw [story_unplace, if_pos rfl]
  show ((s.unfreeze k).story k).phase ≠ .frozen
  rw [unfreeze_story]
  split
  · exact Phase.noConfusion
  · rename_i h
    exact fun hk => h ⟨rfl, hk⟩

theorem status_unplace (s : State) (k j : StoryId) : ((s.unplace k).story j).depth.status = (s.story j).depth.status := by
  rw [story_unplace]
  split
  · rename_i h
    rw [h]
    show ((s.unfreeze k).story k).depth.status = _
    rw [unfreeze_story]
    split <;> rfl
  · rfl

theorem phase_placeIn (s : State) (k : StoryId) (p : PageId) (n : SlotId) (j : StoryId) :
    ((s.placeIn k p n).story j).phase = (s.story j).phase ∧
      ((s.placeIn k p n).story j).depth.status = (s.story j).depth.status := by
  unfold State.placeIn
  rw [story_setStory]
  split
  · rename_i h; rw [h]; exact ⟨rfl, rfl⟩
  · exact ⟨rfl, rfl⟩

/-- A slot set after changes that leave the pages as they are. -/
theorem reslotted_putSlot {n : SlotId} (v : Option Slot) (hframe : HoldFrame s u) (hpages : u.pages = s.pages)
    (hdisp : u.dispatch = s.dispatch) (hstatus : ∀ j, (u.story j).depth.status = (s.story j).depth.status)
    (hthawed : ∀ j, (s.slotOf p n).map Slot.story = some j → (u.story j).phase ≠ .frozen)
    (hphase : ∀ j, (s.slotOf p n).map Slot.story ≠ some j → (u.story j).phase = (s.story j).phase)
    (hplace : ∀ j, (s.slotOf p n).map Slot.story ≠ some j → v.map Slot.story ≠ some j →
      (u.story j).placement = (s.story j).placement) : Reslotted p n (v.map Slot.story) s (u.putSlot p n v) := by
  have hpage : ∀ q, u.page q = s.page q := fun q => by simp [State.page, hpages]
  refine ⟨hframe.setPage p _, fun q => by rw [state_putSlot, hpage], hdisp, ?_, fun q m hm => ?_, hstatus, hthawed, hphase,
    hplace⟩
  · rw [slotOf_putSlot, if_pos rfl]
  · rw [slotOf_putSlot, if_neg hm]
    simp [State.slotOf, hpage]

theorem reslotted_remove {n : SlotId} {sl : Slot} (hs : s.slotOf p n = some sl) :
    Reslotted p n none s ((s.unplace sl.story).putSlot p n none) := by
  obtain ⟨h1, h2, -⟩ := unplace_fields s sl.story
  have hold : (s.slotOf p n).map Slot.story = some sl.story := by rw [hs]; rfl
  have hne : ∀ j, (s.slotOf p n).map Slot.story ≠ some j → j ≠ sl.story := fun j hj he => hj (by rw [hold, he])
  refine reslotted_putSlot none ((HoldFrame.refl s).unplace _) h1 h2 (fun j => status_unplace s _ j) (fun j hj => ?_)
    (fun j hj => ?_) fun j hj _ => ?_
  · rw [hold] at hj
    cases hj
    exact phase_unplace s _
  · rw [story_unplace, if_neg (hne j hj)]
  · rw [story_unplace, if_neg (hne j hj)]

theorem reslotted_place {n : SlotId} {k : StoryId} (v : Slot) (hk : v.story = k) (hs : s.slotOf p n = none) :
    Reslotted p n (some k) s ((s.placeIn k p n).putSlot p n (some v)) := by
  subst hk
  refine reslotted_putSlot (some v) ((HoldFrame.refl s).placeIn _ p n) rfl rfl (fun j => (phase_placeIn s _ p n j).2)
    (fun j hj => by simp [hs] at hj) (fun j _ => (phase_placeIn s _ p n j).1) fun j _ hj => ?_
  rw [(placeIn_story s v.story p n j).1, if_neg fun he => hj (by rw [he]; rfl)]

theorem reslotted_replace {n : SlotId} {sl : Slot} {k : StoryId} (v : Slot) (hk : v.story = k) (hs : s.slotOf p n = some sl) :
    Reslotted p n (some k) s (((s.unplace sl.story).placeIn k p n).putSlot p n (some v)) := by
  subst hk
  obtain ⟨h1, h2, -⟩ := unplace_fields s sl.story
  have hold : (s.slotOf p n).map Slot.story = some sl.story := by rw [hs]; rfl
  have hne : ∀ j, (s.slotOf p n).map Slot.story ≠ some j → j ≠ sl.story := fun j hj he => hj (by rw [hold, he])
  refine reslotted_putSlot (some v) (((HoldFrame.refl s).unplace _).placeIn _ p n) h1 h2 (fun j => ?_) (fun j hj => ?_)
    (fun j hj => ?_) fun j hj hnew => ?_
  · rw [(phase_placeIn _ _ p n j).2, status_unplace]
  · rw [hold] at hj
    cases hj
    rw [(phase_placeIn _ _ p n _).1]
    exact phase_unplace s _
  · rw [(phase_placeIn _ _ p n j).1, story_unplace, if_neg (hne j hj)]
  · rw [(placeIn_story _ v.story p n j).1, if_neg fun he => hnew (by rw [he]; rfl), story_unplace, if_neg (hne j hj)]

theorem sound_removeRequest (st : Station) (p : PageId) (n : SlotId) (hb : pageKind (s.page p).state < 2) :
    Sound s (s.removeRequest st p n) := by
  unfold State.removeRequest
  split
  · exact (Sound.refl s).done
  · rename_i sl hsl
    refine ((reslotted_remove hsl).sound ((Remeasured.refl (· = sl.story) _).stale rfl) (fun k hk => .inl ?_)
      (fun k hk => by cases hk) hb _ _ _).done
    rw [hsl, hk]
    rfl

theorem sound_placeTaken (st : Station) (p : PageId) (n : SlotId) (k : StoryId) (hsl : s.slotOf p n = none)
    (hn : ∀ j, some k = some j → (s.story j).placement = none ∧ (s.story j).phase ≠ .unused)
    (hb : pageKind (s.page p).state < 2) : Sound s (s.placeTaken st p n k) := by
  unfold State.placeTaken
  refine Sound.done (Reslotted.sound (K := (· = k)) (reslotted_place _ ?_ hsl) (Remeasured.stale (.refl _ _) ?_)
    (fun j hj => .inr ?_) hn hb _ _ _)
  · rfl
  · rfl
  · rw [hj]

theorem sound_replaceTaken (st : Station) (p : PageId) (n : SlotId) {sl : Slot} (k : StoryId) (hsl : s.slotOf p n = some sl)
    (hn : ∀ j, some k = some j → (s.story j).placement = none ∧ (s.story j).phase ≠ .unused)
    (hb : pageKind (s.page p).state < 2) : Sound s (s.replaceTaken st p n sl k) := by
  unfold State.replaceTaken
  refine Sound.done (Reslotted.sound (K := fun j => j = sl.story ∨ j = k) (reslotted_replace _ ?_ hsl)
    (Remeasured.staleAll (.refl _ _) fun j hj => ?_) (fun j hj => ?_) hn hb _ _ _)
  · rfl
  · unfold inOrder at hj
    split at hj <;> simp at hj <;> tauto
  · rw [hsl]
    exact hj.imp (fun h => by rw [h]; rfl) fun h => by rw [h]

theorem sound_placeRequest (st : Station) (p : PageId) (n : SlotId) (k : StoryId) (hb : pageKind (s.page p).state < 2) :
    Sound s (s.placeRequest st p n k) := by
  unfold State.placeRequest
  split
  · exact (Sound.refl s).done
  · refine Sound.testing fun h => ?_
    have hu : (s.story k).phase ≠ .unused := by simpa using h ((s.story k).phase == .unused, .badState) (by simp)
    have hpl : (s.story k).placement = none := by simpa using h ((s.story k).placement.isSome, .badState) (by simp)
    have hn : ∀ j, some k = some j → (s.story j).placement = none ∧ (s.story j).phase ≠ .unused := fun j hj => by
      cases hj
      exact ⟨hpl, hu⟩
    split
    · exact sound_placeTaken st p n k ‹_› hn hb
    · exact sound_replaceTaken st p n k ‹_› hn hb

theorem sound_writeStory (s : State) (st : Station) (p : PageId) (n : SlotId) (sz : Size) (v : Word) :
    Sound s (s.writeStory st p n sz v) := by
  refine Sound.testing fun h => ?_
  split
  · exact sound_removeRequest st p n (planTests_kind h)
  · split
    · exact sound_placeRequest st p n _ (planTests_kind h)
    · exact sound_refuse _ _ _

end Sys2Proof.Machine
end


section
/-! PROOFS. The remaining writes and the resets keep the laws of holds, of what was sent and of a send. -/

namespace Sys2Proof.Machine

open Safety

variable {s t u : State}

/-! ## PAGE COMMAND -/

/-- A page at rest joins the dispatch queue (R133). -/
theorem sound_queuePage (p : PageId) {r : Resting} (hr : (s.page p).state = .resting r) (hne : r ≠ .empty) :
    Sound s (s.queuePage p r) := by
  have h1 : Steady s (s.setPageState p (.queued r)) := (Steady.refl s).setPageState p _ (by rw [hr]; rfl) fun h => by cases h
  refine Sound.steady (t := { s.setPageState p (.queued r) with dispatch := { s.dispatch with
    queue := s.dispatch.queue ++ [{ page := p, stamp := s.pages.edition }] } })
    ⟨fun hg => HoldFrame.guardLaw (s := s.setPageState p (.queued r)) ⟨fun _ => .rfl, fun _ => rfl, fun _ => rfl, fun _ => rfl, fun _ => rfl⟩ (h1.guardLaw hg),
      fun _ _ hf => ?_, fun _ _ _ hr => ?_⟩ (Steady.refl _).advance
  · have ht := h1.frozenLaw hf
    refine ⟨ht.frozen, ht.sent, ht.empty, fun e he => ?_⟩
    rcases List.mem_append.1 he with he | he
    · exact ht.queued e he
    · rw [List.mem_singleton.1 he]
      show restingOf ((s.setPageState p (.queued r)).page p).state ≠ .empty
      rw [page_setPageState, if_pos rfl]
      exact hne
  · have ht := h1.sendReady hr
    exact ⟨⟨ht.sending, ht.frozen⟩, ht.used⟩

theorem sound_writeCommand (s : State) (st : Station) (p : PageId) (sz : Size) (v : Word) :
    Sound s (s.writeCommand st p sz v) := by
  refine Sound.testing fun _ => ?_
  split
  · unfold State.dispatchRequest
    split
    · exact sound_refuse _ _ _
    · rename_i r hne hr
      exact (sound_queuePage p hr hne).done
    · exact (Sound.refl s).done
  · split
    · unfold State.cancelRequest
      split
      · exact (Sound.refl s).done
      · exact ((Steady.refl s).cancelPage p st).done.sound
    · exact sound_refuse _ _ _

/-! ## Words of fonts, of the desk, of stations and of baskets -/

theorem Remeasured.releaseHeld {K : StoryId → Prop} (h : Remeasured K s t) : Remeasured K s t.releaseHeld := by
  unfold State.releaseHeld
  split
  · exact h.setMeasure _
  · exact h

theorem Steady.releaseHeld (h : Steady s t) : Steady s t.releaseHeld := by
  unfold State.releaseHeld
  split
  · exact h.setMeasure _
  · exact h

/-- A font is written only while no page is SENDING (R94). -/
theorem sound_writeFont (s : State) (st : Station) (f : FontId) (sz : Size) (w : FontWrite) :
    Sound s (s.writeFont st f sz w) := by
  refine Sound.testing fun _ => ?_
  split
  · exact ((Steady.refl s).releaseHeld.refuse st _).sound
  · rename_i hno
    split
    · exact (((Steady.refl s).setMeasure _).answer _ _).sound
    · have hm : Remeasured (fun _ => True) s (s.releaseHeld.setFont f (fontAfter (s.releaseHeld.font f) sz w)) :=
        (Remeasured.refl _ s).releaseHeld.setMeasure _
      exact Sound.done ((hm.staleAll fun _ _ => trivial).sound fun _ hd _ _ k _ ho => hno (ho.sendingHead hd))

/-- STANDARD MEASURE stales stories in no slot only (R96). -/
theorem sound_writeStandard (s : State) (st : Station) (sz : Size) (v : Word) : Sound s (s.writeStandard st sz v) := by
  refine Sound.testing fun _ => ?_
  dsimp only
  split
  · exact (Sound.refl s).done
  · have hm : Remeasured (fun k => (s.story k).placement = none) s
        { s with measure := { s.measure with standard := clamp 60 4092 v.toNat } } := (Remeasured.refl _ s).setMeasure _
    refine Sound.done ((hm.staleAll fun k hk => ?_).sound fun hp _ _ _ k hk => not_onSending hp hk)
    have := (mem_storiesWhere rfl _ k).1 hk
    simp only [Bool.and_eq_true, Option.isNone_iff_eq_none] at this
    exact this.2

theorem sound_writeEdition (s : State) (st : Station) (sz : Size) (v : Word) : Sound s (s.writeEdition st sz v) :=
  Sound.testing fun _ => Sound.done (Steady.sound (Steady.same (.refl s) (by rfl) (by rfl) (by exact fun _ h => h) (by exact fun _ => ⟨rfl, rfl⟩)))

theorem sound_writeHoldWait (s : State) (st : Station) (sz : Size) (v : Word) : Sound s (s.writeHoldWait st sz v) :=
  Sound.testing fun _ => Sound.done (Steady.sound (Steady.setDispatch (.refl s) _ (by exact fun _ h => h)))

theorem sound_writeEnables (s : State) (st : Station) (sz : Size) (v : Word) : Sound s (s.writeEnables st sz v) :=
  Sound.testing fun _ => Sound.done (Steady.sound (Steady.around (.refl s) (by rfl) (by rfl)))

theorem sameSigns_setReadIndex (s : State) (owner : Station) (v : Word) : SameSigns s (s.setReadIndex owner v) := by
  exact fun x => sameSigns_setRing s owner _ x

theorem sound_writeReadIndex (s : State) (st owner : Station) (sz : Size) (v : Word) :
    Sound s (s.writeReadIndex st owner sz v) :=
  Sound.testing fun _ => ((Steady.refl s).stations (butStations_setReadIndex _ _ _) (sameSigns_setReadIndex _ _ _)).done.sound

theorem sound_writeLimit (s : State) (st : Station) (b : BasketId) (sz : Size) (v : Word) :
    Sound s (s.writeLimit st b sz v) := Sound.testing fun _ => ((Steady.refl s).setBasket _ _).done.sound

theorem sound_writeWatchers (s : State) (st : Station) (b : BasketId) (k : Fin 4) (sz : Size) (v : Word) :
    Sound s (s.writeWatchers st b k sz v) := Sound.testing fun _ => ((Steady.refl s).setBasket _ _).done.sound

theorem sound_writeReadOnly (s : State) (st : Station) (sz : Size) : Sound s (s.writeReadOnly st sz) :=
  Sound.testing fun _ => sound_refuse _ _ _

theorem sound_writeRights (s : State) (st owner : Station) (sz : Size) (v : Word) : Sound s (s.writeRights st owner sz v) := by
  refine Sound.testing fun _ => ?_
  split
  · exact sound_refuse _ _ _
  · split
    · exact sound_refuse _ _ _
    · exact Sound.done (Steady.sound (Steady.stations (.refl s) (by rfl)
        (by exact fun x => sameSigns_setTerminal s (by rfl) (by rfl) x)))

/-! ## Holds that end together -/

/-- The terminals once a hold has ended (R23). -/
theorem terminal_loseHold (s : State) (k : StoryId) (v : TerminalId) : (s.loseHold k).terminal v =
    if (s.story k).holder = some (.terminal v) then
      { s.terminal v with holdCount := (s.terminal v).holdCount - 1 } else s.terminal v := by
  cases hk : (s.story k).holder with
  | none => rw [loseHold_free s k hk]; rfl
  | some st => rw [loseHold_holdMoved hk v]; simp only [Option.some.injEq]

/-- What ends a hold depends on what holds are (R23). -/
theorem HoldFrame.loseHold (h : HoldFrame s t) (k : StoryId) : HoldFrame (s.loseHold k) (t.loseHold k) := by
  have hstory : ∀ {β : Type} (f : Story → β) (_ : ∀ v, f { v with holder := none } = f v) (w : State) (j : StoryId),
      f ((w.loseHold k).story j) = f (w.story j) := by
    intro β f hf w j
    rw [loseHold_story]
    split
    · rename_i hj; rw [hf, hj]
    · rfl
  refine ⟨fun j => ?_, fun j => ?_, fun j => ?_, fun v => ?_, fun v => ?_⟩
  · rw [hstory Story.phase fun _ => rfl, hstory Story.phase fun _ => rfl]; exact h.used j
  · rw [loseHold_story, loseHold_story]
    split
    · rfl
    · exact h.holder j
  · rw [hstory Story.viewers fun _ => rfl, hstory Story.viewers fun _ => rfl]; exact h.viewers j
  · rw [terminal_loseHold, terminal_loseHold, h.holder]
    split <;> exact h.signedOn v
  · rw [terminal_loseHold, terminal_loseHold, h.holder]
    split
    · exact congrArg (· - 1) (h.holdCount v)
    · exact h.holdCount v

theorem HoldFrame.unhold (l : List StoryId) (h : HoldFrame s t) : HoldFrame (s.unhold l) (t.unhold l) := by
  induction l generalizing s t with
  | nil => exact h
  | cons k l ih => exact ih (h.loseHold k)

/-- The evaluations that releases cause change nothing of holds (R33, R34). -/
theorem holdFrame_releases (s : State) (l : List StoryId) : HoldFrame (s.unhold l) (l.foldl State.releaseHold s) := by
  induction l generalizing s with
  | nil => exact .refl s
  | cons k l ih => exact (((Steady.refl _).handEvent k).toHoldFrame.unhold l).trans (ih _)

theorem sendFrame_releases (s : State) (l : List StoryId) : SendFrame s (l.foldl State.releaseHold s) :=
  foldl_invariant (SendFrame s) State.releaseHold (fun _ k h => h.releaseHold k) l s (.refl s)

theorem guardLaw_releases (l : List StoryId) (hg : GuardLaw s) : GuardLaw (l.foldl State.releaseHold s) :=
  foldl_invariant GuardLaw State.releaseHold (fun _ k h => guardLaw_releaseHold k h) l s hg

/-! ## CONTROL -/

/-- A change of sign states only: a terminal is signed on, or one that holds and views nothing is signed off. -/
theorem guardLaw_signs (hstory : ∀ k, t.story k = s.story k)
    (hcount : ∀ v, (t.terminal v).holdCount = (s.terminal v).holdCount)
    (hon : ∀ v, (t.terminal v).signedOn = true ∨ (t.terminal v).signedOn = (s.terminal v).signedOn ∨
      ((∀ k, (s.story k).holder ≠ some (.terminal v)) ∧ ∀ k, ∀ x ∈ (s.story k).viewers, x.terminal ≠ v))
    (hg : GuardLaw s) : GuardLaw t := by
  obtain ⟨hv, hh⟩ := hg
  refine ⟨⟨fun k => ?_, fun k => ?_, fun k v hm => ?_, fun k v hm => ?_, fun k hk => ?_⟩,
    ⟨fun v => ?_, fun v => ?_, fun v hoff => ?_, fun k hk => ?_⟩⟩
  · rw [hstory]; exact hv.places k
  · rw [hstory]; exact hv.once k
  · rw [hstory] at hm
    rcases hon v.terminal with h | h | ⟨-, h⟩
    · exact h
    · rw [h]; exact hv.signedOn k v hm
    · exact absurd rfl (h k v hm)
  · rw [hstory] at hm ⊢; exact hv.holder k v hm
  · rw [hstory] at hk ⊢; exact hv.unused k hk
  · rw [hcount, heldCount_congr fun k => congrArg Story.holder (hstory k)]; exact hh.count v
  · rw [hcount]; exact hh.limit v
  · rw [hcount]
    rcases hon v with h | h | ⟨h, -⟩
    · rw [hoff] at h; cases h
    · exact hh.off v (h ▸ hoff)
    · rw [hh.count v]
      exact List.countP_eq_zero.2 fun k _ => by simpa using h k
  · rw [hstory] at hk ⊢; exact hh.unused k hk

/-- A sign-off drops the terminal from every viewer list (R103), and changes nothing else of an entry. -/
theorem dropViews_eq (s : State) (v : TerminalId) : ∃ S : Table Story, s.dropViews v = { s with stories := S } ∧
    ∀ j : StoryId, tableGet (fun _ => unusedStory) S j.val =
      { s.story j with viewers := (s.story j).viewers.filter fun x => x.terminal != v } := by
  have hfold : ∀ (l : List StoryId) (s : State), ∃ S : Table Story,
      l.foldl (fun u k => u.dropViewer k v) s = { s with stories := S } ∧ ∀ j : StoryId,
        tableGet (fun _ => unusedStory) S j.val =
          if j ∈ l then { s.story j with viewers := (s.story j).viewers.filter fun x => x.terminal != v } else s.story j := by
    intro l
    induction l with
    | nil => exact fun s => ⟨_, rfl, fun _ => rfl⟩
    | cons a l ih =>
      intro s
      obtain ⟨S, hS, hj⟩ := ih (s.dropViewer a v)
      refine ⟨S, hS, fun j => ?_⟩
      rw [hj, State.dropViewer, story_setStory]
      by_cases hja : j = a
      · subst hja
        by_cases hl : j ∈ l <;> simp [hl]
      · simp [hja]
  obtain ⟨S, hS, hj⟩ := hfold (s.viewedBy v) s
  refine ⟨S, hS, fun j => ?_⟩
  rw [hj]
  split
  · rfl
  · rename_i hmem
    rw [State.viewedBy, mem_storiesWhere (by rfl)] at hmem
    have : (s.story j).viewers.filter (fun x => x.terminal != v) = (s.story j).viewers :=
      List.filter_eq_self.2 fun x hx => by
        simp only [List.any_eq_true, not_exists, not_and] at hmem
        simpa using hmem x hx
    rw [this]

theorem story_dropViews (s : State) (v : TerminalId) (j : StoryId) : (s.dropViews v).story j =
    { s.story j with viewers := (s.story j).viewers.filter fun x => x.terminal != v } := by
  obtain ⟨S, hS, hj⟩ := dropViews_eq s v
  rw [hS]
  exact hj j

theorem dropViews_frame (s : State) (v : TerminalId) : s.dropViews v = { s with stories := (s.dropViews v).stories } := by
  obtain ⟨S, hS, -⟩ := dropViews_eq s v
  rw [hS]

theorem guardLaw_dropViewer (k : StoryId) (v : TerminalId) (hg : GuardLaw s) : GuardLaw (s.dropViewer k v) := by
  have hk : ((s.dropViewer k v).story k).viewers = (s.story k).viewers.filter fun x => x.terminal != v := by
    simp [State.dropViewer]
  have hset : ∀ {β : Type} (f : Story → β), (∀ w x, f { w with viewers := x } = f w) →
      ∀ j, f ((s.dropViewer k v).story j) = f (s.story j) := fun f hf j => by
    rw [State.dropViewer, story_setStory]
    split
    · rename_i hj; rw [hf, hj]
    · rfl
  refine Reviewed.guardLaw (k := k) ⟨fun j => by rw [hset Story.phase fun _ _ => rfl], hset Story.holder fun _ _ => rfl,
    fun j hj => by rw [State.dropViewer, story_setStory_ne _ _ hj], fun _ => ⟨rfl, rfl⟩⟩ ?_ ?_ ?_ ?_ hg <;> rw [hk]
  · exact (List.length_filter_le _ _).trans (hg.1.places k)
  · exact (hg.1.once k).sublist (List.filter_sublist.map _)
  · exact fun x hx => ⟨hg.1.signedOn k x (List.mem_of_mem_filter hx), hg.1.holder k x (List.mem_of_mem_filter hx)⟩
  · exact fun hu => by rw [hg.1.unused k hu]; rfl

theorem guardLaw_dropViews (v : TerminalId) (hg : GuardLaw s) : GuardLaw (s.dropViews v) :=
  foldl_invariant GuardLaw (fun u k => u.dropViewer k v) (fun _ k h => guardLaw_dropViewer k v h) _ s hg

theorem sendFrame_dropViews (s : State) (v : TerminalId) : SendFrame s (s.dropViews v) :=
  foldl_invariant (SendFrame s) (fun u k => u.dropViewer k v)
    (fun _ _ h => h.setStory _ _ rfl rfl rfl (.inr rfl)) _ s (.refl s)

/-- Once its holds are ended, a station holds nothing (R33). -/
theorem holder_releaseAll (s : State) (st : Station) (k : StoryId) : ((s.releaseAll st).story k).holder ≠ some st := by
  unfold State.releaseAll
  rw [(holdFrame_releases s (s.heldBy st)).holder, unhold_story]
  split
  · exact fun hh => by cases hh
  · rename_i hk
    exact fun hh => hk ((mem_storiesWhere rfl s k).2 (by simpa using hh))

theorem sound_signOff (s : State) (v : TerminalId) : Sound s (s.signOffTaken v) := by
  have hframe : SendFrame s (((s.releaseAll (.terminal v)).dropViews v).discardNotices (.terminal v)) :=
    ((sendFrame_releases s _).trans (sendFrame_dropViews _ v)).stations rfl
  refine sound_of_frames (fun hg => ?_) ((hframe.stations rfl).stations (butStations_refreshLines _))
  have hg1 : GuardLaw ((s.releaseAll (.terminal v)).dropViews v) := guardLaw_dropViews v (guardLaw_releases _ hg)
  refine guardLaw_signs (s := (s.releaseAll (.terminal v)).dropViews v) (fun k => rfl) (fun w => ?_) (fun w => ?_) hg1 <;>
    simp only [State.signOffTaken, terminal_refreshLines, terminal_setTerminal, terminal_discardNotices]
  · split
    · rename_i hw; rw [hw]
    · rfl
  · by_cases hw : w = v
    · refine .inr (.inr ⟨fun k => ?_, fun k x hx => ?_⟩) <;> rw [story_dropViews] at *
      · rw [hw]; exact holder_releaseAll s _ k
      · rw [hw]; simpa using (List.mem_filter.1 hx).2
    · exact .inr (.inl (by rw [if_neg hw]))

theorem sound_signOn (s : State) (v : TerminalId) : Sound s (s.signOnTaken v) := by
  refine sound_of_frames (guardLaw_signs (fun k => rfl) (fun w => ?_) fun w => ?_)
    (((SendFrame.refl s).stations rfl).stations (butStations_refreshLines _)) <;>
    simp only [State.signOnTaken, terminal_refreshLines, terminal_setTerminal]
  · split
    · rename_i hw; rw [hw]
    · rfl
  · split
    · exact .inl rfl
    · exact .inr (.inl rfl)

theorem sound_signTaken (s : State) (v : TerminalId) (b : Bool) : Sound s (s.signTaken v b) := by
  unfold State.signTaken
  split
  · exact (Sound.refl s).done
  · split
    · exact (sound_signOn s v).done
    · exact (sound_signOff s v).done

theorem sound_writeControl (s : State) (st owner : Station) (sz : Size) (v : Word) :
    Sound s (s.writeControl st owner sz v) := by
  refine Sound.testing fun _ => ?_
  split
  · exact sound_refuse _ _ _
  · split
    · exact sound_signTaken s _ true
    · split
      · exact sound_signTaken s _ false
      · exact sound_refuse _ _ _

/-! ## The resets -/

/-- With nobody signed on, no hold and no viewer, the law of holds stands. -/
theorem guardLaw_bare (hoff : ∀ v, (s.terminal v).holdCount = 0) (hh : ∀ k, (s.story k).holder = none)
    (hv : ∀ k, (s.story k).viewers = []) : GuardLaw s := by
  refine ⟨⟨fun k => ?_, fun k => ?_, fun k v h => ?_, fun k v h => ?_, fun k _ => hv k⟩,
    ⟨fun v => ?_, fun v => ?_, fun v _ => hoff v, fun k _ => hh k⟩⟩
  · simp [hv]
  · simp [hv]
  · rw [hv] at h; cases h
  · rw [hv] at h; cases h
  · rw [hoff]
    exact (List.countP_eq_zero.2 fun k _ => by simp [hh]).symm
  · simp [hoff]

theorem sendFrame_cleared (s : State) : SendFrame s s.cleared := by
  have h1 : SendFrame s s.resetStations := by
    obtain ⟨T, hT, -⟩ := resetStations_eq s
    rw [hT]
    exact (SendFrame.refl s).stations rfl
  have h2 : SendFrame s s.resetStations.emptyAllViewers :=
    foldl_invariant (SendFrame s) State.emptyViewers (fun _ _ h => h.setStory _ _ rfl rfl rfl (.inr rfl)) _ _ h1
  exact h2.trans ((Steady.refl _).setMeasure _).toSendFrame

theorem sound_busReset (s : State) : Sound s s.busReset := by
  obtain ⟨hterm, -, hstory⟩ := cleared_unhold s
  have hframe : SendFrame s s.busReset :=
    ((sendFrame_cleared s).trans (sendFrame_releases _ _)).stations (butStations_refreshLines _)
  refine sound_of_frames (fun _ => ?_) hframe
  have h1 : GuardLaw (s.cleared.unhold s.heldAfterClear) :=
    guardLaw_bare (fun v => by rw [hterm]; rfl) (fun k => by rw [hstory]) (fun k => by rw [hstory])
  have h2 := (holdFrame_releases s.cleared s.heldAfterClear).guardLaw h1
  exact ((Steady.refl _).around (inner_refreshLines _) rfl).guardLaw h2

theorem guardLaw_powerOn (s : State) (strap : BitVec 7) (present : Bool) : GuardLaw (s.powerOn strap present) :=
  guardLaw_bare (fun _ => rfl) (fun _ => rfl) (fun _ => rfl)

theorem frozenLaw_powerOn (s : State) (strap : BitVec 7) (present : Bool) : FrozenLaw (s.powerOn strap present) := by
  refine ⟨fun k h => ?_, fun p n sl _ h => ?_, fun p => ?_, fun e he => ?_⟩
  · rw [story_powerOn] at h; cases h
  · rw [slotOf_powerOn] at h; cases h
  · exact ⟨fun _ n => slotOf_powerOn s strap present p n, fun _ => rfl⟩
  · rw [dispatch_powerOn] at he; cases he

theorem sendLaw_powerOn (s : State) (strap : BitVec 7) (present : Bool) : SendLaw (s.powerOn strap present) := by
  refine ⟨fun p n sl _ h => ?_, fun k h => ?_⟩
  · rw [slotOf_powerOn] at h; cases h
  · rw [story_powerOn] at h; cases h

end Sys2Proof.Machine
end


section
/-! PROOFS. The events of the measure engine, of the dispatch engine and of the link keep the laws of holds, of what was sent and
of a send; the completion of a dispatch freezes stories that nobody holds (R39, R94, R145). -/

namespace Sys2Proof.Machine

open Safety

variable {s t u : State}

/-! ## The measure engine -/

/-- The head of the measure queue is STALE, so it sits on no SENDING page (R86, R94). -/
theorem sound_takePass (s : State) : Sound s s.takePass := by
  unfold State.takePass
  split
  · rename_i k q _ hq
    have h1 : Remeasured (· = k) s (s.setQueue q) := (Remeasured.refl _ s).setMeasure _
    have h2 : Remeasured (· = k) s ((s.setQueue q).setStatus k .measuring) := h1.setDepth rfl _ fun _ => by simp
    refine Remeasured.sound (K := (· = k)) (h2.setMeasure _) fun _ _ hl hs j hj ho => ?_
    have hst := (hl.stale k).1 (by rw [hq]; exact .head _)
    rw [← hj, ho.fresh hs] at hst
    cases hst
  · exact .refl s

theorem Steady.measureBlock (h : Steady s t) : Steady s t.measureBlock := by
  unfold State.measureBlock
  split
  · split
    · exact h
    · exact h.setMeasure _
  · exact h

/-- The story measured sits on no SENDING page (R94): what a pass posts is no part of a send. -/
theorem sound_passEnds {p : Pass} (he : s.measure.engine = .measuring p)
    (h : Remeasured (· = p.story) s t) : Sound s ((t.handEvent p.story).leaveMeasuring) := by
  refine (h.sound fun _ _ hl hs j hj ho => ?_).steady ((Steady.refl _).handEvent _).leaveMeasuring
  have hst := (QueueLaw_measuring_unique hl he p.story).2 rfl
  rw [← hj, ho.fresh hs] at hst
  cases hst

theorem sound_completePass (s : State) : Sound s s.completePass := by
  unfold State.completePass
  split
  · rename_i p he
    have h1 : Remeasured (· = p.story) s (s.postDepth p.story (s.finishPass p)) :=
      Remeasured.setDepth (K := (· = p.story)) (.refl _ s) rfl _ fun _ => by simp [postedDepth]
    exact sound_passEnds he (h1.steady ((Steady.refl _).evaluateOverset _ _) (by
        have hp := butStories_evaluateOverset (s.postDepth p.story (s.finishPass p)) p.story none
        simp only [butStories, Prod.mk.injEq] at hp
        simp [hp]))
  · exact .refl s

theorem sound_faultPass (s : State) : Sound s s.faultPass := by
  unfold State.faultPass
  split
  · rename_i p he
    have h1 : Remeasured (· = p.story) s (s.setStatus p.story .faulted) := 
      Remeasured.setDepth (K := (· = p.story)) (.refl _ s) rfl _ fun _ => by simp
    exact sound_passEnds he (h1.steady ((Steady.refl _).raiseAll _) (by
        obtain ⟨-, -, hpages, -⟩ := inner_fields (inner_of_butStations (butStations_raiseAll (s.setStatus p.story .faulted) _))
        exact hpages))
  · exact .refl s

theorem Steady.fontWaitExpiry (h : Steady s t) : Steady s t.fontWaitExpiry := by
  unfold State.fontWaitExpiry
  split
  · exact h.setMeasure _
  · exact h

/-! ## The completion of a dispatch -/

/-- The stories of a page, frozen (R145). -/
theorem story_freezeAll (l : List StoryId) (s : State) (k : StoryId) : (l.foldl State.freeze s).story k =
    if k ∈ l then { s.story k with phase := if (s.story k).phase = .live then .frozen else (s.story k).phase, closing := false }
    else s.story k := by
  induction l generalizing s with
  | nil => simp
  | cons a l ih =>
    rw [List.foldl_cons, ih, State.freeze, story_setStory]
    by_cases hk : k = a
    · subst hk
      by_cases hl : k ∈ l
      · simp only [hl, if_true]
        cases (s.story k).phase <;> simp
      · simp [hl]
    · simp [hk]

theorem freezeAll_frame (l : List StoryId) (s : State) :
    l.foldl State.freeze s = { s with stories := (l.foldl State.freeze s).stories } := by
  induction l generalizing s with
  | nil => rfl
  | cons a l ih =>
    rw [List.foldl_cons, ih]
    rfl

section Completion

variable (s : State) (e : Queued)

theorem story_completePage (k : StoryId) : (s.completePage e).story k =
    if k ∈ s.pageStories e.page then
      { s.story k with phase := if (s.story k).phase = .live then .frozen else (s.story k).phase, closing := false }
    else s.story k := by
  rw [← story_freezeAll]
  simp [State.completePage]

theorem page_completePage (p : PageId) : (s.completePage e).page p =
    if p = e.page then { s.page p with state := .resting .sent, lastResult := .sent, editionSent := e.stamp }
    else s.page p := by
  have hpage : ∀ q, ((s.pageStories e.page).foldl State.freeze s).page q = s.page q := fun q => by
    rw [freezeAll_frame]; rfl
  simp only [State.completePage, page_setDispatchEngine, page_leaveQueue, page_raise, page_setPage, hpage]
  split
  · rename_i h; rw [h]
  · rfl

theorem slotOf_completePage (p : PageId) (n : SlotId) : (s.completePage e).slotOf p n = s.slotOf p n := by
  simp only [State.slotOf, page_completePage]
  split <;> rfl

theorem queue_completePage : (s.completePage e).dispatch.queue = s.dispatch.queue.filter fun x => x.page != e.page := by
  have hdis : ((s.pageStories e.page).foldl State.freeze s).dispatch = s.dispatch := by rw [freezeAll_frame]
  simp [State.completePage, State.setDispatchEngine, State.leaveQueue, hdis]

theorem holdFrame_completePage : HoldFrame s (s.completePage e) := by
  have hset : ∀ {β : Type} (f : Story → β), (∀ w x, f { w with phase := x, closing := false } = f w) →
      ∀ j, f ((s.completePage e).story j) = f (s.story j) := fun f hf j => by
    rw [story_completePage]
    split
    · rw [hf]
    · rfl
  have hraise : ∀ (t : State) (n : Notice), t.stations.terminals = s.stations.terminals →
      SameSigns s (((t.raise .system n).leaveQueue e.page).setDispatchEngine .idle) := fun t n ht v =>
    ⟨(sameSigns_raise t .system n v).1.trans (sameSigns_of_terminals ht v).1,
      (sameSigns_raise t .system n v).2.trans (sameSigns_of_terminals ht v).2⟩
  have hsigns : SameSigns s (s.completePage e) := hraise _ _ (by rw [setPage_stations, freezeAll_frame])
  refine ⟨fun k => ?_, hset Story.holder fun _ _ => rfl, hset Story.viewers fun _ _ => rfl, fun v => (hsigns v).1,
    fun v => (hsigns v).2⟩
  rw [story_completePage]
  split
  · cases (s.story k).phase <;> simp
  · rfl

end Completion

/-- The stories of a page sent are FROZEN, and the page, which has stories, is SENT (R39, R120). -/
theorem frozenLaw_completePage {e : Queued} (hp : PlanLaw s) (he : e ∈ s.dispatch.queue) (hf : FrozenLaw s) :
    FrozenLaw (s.completePage e) := by
  have hresting : ∀ p, restingOf ((s.completePage e).page p).state = if p = e.page then .sent else restingOf (s.page p).state :=
    fun p => by rw [page_completePage]; split <;> rfl
  have hkeep : ∀ k, (s.story k).phase = .frozen → ((s.completePage e).story k).phase = .frozen := fun k hk => by
    rw [story_completePage]
    split
    · simp [hk]
    · exact hk
  have hplace : ∀ k, ((s.completePage e).story k).placement = (s.story k).placement := fun k => by
    rw [story_completePage]; split <;> rfl
  refine ⟨fun k hk => ?_, fun p n sl hs hsl => ?_, fun p => ?_, fun x hx => ?_⟩
  · by_cases hfr : (s.story k).phase = .frozen
    · obtain ⟨p, n, hpl, hr⟩ := hf.frozen k hfr
      refine ⟨p, n, by rw [hplace, hpl], ?_⟩
      rw [hresting]
      split
      · exact .inl rfl
      · exact hr
    · rw [story_completePage] at hk
      split at hk
      · rename_i hm
        obtain ⟨n, hpl⟩ := (mem_pageStories_placement hp _ _).1 hm
        exact ⟨e.page, n, by rw [hplace, hpl], .inl (by rw [hresting, if_pos rfl])⟩
      · exact absurd hk hfr
  · rw [slotOf_completePage] at hsl
    rw [hresting] at hs
    split at hs
    · rename_i hpe
      have hm : sl.story ∈ s.pageStories e.page := (mem_pageStories_placement hp _ _).2 ⟨n, by rw [hp.slot p n sl hsl, hpe]⟩
      have hu : (s.story sl.story).phase ≠ .unused := fun hu => by
        have := hp.unused _ hu
        rw [hp.slot p n sl hsl] at this
        cases this
      rw [story_completePage, if_pos hm]
      cases hph : (s.story sl.story).phase with
      | unused => exact absurd hph hu
      | live => rfl
      | frozen => rfl
    · exact hkeep _ (hf.sent p n sl hs hsl)
  · simp only [hresting, slotOf_completePage]
    split
    · rename_i hpe
      exact iff_of_false Resting.noConfusion fun h => hf.queued e he ((hf.empty _).2 (hpe ▸ h))
    · exact hf.empty p
  · rw [queue_completePage] at hx
    obtain ⟨hx, hne⟩ := List.mem_filter.1 hx
    rw [hresting, if_neg (by simpa using hne)]
    exact hf.queued x hx

/-- The stories frozen are those of the SENDING page, which nobody holds (R23, R94). -/
theorem sendReady_completePage {e : Queued} (hp : PlanLaw s) (hs : isSending (s.page e.page).state = true)
    (hr : SendReady s) : SendReady (s.completePage e) := by
  have hholder : ∀ k, ((s.completePage e).story k).holder = (s.story k).holder := (holdFrame_completePage s e).holder
  have hdepth : ∀ k, ((s.completePage e).story k).depth = (s.story k).depth := fun k => by
    rw [story_completePage]; split <;> rfl
  refine ⟨⟨fun p n sl hq hsl => ?_, fun k hk => ?_⟩, fun p n sl hsl => ?_⟩
  · rw [slotOf_completePage] at hsl
    rw [page_completePage] at hq
    split at hq
    · cases hq
    · rw [hholder, hdepth]
      exact hr.sending p n sl hq hsl
  · rw [hholder]
    rw [story_completePage] at hk
    split at hk
    · rename_i hm
      obtain ⟨n, hpl⟩ := (mem_pageStories_placement hp _ _).1 hm
      obtain ⟨sl, hsl, rfl⟩ := hp.placement _ _ _ hpl
      exact (hr.sending _ n sl hs hsl).1
    · exact hr.frozen k hk
  · rw [slotOf_completePage] at hsl
    rw [hdepth]
    exact hr.used p n sl hsl

theorem sound_complete {e : Queued} {q : List Queued} {x : SendState} (hq : s.dispatch.queue = e :: q)
    (hx : s.dispatch.engine = .sending x) : Sound s (s.complete e) := by
  refine Sound.steady (t := s.completePage e) ⟨(holdFrame_completePage s e).guardLaw,
    fun hp _ hf => frozenLaw_completePage hp (hq ▸ .head _) hf, fun hp hd _ hr => sendReady_completePage hp ?_ hr⟩
    (Steady.refl _).advance
  have h := hd.sending.1 ⟨x, hx⟩
  simp only [State.sendingHead, hq] at h
  by_contra hn
  simp [hn] at h

/-! ## The link -/

/-- A steady and lawful change outside the measure unit, before what keeps the laws. -/
theorem Sound.after {x : PhaseEffect} (hs : Steady s u) (hl : Lawful x s u) (hm : u.measure = s.measure) (h : Sound u t) :
    Sound s t := by
  have hpass : ∀ k, u.inPass k = s.inPass k := fun k => by simp only [State.inPass, hm]
  refine ⟨fun hg => h.guard (hs.guardLaw hg), fun hp hd hf => h.frozen (hl.plan hp) (hl.dispatch hp hd) (hs.frozenLaw hf),
    fun hp hd hq hr => h.send (hl.plan hp) (hl.dispatch hp hd) ⟨?_, fun k => ?_, fun k => ?_, fun k => ?_⟩ (hs.sendReady hr)⟩
  · rw [hm]; exact hq.once
  · rw [hm, hs.status]; exact hq.stale k
  · rw [hpass, hs.status]; exact hq.measuring k
  · rw [hs.used, hs.status]; exact hq.none k

/-- A change of the link before what keeps the laws. -/
theorem Sound.afterLink {l : Link} {x : PhaseEffect} (hl : Lawful x s (s.setLink l)) (h : Sound (s.setLink l) t) : Sound s t :=
  h.after ((Steady.refl s).setLink l) hl rfl

theorem sound_nextFrame (s : State) : Sound s s.nextFrame := by
  rcases nextFrame_cases s with h | ⟨e, q, x, hq, hx, -, h⟩
  · exact h.sound
  · rw [h]; exact sound_complete hq hx

theorem sound_frameDone (s : State) (f : Frame) : Sound s (s.frameDone f) := by
  unfold State.frameDone
  split
  · exact (Steady.refl s).abortEnd.sound
  · exact sound_nextFrame s

theorem sound_takeAck (s : State) : Sound s s.takeAck := by
  unfold State.takeAck
  split
  · exact (sound_frameDone s.settled _).afterLink (Lawful.refl .none s).settled
  · exact .refl s

theorem sound_takeWait (s : State) : Sound s s.takeWait := by
  unfold State.takeWait
  split
  · exact (sound_frameDone s.waitSet _).afterLink (Lawful.refl .none s).waitSet
  · exact .refl s

theorem sound_takeIncoming (s : State) (f : Incoming) : Sound s (s.takeIncoming f) := by
  cases f with
  | ability m l => exact ((Steady.refl s).takeAbility m l).sound
  | ack => exact sound_takeAck s
  | nak r => exact ((Steady.refl s).takeNak r).sound
  | wait => exact sound_takeWait s
  | ready => exact (Steady.refl s).takeReady.sound

theorem sound_frameArrives (s : State) (f : Incoming) : Sound s (s.frameArrives f) := by
  unfold State.frameArrives
  split
  · exact .refl s
  · exact (sound_takeIncoming _ f).afterLink (Lawful.refl .none s).hunt

theorem sound_byteArrives (s : State) (b : Byte) : Sound s (s.byteArrives b) := by
  have link : ∀ l, Sound s (s.setLink l) := fun l => ((Steady.refl s).setLink l).sound
  unfold State.byteArrives
  split
  · exact .refl s
  · split
    · exact link _
    · exact .refl s
  · unfold State.byteWithin
    split
    · exact link _
    · split
      · split
        · exact (sound_takeIncoming _ _).afterLink (Lawful.refl .none s).hunt
        · exact link _
      · exact link _

/-! ## Ring writes -/

theorem sameSigns_ringWriteStart (s : State) : SameSigns s s.ringWriteStart := by
  have hover : ∀ (t : State) (st : Station), SameSigns t (t.setOverrun st) := fun t st => sameSigns_setRing t st _
  unfold State.ringWriteStart
  split
  · split
    · split
      · exact fun _ => ⟨rfl, rfl⟩
      · exact hover s.dropHead _
    · exact fun _ => ⟨rfl, rfl⟩
  · exact fun _ => ⟨rfl, rfl⟩

theorem terminals_ringWriteStored (s : State) (w : RingWrite) (f : Bool) :
    (s.ringWriteStored w f).stations.terminals = s.stations.terminals := by
  cases f with
  | true =>
    show (s.storeFaulted _ _).stations.terminals = _
    unfold State.storeFaulted
    rfl
  | false =>
    generalize hb : s.ringWriteBytes w = bs
    simp only [State.ringWriteStored, hb, Bool.false_eq_true, if_false]
    rfl

theorem Steady.ringWriteComplete (h : Steady s t) (f : Bool) : Steady s (t.ringWriteComplete f) := by
  unfold State.ringWriteComplete
  split
  · exact h
  · rename_i w _
    have h1 := h.around (inner_ringWriteStored t w f) (terminals_ringWriteStored t w f)
    split
    · exact h1.stations (by simp) fun _ => ⟨rfl, rfl⟩
    · split
      · exact h1.stations (by simp) fun x => sameSigns_setRing (((t.ringWriteStored w f).setRingWrite none).dropHead) _ _ x
      · exact h1.stations (by simp [State.advanceRing]) fun x =>
          sameSigns_setRing (((t.ringWriteStored w f).setRingWrite none).dropHead) _ _ x

end Sys2Proof.Machine
end


section
/-! PROOFS. Every step keeps the laws of holds and viewers, of what was sent and of a send (R23, R39, R94, R99). -/

namespace Sys2Proof.Machine

open Safety

variable {s t u : State}

/-- A write to a live word, by the word's own entry. -/
theorem sound_writeLive (s : State) (st : Station) (sz : Size) (v : Word) (w : LiveWord) : Sound s (s.writeLive st sz v w) := by
  cases w with
  | hold k => exact sound_writeHold s st k sz v
  | route k => exact sound_writeRoute s st k sz _
  | state k => exact sound_writeState s st k sz v
  | slotStory p n => exact sound_writeStory s st p n sz v
  | control o => exact sound_writeControl s st o sz v
  | rights o => exact sound_writeRights s st o sz v
  | readIndex o => exact sound_writeReadIndex s st o sz v
  | limit b => exact sound_writeLimit s st b sz v
  | watchers b k => exact sound_writeWatchers s st b k sz v
  | columnWidth p => exact sound_writeWidth s st p sz v
  | gutter p => exact sound_writeGutter s st p sz v
  | columnDepth p => exact sound_writeColumnDepth s st p sz v
  | pageCommand p => exact sound_writeCommand s st p sz v
  | span p n => exact sound_writeSpan s st p n sz v
  | allowance p n => exact sound_writeAllowance s st p n sz v
  | policy p n => exact sound_writePolicy s st p n sz v
  | fontSize f => exact sound_writeFont s st f sz _
  | fontLeading f => exact sound_writeFont s st f sz _
  | widths f c => exact sound_writeFont s st f sz _
  | edition => exact sound_writeEdition s st sz v
  | standardMeasure => exact sound_writeStandard s st sz v
  | holdWait => exact sound_writeHoldWait s st sz v
  | attentionEnable => exact sound_writeEnables s st sz v
  | _ => exact sound_writeReadOnly s st sz

theorem sound_writeWindow (s : State) (st : Station) (off : Nat) (sz : Size) (data : Data) (f : Bool) :
    Sound s (s.writeWindow st off sz data f) := by
  unfold State.writeWindow
  split
  · exact sound_refuse _ _ _
  · split
    · exact sound_writeText s st _ _ sz data f
    · exact sound_writeHeaderPlain s st _ _ sz data f
    · exact sound_writeRing s st _ _ sz data f
    · exact sound_writePlain s st _ sz data f
    · exact sound_writeLive s st sz _ _

theorem sound_readWindow (s : State) (st : Station) (off : Nat) (sz : Size) (f : Bool) :
    Sound s (s.readWindow st off sz f) := by
  unfold State.readWindow
  split
  · exact sound_readText s st _ _ sz f
  · exact sound_readWords s st off sz f

theorem Sound.asStation {code : StationCode} {op : Station → State} (h : ∀ st, Sound s (op st)) :
    Sound s (asStation code s op) := by
  unfold Machine.asStation
  split
  · exact h _
  · exact Steady.sound (Steady.around (.refl s) (by rfl) (by rfl))

theorem sound_access (s : State) (code : StationCode) (w : Bool) (addr : Word) (sz : Size) (data : Data) (f : Bool) :
    Sound s (s.access code w addr sz data f) := by
  unfold State.access
  split
  · cases w with
    | false =>
      simp only [Bool.false_eq_true, if_false]
      exact Sound.asStation fun st => sound_readWindow s st _ sz f
    | true =>
      simp only [if_true]
      exact Sound.asStation fun st => sound_writeWindow s st _ sz data f
  · exact sound_outside s w _ sz data f

/-- Every command but POWER_ON. -/
theorem exec_sound (c : Instr) (h : exec c s = .next t) (hc : ∀ strap present, c ≠ .powerOn strap present) : Sound s t := by
  cases c with
  | powerOn strap present => exact absurd rfl (hc strap present)
  | textRead code k pos sz f => cases next_of_aligned h; exact .asStation fun st => sound_readText s st k _ sz f
  | textWrite code k pos sz data f => cases next_of_aligned h; exact .asStation fun st => sound_writeText s st k _ sz data f
  | headerPlainWrite code k off sz data f =>
    cases next_of_aligned h; exact .asStation fun st => sound_writeWindow s st _ sz data f
  | plainPassThrough code w addr sz data f => cases next_of_aligned h; exact sound_access s code w addr sz data f
  | accessOutsideWindow code w addr sz data f => cases next_of_aligned h; exact sound_access s code w addr sz data f
  | liveWordWrite code addr sz data f => cases next_of_aligned h; exact sound_access s code true addr sz data f
  | ringSlotWrite code owner off sz data f =>
    cases next_of_aligned h; exact .asStation fun st => sound_writeRing s st owner _ sz data f
  | claim code k sz => cases next_inj h; exact .asStation fun st => sound_writeHold s st k sz _
  | release code k sz => cases next_inj h; exact .asStation fun st => sound_writeHold s st k sz _
  | breakHold code k sz => cases next_inj h; exact .asStation fun st => sound_writeHold s st k sz _
  | routeToBasket code k sz b p => cases next_inj h; exact .asStation fun st => sound_writeRoute s st k sz _
  | routeToNone code k sz => cases next_inj h; exact .asStation fun st => sound_writeRoute s st k sz _
  | purge code k sz => cases next_inj h; exact .asStation fun st => sound_writeRoute s st k sz _
  | reopen code k sz => cases next_inj h; exact .asStation fun st => sound_writeState s st k sz _
  | limitWrite code b sz v => cases next_inj h; exact .asStation fun st => sound_writeLimit s st b sz v
  | watchersWrite code b k sz v => cases next_inj h; exact .asStation fun st => sound_writeWatchers s st b k sz v
  | sizeWrite code f sz v => cases next_inj h; exact .asStation fun st => sound_writeFont s st f sz _
  | leadingWrite code f sz v => cases next_inj h; exact .asStation fun st => sound_writeFont s st f sz _
  | widthTableWrite code f c sz v => cases next_of_aligned h; exact .asStation fun st => sound_writeFont s st f sz _
  | standardMeasureWrite code sz v => cases next_inj h; exact .asStation fun st => sound_writeStandard s st sz v
  | editionWrite code sz v => cases next_inj h; exact .asStation fun st => sound_writeEdition s st sz v
  | holdWaitWrite code sz v => cases next_inj h; exact .asStation fun st => sound_writeHoldWait s st sz v
  | attentionEnableWrite code sz v => cases next_inj h; exact .asStation fun st => sound_writeEnables s st sz v
  | noticeReadIndexWrite code o sz v => cases next_inj h; exact .asStation fun st => sound_writeReadIndex s st o sz v
  | signOn code o sz => cases next_inj h; exact .asStation fun st => sound_writeControl s st o sz _
  | signOff code o sz => cases next_inj h; exact .asStation fun st => sound_writeControl s st o sz _
  | rightsWrite code o sz v => cases next_inj h; exact .asStation fun st => sound_writeRights s st o sz v
  | columnWidthWrite code p sz v => cases next_inj h; exact .asStation fun st => sound_writeWidth s st p sz v
  | gutterWrite code p sz v => cases next_inj h; exact .asStation fun st => sound_writeGutter s st p sz v
  | columnDepthWrite code p sz v => cases next_inj h; exact .asStation fun st => sound_writeColumnDepth s st p sz v
  | place code p n sz k => cases next_inj h; exact .asStation fun st => sound_writeStory s st p n sz _
  | remove code p n sz => cases next_inj h; exact .asStation fun st => sound_writeStory s st p n sz _
  | spanWrite code p n sz v => cases next_inj h; exact .asStation fun st => sound_writeSpan s st p n sz v
  | allowanceWrite code p n sz v => cases next_inj h; exact .asStation fun st => sound_writeAllowance s st p n sz v
  | policyWrite code p n sz v => cases next_inj h; exact .asStation fun st => sound_writePolicy s st p n sz v
  | dispatch code p sz => cases next_inj h; exact .asStation fun st => sound_writeCommand s st p sz _
  | cancel code p sz => cases next_inj h; exact .asStation fun st => sound_writeCommand s st p sz _
  | linkStatusRead code off sz f => cases next_of_aligned h; exact .asStation fun st => sound_readWords s st _ sz f
  | measurePassTaken => cases next_inj h; exact sound_takePass s
  | measurePassCompletion => cases next_inj h; exact sound_completePass s
  | measureFault => cases next_inj h; exact sound_faultPass s
  | fontWaitExpiry => cases next_inj h; exact (Steady.refl s).fontWaitExpiry.sound
  | holdWaitExpiry => cases next_inj h; exact (Steady.refl s).holdWaitExpiry.sound
  | sendTextRead f => cases next_inj h; exact ((Steady.refl s).sendTextRead f).sound
  | ringWriteStart =>
    cases next_inj h; exact ((Steady.refl s).stations (butStations_ringWriteStart s) (sameSigns_ringWriteStart s)).sound
  | ringWriteComplete f => cases next_inj h; exact ((Steady.refl s).ringWriteComplete f).sound
  | typesetterPresentHigh => cases next_inj h; exact (Steady.refl s).presentHigh.sound
  | typesetterPresentLow => cases next_inj h; exact (Steady.refl s).presentLow.sound
  | trainingTimerExpiry => cases next_inj h; exact (Steady.refl s).trainingExpiry.sound
  | typesetterAbility m l => cases next_inj h; exact sound_frameArrives s _
  | ack => cases next_inj h; exact sound_frameArrives s _
  | nak r => cases next_inj h; exact sound_frameArrives s _
  | wait => cases next_inj h; exact sound_frameArrives s _
  | ready => cases next_inj h; exact sound_frameArrives s _
  | waitTimerExpiry => cases next_inj h; exact (Steady.refl s).waitExpiry.sound
  | replyTimerExpiry => cases next_inj h; exact (Steady.refl s).replyExpiry.sound
  | tryEnd => cases next_inj h; exact (Steady.refl s).tryEnd.sound
  | receiverGapExpiry => cases next_inj h; exact (Steady.refl s).gapExpiry.sound
  | busReset => cases next_inj h; exact sound_busReset s
  | incomingByte b => cases next_inj h; exact sound_byteArrives s b
  | measureTextRead => cases next_inj h; exact (Steady.refl s).measureBlock.sound
  | timebaseTick => cases next_inj h; exact Steady.sound (Steady.around (.refl s) (by rfl) (by rfl))
  | partAbilityEnd => cases next_inj h; exact (Steady.refl s).abilityEnd.sound

/-- A step idles, powers the part on, or keeps the laws. -/
theorem step_sound (h : step s = .next t) : t = s ∨ (∃ u strap present, t = State.powerOn u strap present) ∨ Sound s t := by
  unfold step at h
  split at h
  · exact .inl (next_inj h).symm
  · rename_i c rest _
    by_cases hc : ∀ strap present, c ≠ .powerOn strap present
    · have hs : Steady s { s with pending := rest } := (Steady.refl s).around rfl rfl
      exact .inr (.inr (Sound.after hs ((Lawful.refl .none s).around rfl) rfl (exec_sound c h hc)))
    · push Not at hc
      obtain ⟨strap, present, rfl⟩ := hc
      exact .inr (.inl ⟨_, strap, present, (next_inj h).symm⟩)

/-- Settles O8: a hold is given and ended together with its count, and a viewer list changes within R99. -/
theorem stepsKeepViewerAndHoldLaws : Obligations.StepsKeepViewerAndHoldLaws := by
  intro s t hs h
  rcases step_sound h with rfl | ⟨u, strap, present, rfl⟩ | hx
  · exact hs
  · exact guardLaw_powerOn u strap present
  · exact hx.guard hs

/-- Settles O11: stories freeze with their page, and thaw with an edit or a reopening that makes the page CHANGED. -/
theorem stepsKeepFrozenLaw : Obligations.StepsKeepFrozenLaw := by
  intro s t ⟨hp, hd⟩ hs h
  rcases step_sound h with rfl | ⟨u, strap, present, rfl⟩ | hx
  · exact hs
  · exact frozenLaw_powerOn u strap present
  · exact hx.frozen hp hd hs

/-- Settles O12: a page enters SENDING only when it is ready, and its stories are closing from then on. -/
theorem stepsKeepSendLaw : Obligations.StepsKeepSendLaw := by
  intro s t ⟨hp, hd, hq⟩ hs h
  rcases step_sound h with rfl | ⟨u, strap, present, rfl⟩ | hx
  · exact hs
  · exact sendLaw_powerOn u strap present
  · exact (hx.send hp hd hq ⟨hs, slotsUsed_of_laws hp hq⟩).toSendLaw

end Sys2Proof.Machine
end


section
/-! PROOFS. The laws at reset: the reset state is the one power-on leaves with the strap at 0 and no typesetter present. -/

namespace Sys2Proof.Machine

open Safety

theorem terminal_reset (u : TerminalId) : State.reset.terminal u = offTerminal := rfl

theorem ring_reset (st : Station) : State.reset.ring st = emptyRing := by cases st <;> rfl

theorem canonical_reset : Canonical State.reset := ⟨rfl, rfl, rfl, rfl, fun _ => rfl, rfl, rfl⟩

theorem inSpace_reset : InSpace State.reset :=
  ⟨fun c h => absurd h List.not_mem_nil, fun w h => by cases h⟩

theorem ringLaw_reset : RingLaw State.reset :=
  ⟨fun st => by rw [ring_reset]; decide, fun u _ => by rw [terminal_reset]; rfl, fun w h => by cases h⟩

theorem outgoingLaw_reset : OutgoingLaw State.reset := ⟨Nat.zero_le _, fun _ h => absurd h List.not_mem_nil⟩

theorem lineLaw_reset : LineLaw State.reset := by
  refine ⟨fun g => iff_of_false (by simp [State.reset]) ?_, iff_of_false (by simp [State.reset]) (by decide)⟩
  rintro ⟨-, u, hon, -⟩
  rw [terminal_reset] at hon
  cases hon

theorem basketLaw_reset : BasketLaw State.reset := by
  have hb : ∀ b, State.reset.basket b = emptyBasket := fun _ => rfl
  refine ⟨fun b => ?_, fun b => ?_, fun b => ?_, fun b => ?_, fun b e he => ?_, nofun, fun _ _ => rfl⟩ <;> rw [hb] at *
  · exact List.nodup_nil
  · exact List.Pairwise.nil
  · decide
  · decide
  · cases he

theorem linkLaw_reset : LinkLaw State.reset where
  training := by decide
  wait := by decide
  gap := by decide
  notUp _ := ⟨rfl, rfl⟩
  down _ := ⟨rfl, rfl⟩
  tries := nofun
  reply := nofun
  current := nofun
  single := by decide
  quiet _ := rfl
  sending := nofun
  aborting := nofun

/-- Settles O3: the laws that hold after a power-on hold at reset, and those of the stations, of the baskets and of the link speak of
empty records. -/
theorem lawsHoldAtReset : Obligations.LawsHoldAtReset := by
  obtain ⟨hviewer, hhold⟩ := guardLaw_powerOn State.reset 0 false
  obtain ⟨hqueue, hfont⟩ := queueLaw_powerOn State.reset 0 false
  exact ⟨canonical_reset, inSpace_reset, ringLaw_reset, outgoingLaw_reset, lineLaw_reset, planLaw_powerOn State.reset 0 false,
    basketLaw_reset, hviewer, hhold, hfont, hqueue, dispatchLaw_powerOn State.reset 0 false,
    frozenLaw_powerOn State.reset 0 false, sendLaw_powerOn State.reset 0 false, linkLaw_reset,
    rangeLaw_powerOn State.reset 0 false⟩

end Sys2Proof.Machine
end


section
/-! PROOFS. Releases and breaks (R29, R31), and what they and a measure fault hand to a WAITING page (R91, R138, R139). -/

namespace Sys2Proof.Machine

open Safety

variable {s t u : State} {code : StationCode} {st : Station} {k : StoryId} {e : Queued} {r : Resting}

/-! ## The requests -/

/-- A release by a signed-on station, once R22's tests are passed. -/
theorem exec_release_word (hst : stationOf code = some st) (hon : s.signedOn st = true) :
    exec (.release code k .word) s = .next (s.releaseRequest st k) := by
  rw [exec_release hst, writeHold_eq, if_neg (code_ne_stationCode (by decide) st), if_pos rfl]
  simp [hon, badSize]

/-- A break by the system station, once R22's and R31's tests are passed. -/
theorem exec_break_word : exec (.breakHold 127#7 k .word) s =
    .next (match (s.story k).holder with | none => s.done | some old => s.breakTaken k old) := by
  rw [exec_breakHold (st := .system) (by rfl), writeHold_eq, if_neg (code_ne_stationCode (by decide) _),
    if_neg (show breakCode ≠ noneCode by decide), if_pos rfl]
  simp only [State.breakRequest, badSize, isTerminal, State.signedOn, testing_cons, testing_nil]
  rfl

/-- A hold that ended: what the state is then. -/
theorem loseHold_ended (h : (s.story k).holder = some st) :
    (s.loseHold k).done = { s with
      bus := doneBus, stories := (s.loseHold k).stories
      stations := { s.stations with terminals := (s.loseHold k).stations.terminals } } ∧
    (s.loseHold k).story k = { s.story k with holder := none } ∧ SameStoriesBut k s (s.loseHold k) ∧
    holdMoved st (· - 1) s (s.loseHold k) ∧ SameMemory s (s.loseHold k) := by
  refine ⟨congrArg State.done (loseHold_frame s k), by rw [loseHold_story, if_pos rfl],
    fun j hj => by rw [loseHold_story, if_neg hj], loseHold_holdMoved h, fun a => ?_⟩
  rw [loseHold_frame]
  rfl

theorem signedOn_loseHold (s : State) (k : StoryId) (st : Station) : (s.loseHold k).signedOn st = s.signedOn st := by
  cases st with
  | system => rfl
  | terminal v =>
    show ((s.loseHold k).terminal v).signedOn = (s.terminal v).signedOn
    rw [terminal_loseHold]
    split <;> rfl

/-- Settles O30: the hold ends, a break raises HOLD-BROKEN, and the event is handed to the dispatch engine. -/
theorem releaseAndBreakEndTheHold : Obligations.ReleaseAndBreakEndTheHold := by
  intro s k
  refine ⟨fun code st hst hon => ⟨fun hh => ?_, fun hh => ?_⟩, fun hh => ?_, fun old hh hon hroom => ?_⟩
  · rw [exec_release_word hst hon, State.releaseRequest, if_pos hh]
    obtain ⟨hframe, hk, hne, hmoved, hmem⟩ := loseHold_ended hh
    exact ⟨_, (s.loseHold k).done, rfl, handed_done (handed_handEvent _ k), hframe, hk, hne, hmoved, hmem⟩
  · rw [exec_release_word hst hon, State.releaseRequest, if_neg hh]
    rfl
  · rw [exec_break_word, hh]
    rfl
  · rw [exec_break_word, hh]
    obtain ⟨-, hk, hne, hmoved, hmem⟩ := loseHold_ended hh
    have hout : (s.loseHold k).stations.outgoing = s.stations.outgoing := by rw [loseHold_frame]
    have hraise := raise_taken (s.loseHold k) old { s.storyNotice .holdBroken 0 k with cause := some .system }
      (by rw [signedOn_loseHold]; exact hon) (by rw [hout]; exact hroom)
    refine ⟨_, ((s.loseHold k).raise old { s.storyNotice .holdBroken 0 k with cause := some .system }).done, rfl,
      handed_done (handed_handEvent _ k), ?_⟩
    rw [hraise]
    refine ⟨?_, hk, hne, hmoved, hmem⟩
    rw [loseHold_frame]
    rfl

/-! ## The pages they evaluate -/

/-- The lowest occupied slot heads the list of the occupied ones. -/
theorem occupied_head {p : Page} {n : SlotId} {sl : Slot} (hn : p.slots[n.val] = some sl)
    (hlt : ∀ m : SlotId, m < n → p.slots[m.val] = none) : (occupied p).head? = some (n, sl) := by
  have hne : occupied p ≠ [] := List.ne_nil_of_mem ((mem_occupied p n sl).2 hn)
  obtain ⟨m, sm, hhead, hm, hlt'⟩ := exists_lowest hne
  have hmn : m = n := by
    by_contra hne
    rcases lt_or_gt_of_ne hne with h | h
    · cases hm.symm.trans (hlt m h)
    · cases hn.symm.trans (hlt' n h)
  subst hmn
  rw [hhead, Option.some.inj (hm.symm.trans hn)]

theorem lastReleaseStartsTheSend : Parts.LastReleaseStartsTheSend := by
  intro s code st k e r hst hon hw hr hc hh hne hready
  rw [exec_release_word hst hon, State.releaseRequest, if_pos hh]
  obtain ⟨hframe, hk, hnek, hmoved, hmem⟩ := loseHold_ended hh
  have hslot : ∀ n, (s.loseHold k).slotOf e.page n = s.slotOf e.page n := fun n => by rw [loseHold_frame]; rfl
  have hlink : (s.loseHold k).link = s.link := by rw [loseHold_frame]
  have hnofail : ∀ n sl c, (s.loseHold k).slotOf e.page n = some sl → ¬ slotFails (s.loseHold k) sl c := by
    intro n sl c hn
    rw [hslot] at hn
    obtain ⟨-, hfresh, hfont, hover⟩ := hready n sl hn
    simp only [slotFails, (loseHold_keeps s k sl.story).1, hlink, hfresh, hfont]
    rcases hover with hp | ho <;> simp [*]
  have hnostall : ∀ n sl, (s.loseHold k).slotOf e.page n = some sl → ¬ slotStalls (s.loseHold k) sl := by
    intro n sl hn
    rw [hslot] at hn
    obtain ⟨hheld, hfresh, -⟩ := hready n sl hn
    have hholder : ((s.loseHold k).story sl.story).holder = none := by
      rw [loseHold_story]
      split
      · rfl
      · exact hheld.resolve_left ‹_›
    simp [slotStalls, hholder, (loseHold_keeps s k sl.story).1, hfresh]
  have hwaiting : (s.loseHold k).waitingHead = some e := by rw [loseHold_frame]; exact hw
  have hstate : ((s.loseHold k).page e.page).state = .waiting r := by rw [loseHold_frame]; exact hr
  have hclosing : ((s.loseHold k).story k).closing = true := by rw [(loseHold_keeps s k k).2, hc]
  have hpages : (s.loseHold k).pageStories e.page ≠ [] := by rw [loseHold_frame]; exact hne
  obtain ⟨hsent, hpage, hother, n, sl, hn, hlt, hdisp⟩ :=
    ((handed_handEvent (s.loseHold k) k).2 e r hclosing hwaiting hstate).2 hnofail |>.2 hnostall hpages
  obtain ⟨S, T, hu⟩ : ∃ S T, s.loseHold k = { s with stories := S, stations := { s.stations with terminals := T } } :=
    ⟨_, _, loseHold_frame s k⟩
  obtain ⟨P, hP⟩ : ∃ P, P = ((s.loseHold k).handEvent k).pages.pages := ⟨_, rfl⟩
  rw [hdisp, ← hP] at hsent
  rw [State.releaseHold, hsent]
  rw [hsent] at hpage hother
  rw [hu] at hk hnek hmoved hmem hpage hother hn hlt ⊢
  refine ⟨_, rfl, rfl, hmoved, hpage, hother, ⟨_, rfl, rfl, rfl, ?_⟩, rfl, hk, hnek, hmem⟩
  exact congrArg (Option.map Prod.fst) (occupied_head (p := s.page e.page) hn hlt)

/-! ## Measure faults -/

/-- The measure unit when the engine leaves MEASURING (R88, R95). -/
theorem leaveMeasuring_eq (s : State) : s.leaveMeasuring = { s with measure := passEnded s } := by
  unfold State.leaveMeasuring passEnded
  split
  · rename_i h; simp [h, fontWaitPeriod]
  · rename_i h; simp [h, State.setEngine]

/-- A measure fault on a story nobody holds, before the dispatch engine is told (R91). -/
def State.faultPosted (s : State) (k : StoryId) : State :=
  { s.setStatus k .faulted with stations := { s.stations with
      outgoing := s.stations.outgoing ++ [{ recipient := .system, notice := s.storyNotice .measureFault 0 k }] } }

theorem faultPass_eq {p : Pass} (hp : s.measure.engine = .measuring p) (hh : (s.story p.story).holder = none)
    (hl : s.stations.outgoing.length < 256) :
    s.faultPass = ((s.faultPosted p.story).handEvent p.story).leaveMeasuring := by
  have hk : (s.setStatus p.story .faulted).story p.story =
      { s.story p.story with depth := { (s.story p.story).depth with status := .faulted } } := by simp [State.setStatus]
  have htold : (s.setStatus p.story .faulted).toldOf p.story = [.system] := by simp [State.toldOf, hk, hh]
  have hnotice : (s.setStatus p.story .faulted).storyNotice .measureFault 0 p.story = s.storyNotice .measureFault 0 p.story := by
    simp only [State.storyNotice, hk]
    rfl
  have hraise := raise_taken (s.setStatus p.story .faulted) .system (s.storyNotice .measureFault 0 p.story) rfl hl
  simp only [State.faultPass, hp, htold, hnotice, List.map_cons, List.map_nil, State.raiseAll, List.foldl_cons, List.foldl_nil,
    hraise]
  rfl

theorem exec_measureFault (s : State) : exec .measureFault s = .next s.faultPass := rfl

theorem faultOnAWaitingPageFailsIt : Parts.FaultOnAWaitingPageFailsIt := by
  intro s p e n sl r hp hq hr he hc hn hsl hothers hh hroom
  have hk : ∀ j, (s.faultPosted p.story).story j = if j = p.story then
      { s.story p.story with depth := { (s.story p.story).depth with status := .faulted } } else s.story j :=
    fun j => story_setStory _ _ _ _
  have hkp := (hk p.story).trans (if_pos rfl)
  have hclosing : ((s.faultPosted p.story).story p.story).closing = true := by rw [hkp]; exact hc
  have hwaiting : (s.faultPosted p.story).waitingHead = some e := by
    rw [waitingHead_eq_some]
    exact ⟨by rw [State.faultPosted]; exact congrArg List.head? hq, by
      show pageKind (s.page e.page).state = 2
      rw [hr]; rfl⟩
  have hfail : slotFails (s.faultPosted p.story) sl .fault := .inl ⟨by rw [hsl, hkp], rfl⟩
  have hlowest : ∀ m sm d, m < n → (s.faultPosted p.story).slotOf e.page m = some sm →
      ¬ slotFails (s.faultPosted p.story) sm d := fun m sm d hm hsm => by
    obtain ⟨hstale, hne⟩ := hothers m sm hsm (ne_of_lt hm)
    simp [slotFails, hk, hne, hstale]
  have hnotice : failedAt (s.faultPosted p.story) e .fault n sl.story = { recipient := .system, notice :=
      { s.storyNotice .pageFailed 5 p.story with page := some e.page, slot := some n, cause := none, edition := e.stamp } } := by
    simp only [failedAt, hsl, State.storyNotice, hkp]
    rfl
  have hmem : p.story ∈ (s.faultPosted p.story).pageStories e.page := (mem_pageStories _ _ _).2 ⟨n, sl, hn, hsl⟩
  obtain ⟨⟨hframe, hpage, hother, hstory, -⟩, hlink, hdisp⟩ :=
    ((handed_handEvent (s.faultPosted p.story) p.story).2 e r hclosing hwaiting hr).1 n sl .fault hn hfail hlowest hq he (by
      simp only [State.faultPosted, List.length_append, List.length_singleton]
      omega)
  rw [hdisp, hlink, hnotice] at hframe
  obtain ⟨S, P, hu⟩ : ∃ S P, (s.faultPosted p.story).handEvent p.story = { s.faultPosted p.story with
      stories := S, pages := { s.pages with pages := P }
      dispatch := { s.dispatch with queue := [], engine := .idle, holdWaitTimer := none, wanted := Vector.replicate 12 none }
      stations := { s.stations with
        outgoing := (s.stations.outgoing ++ [{ recipient := .system, notice := s.storyNotice .measureFault 0 p.story }]) ++
          [{ recipient := .system, notice := { s.storyNotice .pageFailed 5 p.story with
            page := some e.page, slot := some n, cause := none, edition := e.stamp } }] } } := ⟨_, _, hframe⟩
  have hstatus := congrArg (fun v => (v.depth.status, v.closing)) (hstory p.story)
  simp only [hkp, Prod.mk.injEq] at hstatus
  rw [hu] at hpage hother hstatus
  rw [exec_measureFault, faultPass_eq hp hh (by omega), leaveMeasuring_eq, hu]
  refine ⟨_, rfl, rfl, hstatus.1, ?_, hpage, hother, rfl, ?_, rfl, rfl, fun _ => rfl⟩
  · refine hstatus.2.trans ?_
    simp [hmem]
  · rw [List.append_assoc]
    rfl

/-- Settles O48: both events are handed to the dispatch engine, which evaluates the page. -/
theorem waitingPagesAreEvaluated : Obligations.WaitingPagesAreEvaluated :=
  ⟨lastReleaseStartsTheSend, faultOnAWaitingPageFailsIt⟩

end Sys2Proof.Machine
end


section
/-! PROOFS. ACK and WAIT carry a send from frame to frame to its completion (R142 to R145, R159, R160). -/

namespace Sys2Proof.Machine

open Safety

variable {s : State} {e : Queued} {rest : List Queued} {x y : SendState} {o : Outstanding} {next : Option Frame}

/-! ## The next frame of a send -/

/-- A send gone on to its next frame, if there is one yet: the frame is handed to the link (R142, R159). -/
def State.goneOn (s : State) (y : SendState) (next : Option Frame) : State :=
  { s with dispatch := { s.dispatch with engine := .sending y }, link := next.elim s.link (handFrame s.link) }

theorem goneOn_some (s : State) (y : SendState) (f : Frame) : s.goneOn y (some f) = (s.setSend y).handOver f := rfl

/-- What the send of page `e` has next once its last frame is done (R142, R143). -/
def sendGoesOn (s : State) (e : Queued) (x y : SendState) (next : Option Frame) : Prop :=
  (∃ sl, x.stage = .pageBegin ∧ s.slotOf e.page x.slot = some sl ∧ y = { x with stage := .slot } ∧
      next = some (.slot x.slot sl.span sl.story (s.story sl.story).revision sl.allowance sl.policy)) ∨
    ((x.stage = .slot ∨ x.stage = .text) ∧ textFollows s.link.agreed x y next) ∨
    (∃ n sl, x.stage = .slotEnd ∧ s.slotOf e.page n = some sl ∧ x.slot < n ∧
      (∀ j, x.slot < j → j < n → s.slotOf e.page j = none) ∧
      y = { x with slot := n, stage := .slot, reader := s.newReader sl } ∧
      next = some (.slot n sl.span sl.story (s.story sl.story).revision sl.allowance sl.policy)) ∨
    (x.stage = .slotEnd ∧ (∀ j, x.slot < j → s.slotOf e.page j = none) ∧ y = { x with stage := .pageEnd } ∧
      next = some (.pageEnd e.page x.b x.a))

/-- A reader that has stopped with nothing left is certain of no character. -/
theorem certain_spent {rd : Reader} (hf : rd.finished = true) (hc : rd.chars = []) : certain rd = 0 := by
  unfold certain
  split <;> simp [hf, hc]

theorem pumpText_goneOn (h : textFollows s.link.agreed x y next) : s.pumpText x = s.goneOn y next := by
  unfold State.pumpText
  rcases h with ⟨hpos, hle, rfl, rfl⟩ | ⟨hlt, hf, hne, rfl, rfl⟩ | ⟨hf, hc, rfl, hend⟩ | ⟨hlt, hf, rfl, rfl⟩
  · rw [if_pos ⟨hpos, hle⟩]
    rfl
  · rw [if_neg (by omega), if_pos hf, if_neg hne, State.handText, List.take_length]
    simp only [goneOn_some, textFormed, List.take_length]
  · rw [if_neg (by rw [certain_spent hf hc]; omega), if_pos hf, if_pos hc]
    rcases hend with ⟨t, ht, rfl⟩ | ⟨ht, rfl⟩ <;> simp only [goneOn_some, slotEndFrame, ht]
  · rw [if_neg (by omega), if_neg (by simp [hf])]
    rfl

theorem nextSlot_eq_none {p : PageId} {n : SlotId} (h : ∀ j, n < j → s.slotOf p j = none) : s.nextSlot p n = none := by
  refine List.find?_eq_none.2 fun j hj => ?_
  obtain ⟨⟨m, sl⟩, hm, rfl⟩ := List.mem_map.1 hj
  rw [decide_eq_true_eq]
  intro hlt
  cases ((mem_occupied _ _ _).1 hm).symm.trans (h m hlt)

theorem nextSlot_eq_some {p : PageId} {n m : SlotId} {sl : Slot} (hm : s.slotOf p m = some sl) (hlt : n < m)
    (hbetween : ∀ j, n < j → j < m → s.slotOf p j = none) : s.nextSlot p n = some m := by
  have hsorted : ((occupied (s.page p)).map Prod.fst).Pairwise (· < ·) := (occupied_sorted _).map _ fun _ _ h => h
  have hmem : m ∈ (occupied (s.page p)).map Prod.fst := List.mem_map.2 ⟨(m, sl), (mem_occupied _ _ _).2 hm, rfl⟩
  obtain ⟨before, after, hl⟩ := List.append_of_mem hmem
  rw [hl, List.pairwise_append, List.pairwise_cons] at hsorted
  refine List.find?_eq_some_iff_append.2 ⟨by simpa using hlt, before, after, hl, fun j hj => ?_⟩
  have hjm : j < m := hsorted.2.2 j hj m (.head _)
  have hoccupied : j ∈ (occupied (s.page p)).map Prod.fst := by rw [hl]; exact List.mem_append_left _ hj
  obtain ⟨⟨i, sj⟩, hi, rfl⟩ := List.mem_map.1 hoccupied
  simp only [Bool.not_eq_true', decide_eq_false_iff_not]
  intro hnj
  cases ((mem_occupied _ _ _).1 hi).symm.trans (hbetween i hnj hjm)

/-- The frame before is done, and the send goes on (R142). -/
theorem nextFrame_goneOn (hq : s.dispatch.queue = e :: rest) (hx : s.dispatch.engine = .sending x)
    (h : sendGoesOn s e x y next) : s.nextFrame = s.goneOn y next := by
  rcases h with ⟨sl, hst, hsl, rfl, rfl⟩ | ⟨hst, hf⟩ | ⟨n, sl, hst, hsl, hlt, hbetween, rfl, rfl⟩ | ⟨hst, hnone, rfl, rfl⟩
  · simp only [State.nextFrame, hq, hx, hst, State.handSlot, hsl, if_true]
    rfl
  · rw [← pumpText_goneOn hf]
    rcases hst with hst | hst <;> simp only [State.nextFrame, hq, hx, hst]
  · simp only [State.nextFrame, hq, hx, hst, nextSlot_eq_some hsl hlt hbetween, State.handSlot, hsl, if_neg (ne_of_gt hlt)]
    rfl
  · simp only [State.nextFrame, hq, hx, hst, nextSlot_eq_none hnone]
    rfl

/-! ## The replies -/

theorem frameArrives_up (hup : s.link.state = .up) (f : Incoming) :
    s.frameArrives f = (s.setLink (hunt s.link)).takeIncoming f := by
  unfold State.frameArrives
  rw [hup]

/-- The frame outstanding is the one a reply counts against (R156, R161). -/
theorem replyFrame_hunt (hup : s.link.state = .up) (hw : s.link.waitHold = false) (ho : s.link.outstanding = some o) :
    (s.setLink (hunt s.link)).replyFrame = some o := by
  simp [State.replyFrame, hunt, hup, hw, ho]

/-- ACK of a frame of the send settles the link first (R153, R159). -/
theorem exec_ack (hup : s.link.state = .up) (hw : s.link.waitHold = false) (ho : s.link.outstanding = some o)
    (ha : isAbort o.frame = false) : exec .ack s = .next (s.setLink (frameSettled s.link)).nextFrame := by
  show Host.Outcome.next (s.frameArrives .ack) = _
  rw [frameArrives_up hup, State.takeIncoming, State.takeAck, replyFrame_hunt hup hw ho]
  simp only [State.frameDone, ha, Bool.false_eq_true, if_false]
  rfl

/-- The link with the WAIT hold set once the frame outstanding is done (R160). -/
def frameHeld (l : Link) : Link := { frameSettled l with waitHold := true, waitTimer := some 30000 }

/-- WAIT of a frame of the send settles the link and sets the WAIT hold first (R153, R160). -/
theorem exec_wait (hup : s.link.state = .up) (hw : s.link.waitHold = false) (ho : s.link.outstanding = some o)
    (ha : isAbort o.frame = false) : exec .wait s = .next (s.setLink (frameHeld s.link)).nextFrame := by
  show Host.Outcome.next (s.frameArrives .wait) = _
  rw [frameArrives_up hup, State.takeIncoming, State.takeWait, replyFrame_hunt hup hw ho]
  simp only [State.frameDone, ha, Bool.false_eq_true, if_false]
  rfl

/-- READY ends the WAIT hold, and the frame held goes out (R160). -/
theorem exec_ready (hup : s.link.state = .up) (hw : s.link.waitHold = true) : exec .ready s = .next { s with
    link := { s.link with
      receiver := .hunting, gapTimer := none, waitHold := false, waitTimer := none
      transmitter := s.link.transmitter ++ (s.link.outstanding.map fun o => .attempt o.frame true).toList } } := by
  show Host.Outcome.next (s.frameArrives .ready) = _
  cases ho : s.link.outstanding <;>
    simp [State.frameArrives, hup, State.takeIncoming, State.takeReady, State.setLink, hunt, hw, ho, transmit, clearWait]

theorem goneOn_goes (y : SendState) (next : Option Frame) (hw : s.link.waitHold = false) :
    (s.setLink (frameSettled s.link)).goneOn y next = { s with
      dispatch := { s.dispatch with engine := .sending y }, link := frameGoes (frameSettled s.link) next } := by
  cases next <;> simp [State.goneOn, State.setLink, frameGoes, frameSettled, handFrame_eq, hw]

theorem goneOn_held (y : SendState) (next : Option Frame) :
    (s.setLink (frameHeld s.link)).goneOn y next = { s with
      dispatch := { s.dispatch with engine := .sending y }
      link := { frameHeld s.link with outstanding := next.map fun g => { frame := g, tries := 1 } } } := by
  cases next <;> simp [State.goneOn, State.setLink, frameHeld, frameSettled, handFrame_eq]

theorem ackAndWaitLetTheNextFrameGo : Parts.AckAndWaitLetTheNextFrameGo := by
  intro s e rest x y o next hq hx hup hw ho ha h
  have hgoes : ∀ l : Link, l.agreed = s.link.agreed → sendGoesOn (s.setLink l) e x y next := fun l hl => by
    rw [sendGoesOn, setLink_link, hl]
    exact h
  rw [exec_ack hup hw ho ha, exec_wait hup hw ho ha, nextFrame_goneOn (s := s.setLink (frameSettled s.link)) hq hx (hgoes _ rfl),
    nextFrame_goneOn (s := s.setLink (frameHeld s.link)) hq hx (hgoes _ rfl), goneOn_goes _ _ hw, goneOn_held]
  refine ⟨rfl, _, rfl, rfl, ?_⟩
  rw [exec_ready (s := { s with
    dispatch := { s.dispatch with engine := .sending y }
    link := { frameHeld s.link with outstanding := next.map fun g => { frame := g, tries := 1 } } }) hup rfl]
  cases next <;> rfl

/-! ## The completion -/

/-- What the completion of the only page queued leaves of a state (R145). -/
theorem completePage_frame (hq : s.dispatch.queue = [e]) (hroom : s.stations.outgoing.length < 256) :
    s.completePage e = { s with
      stories := (s.completePage e).stories, pages := { s.pages with pages := (s.completePage e).pages.pages }
      dispatch := { s.dispatch with queue := [], engine := .idle, wanted := Vector.replicate 12 none }
      stations := { s.stations with
        outgoing := s.stations.outgoing ++
          [{ recipient := .system
             notice := { s.plainNotice .pageSent 0 with page := some e.page, edition := e.stamp } }] } } := by
  unfold State.completePage
  dsimp only
  rw [freezeAll_frame, raise_taken _ _ _ rfl (by exact hroom)]
  have hnone : [e].filter (fun x => x.page != e.page) = [] := by simp
  simp only [State.leaveQueue, State.setDispatchEngine, State.setPage, hq, hnone, noneWanted, List.head?_cons,
    Option.map_some, if_true]
  rfl

theorem ackOfPageEndCompletesTheSend : Parts.AckOfPageEndCompletesTheSend := by
  intro s c e x o hq hx hst hup hw ho ha hroom hc
  obtain ⟨l, hl, hexec⟩ : ∃ l, (if c = .wait then { frameSettled s.link with waitHold := true, waitTimer := some 30000 }
      else frameSettled s.link) = l ∧
      exec c s = .next (s.setLink l).nextFrame := by
    rcases hc with rfl | rfl
    · exact ⟨_, rfl, exec_ack hup hw ho ha⟩
    · exact ⟨_, rfl, exec_wait hup hw ho ha⟩
  have hframe := completePage_frame (s := s.setLink l) hq hroom
  have hnext : (s.setLink l).nextFrame = (s.setLink l).completePage e := by
    simp only [State.nextFrame, setLink_dispatch, hq, hx, hst, State.complete]
    exact advance_empty _ (by rw [hframe])
  refine ⟨_, hexec, ?_⟩
  rw [hnext]
  refine ⟨?_, ?_, fun q hq => ?_, fun k => ?_, fun a => ?_⟩
  · rw [hl]; exact hframe
  · rw [page_completePage, if_pos rfl]; rfl
  · rw [page_completePage, if_neg hq]; rfl
  · rw [story_completePage]; rfl
  · rw [hframe]; rfl

/-- Settles O51: a reply settles the frame outstanding, and the engine hands over the next one or completes the dispatch. -/
theorem acksCarryTheSendToItsEnd : Obligations.AcksCarryTheSendToItsEnd :=
  ⟨ackAndWaitLetTheNextFrameGo, ackOfPageEndCompletesTheSend⟩

end Sys2Proof.Machine
end


section
/-! PROOFS. What leaves memory as it is: everything but plain writes and ring writes (R35, R168). -/

namespace Sys2Proof.Machine

open Safety

variable {s t : State}

/-! ## The shared operations -/

theorem mem_of_outer (h : outer t = outer s) : t.mem = s.mem := (outer_fields h).2.2.1

theorem mem_of_butStories (h : butStories t = butStories s) : t.mem = s.mem := mem_of_outer (outer_of_butStories h)

theorem mem_of_butStations (h : butStations t = butStations s) : t.mem = s.mem := mem_of_outer (outer_of_butStations h)

theorem mem_testing {st : Station} {ts : List (Bool × Reason)} (h : t.mem = s.mem) : (testing st ts s t).mem = s.mem := by
  rcases testing_cases st ts s t with ⟨h1, -⟩ | ⟨c, -, -, h1⟩ <;> rw [h1]
  · exact h
  · exact refuse_mem s st c.2

theorem mem_foldl {α : Type} {f : State → α → State} (hf : ∀ t a, (f t a).mem = t.mem) (l : List α) (s : State) :
    (l.foldl f s).mem = s.mem := foldl_keeps State.mem f hf l s

section Operations

variable (s : State) (k : StoryId) (p : PageId) (st : Station)

@[simp] theorem mem_raise (n : Notice) : (s.raise st n).mem = s.mem := mem_of_outer (outer_raise s st n)
@[simp] theorem mem_raiseAll (ns : List Outgoing) : (s.raiseAll ns).mem = s.mem := mem_of_outer (outer_raiseAll s ns)
@[simp] theorem mem_loseHold : (s.loseHold k).mem = s.mem := mem_of_outer (outer_loseHold s k)
@[simp] theorem mem_gainHold : (s.gainHold k st).mem = s.mem := mem_of_butStories (butStories_gainHold s k st)
@[simp] theorem mem_dropViewerOf : (s.dropViewerOf k st).mem = s.mem := by cases st <;> rfl
@[simp] theorem mem_releaseHold : (s.releaseHold k).mem = s.mem := mem_of_outer (outer_releaseHold s k)
@[simp] theorem mem_handEvent : (s.handEvent k).mem = s.mem := mem_of_outer (outer_handEvent s k)
@[simp] theorem mem_queueStale : (s.queueStale k).mem = s.mem := mem_of_outer (outer_queueStale s k)
@[simp] theorem mem_stale : (s.stale k).mem = s.mem := mem_of_outer (outer_stale s k)
@[simp] theorem mem_staleAll (ks : List StoryId) : (s.staleAll ks).mem = s.mem := mem_of_outer (outer_staleAll s ks)
@[simp] theorem mem_abandonPass : (s.abandonPass k).mem = s.mem := mem_of_outer (outer_abandonPass s k)
@[simp] theorem mem_cancelPage : (s.cancelPage p st).mem = s.mem := mem_of_outer (outer_cancelPage s p st)
@[simp] theorem mem_queuePage (r : Resting) : (s.queuePage p r).mem = s.mem := mem_of_outer (outer_queuePage s p r)
@[simp] theorem mem_allowanceChanged : (s.allowanceChanged k st).mem = s.mem := mem_of_butStories (butStories_allowanceChanged s k st)
@[simp] theorem mem_markViewers : (s.markViewers k st).mem = s.mem := mem_of_butStories (butStories_markViewers s k st)
@[simp] theorem mem_viewBy : (s.viewBy st k).mem = s.mem := mem_of_butStories (butStories_viewBy s st k)
@[simp] theorem mem_unfreeze : (s.unfreeze k).mem = s.mem := mem_of_butStories (butStories_unfreeze s k)
@[simp] theorem mem_noteContested (off n : Nat) : (s.noteContested st off n).mem = s.mem :=
  mem_of_butStations (butStations_noteContested s st off n)
@[simp] theorem mem_unplace : (s.unplace k).mem = s.mem := mem_unfreeze s k
@[simp] theorem mem_placeIn (n : SlotId) : (s.placeIn k p n).mem = s.mem := rfl
@[simp] theorem mem_putSlot (n : SlotId) (v : Option Slot) : (s.putSlot p n v).mem = s.mem := rfl

@[simp] theorem mem_unfile : (s.unfile k).mem = s.mem := by
  unfold State.unfile
  split <;> rfl

@[simp] theorem mem_file (b : BasketId) (x : Priority) : (s.file k b x).mem = s.mem := rfl

@[simp] theorem mem_raiseArrivals (b : BasketId) (old : Option BasketId) : (s.raiseArrivals k b old st).mem = s.mem :=
  mem_raiseAll s _

@[simp] theorem mem_endHoldByRoute : (s.endHoldByRoute st k).mem = s.mem := by
  unfold State.endHoldByRoute
  split
  · exact mem_releaseHold s k
  · rfl

@[simp] theorem mem_reopenPage : (s.reopenPage k).mem = s.mem := by
  unfold State.reopenPage
  split
  · split
    · simp
    · rfl
    · rfl
  · rfl

@[simp] theorem mem_edited (n : Option SlotId) (b : Option StoryId) : (s.edited p n b st).mem = s.mem := by
  unfold State.edited
  dsimp only
  split
  · split <;> simp
  · split <;> simp
  · rfl

@[simp] theorem mem_releaseHeld : s.releaseHeld.mem = s.mem := by
  unfold State.releaseHeld
  split <;> rfl

@[simp] theorem mem_clearLatch (off : Nat) (sz : Size) : (s.clearLatch st off sz).mem = s.mem := by
  unfold State.clearLatch
  split <;> rfl

@[simp] theorem mem_readFree (off : Nat) (sz : Size) : (s.readFree off sz).mem = s.mem := by
  unfold State.readFree
  split <;> rfl

end Operations

/-! ## Writes to live words, and reads -/

section Writes

variable (s : State) (st : Station) (sz : Size) (v : Word)

theorem mem_writeHold (k : StoryId) : (s.writeHold st k sz v).mem = s.mem := by
  refine mem_testing ?_
  split
  · unfold State.claimRequest
    split
    · exact mem_testing (by simp [State.createByClaim])
    · unfold State.claimUsed
      refine mem_testing ?_
      split
      · simp
      · exact mem_testing (by simp [State.grantClaim])
  · split
    · unfold State.releaseRequest
      split <;> simp
    · split
      · unfold State.breakRequest
        refine mem_testing ?_
        split <;> simp [State.breakTaken]
      · simp

theorem mem_writeState (k : StoryId) : (s.writeState st k sz v).mem = s.mem := by
  refine mem_testing ?_
  split <;> simp

theorem mem_writeRoute (k : StoryId) (q : RouteRequest) : (s.writeRoute st k sz q).mem = s.mem := by
  refine mem_testing ?_
  unfold State.routeRequest
  split
  · simp
  · exact mem_testing (by simp [State.purgeTaken, State.raiseGone, State.forgetMeasure])
  · split
    · simp
    · exact mem_testing (by simp)
  · split
    · exact mem_testing (by simp [State.createByRoute])
    · refine mem_testing ?_
      unfold State.routeIn
      split
      · split <;> simp
      · simp

theorem mem_regeometry (p : PageId) (new : Page) : (s.regeometry st p new).mem = s.mem := by
  unfold State.regeometry
  split <;> simp

theorem mem_writeColumnDepth (p : PageId) : (s.writeColumnDepth st p sz v).mem = s.mem := by
  refine mem_testing ?_
  dsimp only
  split
  · rfl
  · rw [done_mem, mem_edited, mem_foldl fun t k => mem_allowanceChanged t k st]
    rfl

theorem mem_writeStory (p : PageId) (n : SlotId) : (s.writeStory st p n sz v).mem = s.mem := by
  refine mem_testing ?_
  split
  · unfold State.removeRequest
    split <;> simp [State.removeTaken]
  · split
    · unfold State.placeRequest
      split
      · rfl
      · refine mem_testing ?_
        split <;> simp [State.placeTaken, State.replaceTaken]
    · simp

theorem mem_writeSpan (p : PageId) (n : SlotId) : (s.writeSpan st p n sz v).mem = s.mem := by
  refine mem_testing ?_
  split
  · simp
  · dsimp only
    split <;> simp

theorem mem_writeAllowance (p : PageId) (n : SlotId) : (s.writeAllowance st p n sz v).mem = s.mem := by
  refine mem_testing ?_
  split
  · simp
  · dsimp only
    split <;> simp

theorem mem_writePolicy (p : PageId) (n : SlotId) : (s.writePolicy st p n sz v).mem = s.mem := by
  refine mem_testing ?_
  split
  · simp
  · split
    · simp
    · split <;> simp

theorem mem_writeCommand (p : PageId) : (s.writeCommand st p sz v).mem = s.mem := by
  refine mem_testing ?_
  split
  · unfold State.dispatchRequest
    split <;> simp
  · split
    · unfold State.cancelRequest
      split <;> simp
    · simp

theorem mem_writeFont (f : FontId) (w : FontWrite) : (s.writeFont st f sz w).mem = s.mem := by
  refine mem_testing ?_
  split
  · simp
  · split
    · simp [State.retryFont]
    · simp [State.fontTaken, State.staleFont]

theorem mem_writeStandard : (s.writeStandard st sz v).mem = s.mem := by
  refine mem_testing ?_
  dsimp only
  split <;> simp

theorem mem_signOffTaken (u : TerminalId) : (s.signOffTaken u).mem = s.mem := by
  simp only [State.signOffTaken, refreshLines_mem, setTerminal_mem, discardNotices_mem, State.dropViews, State.releaseAll]
  exact (mem_foldl (fun t k => (rfl : (t.dropViewer k u).mem = t.mem)) _ _).trans (mem_foldl (fun t k => mem_releaseHold t k) _ _)

theorem mem_writeControl (owner : Station) : (s.writeControl st owner sz v).mem = s.mem := by
  have hsign : ∀ u b, (s.signTaken u b).mem = s.mem := fun u b => by
    unfold State.signTaken
    split
    · rfl
    · split
      · rfl
      · exact mem_signOffTaken s u
  refine mem_testing ?_
  split
  · simp
  · split
    · exact hsign _ _
    · split
      · exact hsign _ _
      · simp

theorem mem_writeRights (owner : Station) : (s.writeRights st owner sz v).mem = s.mem := by
  refine mem_testing ?_
  split
  · simp
  · split <;> simp

theorem mem_writeReadIndex (owner : Station) : (s.writeReadIndex st owner sz v).mem = s.mem :=
  mem_testing (mem_of_butStations (t := s.setReadIndex owner v) (butStations_setReadIndex s owner v))

theorem mem_writeLimit (b : BasketId) : (s.writeLimit st b sz v).mem = s.mem := mem_testing rfl

theorem mem_writeWatchers (b : BasketId) (k : Fin 4) : (s.writeWatchers st b k sz v).mem = s.mem := mem_testing rfl

theorem mem_writeWidth (p : PageId) : (s.writeWidth st p sz v).mem = s.mem := mem_testing (mem_regeometry _ _ _ _)

theorem mem_writeGutter (p : PageId) : (s.writeGutter st p sz v).mem = s.mem := mem_testing (mem_regeometry _ _ _ _)

theorem mem_writeEdition : (s.writeEdition st sz v).mem = s.mem := mem_testing rfl

theorem mem_writeHoldWait : (s.writeHoldWait st sz v).mem = s.mem := mem_testing rfl

theorem mem_writeEnables : (s.writeEnables st sz v).mem = s.mem := mem_testing rfl

theorem mem_writeReadOnly : (s.writeReadOnly st sz).mem = s.mem := mem_testing (refuse_mem s st _)

/-- A write to a live word reaches the word's unit, never memory (R168). -/
theorem mem_writeLive (w : LiveWord) : (s.writeLive st sz v w).mem = s.mem := by
  cases w with
  | hold k => exact mem_writeHold s st sz v k
  | route k => exact mem_writeRoute s st sz k _
  | state k => exact mem_writeState s st sz v k
  | slotStory p n => exact mem_writeStory s st sz v p n
  | control o => exact mem_writeControl s st sz v o
  | rights o => exact mem_writeRights s st sz v o
  | readIndex o => exact mem_writeReadIndex s st sz v o
  | limit b => exact mem_writeLimit s st sz v b
  | watchers b k => exact mem_writeWatchers s st sz v b k
  | columnWidth p => exact mem_writeWidth s st sz v p
  | gutter p => exact mem_writeGutter s st sz v p
  | columnDepth p => exact mem_writeColumnDepth s st sz v p
  | pageCommand p => exact mem_writeCommand s st sz v p
  | span p n => exact mem_writeSpan s st sz v p n
  | allowance p n => exact mem_writeAllowance s st sz v p n
  | policy p n => exact mem_writePolicy s st sz v p n
  | fontSize f => exact mem_writeFont s st sz f _
  | fontLeading f => exact mem_writeFont s st sz f _
  | widths f c => exact mem_writeFont s st sz f _
  | edition => exact mem_writeEdition s st sz v
  | standardMeasure => exact mem_writeStandard s st sz v
  | holdWait => exact mem_writeHoldWait s st sz v
  | attentionEnable => exact mem_writeEnables s st sz v
  | _ => exact mem_writeReadOnly s st sz

theorem mem_readText (k : StoryId) (pos : Nat) (f : Bool) : (s.readText st k pos sz f).mem = s.mem := by
  unfold State.readText
  split <;> simp

theorem mem_readWords (off : Nat) (f : Bool) : (s.readWords st off sz f).mem = s.mem := by
  unfold State.readWords
  dsimp only
  split <;> simp

theorem mem_readWindow (off : Nat) (f : Bool) : (s.readWindow st off sz f).mem = s.mem := by
  unfold State.readWindow
  split
  · exact mem_readText s st sz _ _ f
  · exact mem_readWords s st sz off f

end Writes

theorem mem_asStation {code : StationCode} {op : Station → State} (h : ∀ st, (op st).mem = s.mem) :
    (asStation code s op).mem = s.mem := by
  unfold asStation
  split
  · exact h _
  · rfl

theorem mem_busReset (s : State) : s.busReset.mem = s.mem := by
  have hcleared : s.cleared.mem = s.mem := by
    obtain ⟨T, S, hframe, -⟩ := cleared_eq s
    rw [hframe]
  exact (mem_foldl (fun t k => mem_releaseHold t k) _ _).trans hcleared

theorem mem_ringWriteStart (s : State) : s.ringWriteStart.mem = s.mem := mem_of_butStations (butStations_ringWriteStart s)

end Sys2Proof.Machine
end


section
/-! PROOFS. Story text and headers change only by writes that pass the admission test (R35, R36). -/

namespace Sys2Proof.Machine

open Safety

variable {s t : State} {st : Station} {k : StoryId} {code : StationCode} {sz : Size} {off x : Nat}

/-! ## The bytes of a story -/

/-- The story to whose text or header a byte of the window belongs (R1). -/
def ownerOf (off : Nat) : Option StoryId :=
  if off < 0x1000000 then some (Fin.ofNat 2048 (off / 8192))
  else if off < 0x1020000 then some (Fin.ofNat 2048 ((off - 0x1000000) / 64))
  else none

theorem ownerOf_text {i : Nat} (hi : i < 8192) : ownerOf (k.val * 8192 + i) = some k := by
  have hk := k.isLt
  have hd : (k.val * 8192 + i) / 8192 = k.val := by omega
  rw [ownerOf, if_pos (by omega), hd]
  exact congrArg some (Fin.ext (Nat.mod_eq_of_lt hk))

theorem ownerOf_header {i : Nat} (hi : i < 64) : ownerOf (0x1000000 + k.val * 64 + i) = some k := by
  have hk := k.isLt
  have hd : (0x1000000 + k.val * 64 + i - 0x1000000) / 64 = k.val := by omega
  rw [ownerOf, if_neg (by omega), if_pos (by omega), hd]
  exact congrArg some (Fin.ext (Nat.mod_eq_of_lt hk))

theorem ownerOf_lt (h : ownerOf x = some k) : x < 0x1020000 := by
  unfold ownerOf at h
  split at h
  · omega
  · split at h
    · assumption
    · cases h

/-- An aligned access stays within the text and the header of one story (R166). -/
theorem ownerOf_access (ha : aligned off sz = true) (h1 : off ≤ x) (h2 : x < off + sizeBytes sz) : ownerOf x = ownerOf off := by
  have hm : off % sizeBytes sz = 0 := by simpa [aligned] using ha
  have htext : x < 0x1000000 ↔ off < 0x1000000 := by cases sz <;> simp only [sizeBytes] at hm h2 <;> omega
  have hheader : x < 0x1020000 ↔ off < 0x1020000 := by cases sz <;> simp only [sizeBytes] at hm h2 <;> omega
  have hstory : x / 8192 = off / 8192 := by cases sz <;> simp only [sizeBytes] at hm h2 <;> omega
  have hheads : (x - 0x1000000) / 64 = (off - 0x1000000) / 64 := by cases sz <;> simp only [sizeBytes] at hm h2 <;> omega
  simp only [ownerOf, htext, hheader, hstory, hheads]

/-- Whether a place is one of a story's plain bytes. -/
def storyPlace : Place → Bool
  | .text _ _ | .headerPlain _ _ => true
  | _ => false

/-- Above the headers no place is a story's (R1). -/
theorem storyPlace_above (h : 0x1020000 ≤ off) : storyPlace (placeOf off) = false := by
  have hstation : ∀ o a, storyPlace (stationPlace o a) = false := fun o a => by
    unfold stationPlace
    split
    · rfl
    · split <;> rfl
  have hbasket : ∀ b a, storyPlace (basketPlace b a) = false := fun b a => by
    unfold basketPlace
    split
    · split <;> rfl
    · split <;> rfl
  have hpage : ∀ p a, storyPlace (pagePlace p a) = false := fun p a => by
    unfold pagePlace
    split
    · split <;> rfl
    · dsimp only
      split <;> rfl
  have hfont : ∀ f a, storyPlace (fontPlace f a) = false := fun f a => by
    unfold fontPlace
    split
    · split <;> rfl
    · rfl
  have hdesk : ∀ a, storyPlace (deskPlace a) = false := fun a => by unfold deskPlace; split <;> rfl
  unfold placeOf
  rw [if_neg (by omega), if_neg (by omega)]
  repeat' split
  · exact hstation _ _
  · rfl
  · exact hbasket _ _
  · exact hpage _ _
  · rfl
  · exact hfont _ _
  · rfl
  · exact hdesk _
  · rfl

/-- The place of a byte of a story's header is live, or plain and that story's (R1). -/
theorem placeOf_inHeader (h1 : 0x1000000 ≤ off) (h2 : off < 0x1020000) : (∃ w, placeOf off = .live w) ∨
    ∃ j h, placeOf off = .headerPlain j h ∧ ownerOf off = some j ∧ s.headerAddr j h = s.base + off := by
  rw [placeOf, if_neg (by omega), if_pos h2]
  unfold headerPlace
  split
  case h_8 =>
    refine .inr ⟨_, _, rfl, by rw [ownerOf, if_neg (by omega), if_pos h2], ?_⟩
    have hm : (off - 0x1000000) / 64 % 2048 = (off - 0x1000000) / 64 := Nat.mod_eq_of_lt (by omega)
    simp only [State.headerAddr, Fin.val_ofNat, hm]
    omega
  all_goals exact .inl ⟨_, rfl⟩

/-! ## The admission test -/

/-- The test of R36 is passed exactly under the conditions of R35. -/
theorem admission_iff (s : State) (st : Station) (k : StoryId) :
    (∀ c ∈ s.admission st k, c.1 = false) ↔ admits s st k := by
  simp only [State.admission, List.forall_mem_cons, List.not_mem_nil, IsEmpty.forall_iff, implies_true, and_true, admits]
  cases hp : (s.story k).phase <;> cases hh : (s.story k).holder <;> cases st <;>
    simp [isTerminal]

/-- A write under the admission test stores only when it passes. -/
theorem mem_admitted (h : ¬ admits s st k) : (testing st (s.admission st k) s t).mem = s.mem ∧
    (testing st (s.admission st k) s t).bus = refuseBus := by
  rcases testing_cases st (s.admission st k) s t with ⟨-, hall⟩ | ⟨c, -, -, h1⟩
  · exact absurd ((admission_iff s st k).1 hall) h
  · rw [h1]
    exact ⟨refuse_mem s st c.2, rfl⟩

/-! ## Writes within the window -/

theorem memByte_congr (h : t.mem = s.mem) (a : Nat) : t.memByte a = s.memByte a := by rw [State.memByte, h, State.memByte]

theorem memByte_writeText (s : State) (st : Station) (k : StoryId) (pos : Nat) (sz : Size) (data : Data) (f : Bool) (a : Nat)
    (hne : (s.writeText st k pos sz data f).memByte a ≠ s.memByte a) :
    admits s st k ∧ s.textAddr k pos ≤ a ∧ a < s.textAddr k pos + sizeBytes sz := by
  have hadm : admits s st k := by
    by_contra h
    exact hne (memByte_congr (mem_admitted h).1 a)
  refine ⟨hadm, ?_⟩
  by_contra hout
  have hstore := plainStore_memByte_ne s (s.textAddr k pos) (sizeBytes sz) data f a (by omega)
  refine hne ?_
  rcases testing_cases st (s.admission st k) s (s.textAdmitted st k pos sz data f) with ⟨h1, -⟩ | ⟨c, -, -, h1⟩
  · rw [State.writeText, h1, ← hstore]
    refine memByte_congr ?_ a
    simp only [State.textAdmitted, State.plainAnswer]
    split <;> simp
  · rw [State.writeText, h1]
    exact memByte_congr (refuse_mem s st c.2) a

theorem memByte_writeHeaderPlain (s : State) (st : Station) (k : StoryId) (h : Nat) (sz : Size) (data : Data) (f : Bool) (a : Nat)
    (hne : (s.writeHeaderPlain st k h sz data f).memByte a ≠ s.memByte a) :
    admits s st k ∧ s.headerAddr k h ≤ a ∧ a < s.headerAddr k h + sizeBytes sz := by
  have hadm : admits s st k := by
    by_contra h
    exact hne (memByte_congr (mem_admitted h).1 a)
  refine ⟨hadm, ?_⟩
  by_contra hout
  have hstore := plainStore_memByte_ne s (s.headerAddr k h) (sizeBytes sz) data f a (by omega)
  refine hne ?_
  rcases testing_cases st (s.admission st k) s
    ((s.plainStore (s.headerAddr k h) (sizeBytes sz) data f).plainAnswer st f) with ⟨h1, -⟩ | ⟨c, -, -, h1⟩
  · rw [State.writeHeaderPlain, h1, ← hstore]
    refine memByte_congr ?_ a
    unfold State.plainAnswer
    split <;> simp
  · rw [State.writeHeaderPlain, h1]
    exact memByte_congr (refuse_mem s st c.2) a

/-- A ring write stores above the headers. -/
theorem memByte_writeRing (s : State) (st owner : Station) (h : Nat) (sz : Size) (data : Data) (f : Bool) {a : Nat}
    (ha : a < s.base + 0x1020000) : (s.writeRing st owner h sz data f).memByte a = s.memByte a := by
  have hstore := plainStore_memByte_ne s (s.ringAddr owner h) (sizeBytes sz) data f a (by simp only [State.ringAddr]; omega)
  rcases testing_cases st [(!s.signedOn st, .notSignedOn), (isTerminal st && st != owner, .noRight)] s
    (((s.plainStore (s.ringAddr owner h) (sizeBytes sz) data f).noteContested owner h (sizeBytes sz)).plainAnswer st f) with
    ⟨h1, -⟩ | ⟨c, -, -, h1⟩
  · rw [State.writeRing, h1, ← hstore]
    refine memByte_congr ?_ a
    unfold State.plainAnswer
    split <;> simp
  · rw [State.writeRing, h1]
    exact memByte_congr (refuse_mem s st c.2) a

theorem memByte_writePlain (s : State) (st : Station) (b : Nat) (sz : Size) (data : Data) (f : Bool) {a : Nat} (ha : a < b) :
    (s.writePlain st b sz data f).memByte a = s.memByte a := by
  rw [← plainStore_memByte_ne s b (sizeBytes sz) data f a (.inl ha)]
  refine memByte_congr ?_ a
  unfold State.writePlain State.plainAnswer
  split <;> simp

/-- A write in the window changes a story's bytes only when it is admitted for that story. -/
theorem admits_of_writeWindow {data : Data} {f : Bool} (ha : aligned off sz = true) (hx : ownerOf x = some k)
    (hne : (s.writeWindow st off sz data f).memByte (s.base + x) ≠ s.memByte (s.base + x)) : admits s st k := by
  have howner : ∀ {j : StoryId} {a : Nat}, a = s.base + off → ownerOf off = some j →
      a ≤ s.base + x ∧ s.base + x < a + sizeBytes sz → j = k := fun ha' hj hin => by
    have := ownerOf_access (x := x) ha (by omega) (by omega)
    rw [hx, hj] at this
    exact (Option.some.inj this).symm
  have hlt := ownerOf_lt hx
  unfold State.writeWindow at hne
  split at hne
  · exact absurd (memByte_congr (refuse_mem s st _) _) hne
  rcases Nat.lt_or_ge off 0x1000000 with hoff | hoff
  · have hplace : placeOf off = .text (Fin.ofNat 2048 (off / 8192)) (off % 8192) := if_pos hoff
    rw [hplace] at hne
    obtain ⟨hadm, hin⟩ := memByte_writeText s st _ _ sz data f _ hne
    have hm : off / 8192 % 2048 = off / 8192 := Nat.mod_eq_of_lt (by omega)
    have haddr : s.textAddr (Fin.ofNat 2048 (off / 8192)) (off % 8192) = s.base + off := by
      simp only [State.textAddr, Fin.val_ofNat, hm]
      omega
    exact howner haddr (if_pos hoff) hin ▸ hadm
  rcases Nat.lt_or_ge off 0x1020000 with hoff2 | hoff2
  · rcases placeOf_inHeader (s := s) hoff hoff2 with ⟨w, hw⟩ | ⟨j, h, hj, hown, haddr⟩
    · rw [hw] at hne
      exact absurd (memByte_congr (mem_writeLive s st sz _ w) _) hne
    · rw [hj] at hne
      obtain ⟨hadm, hin⟩ := memByte_writeHeaderPlain s st j h sz data f _ hne
      exact howner haddr hown hin ▸ hadm
  · refine absurd ?_ hne
    have hno := storyPlace_above hoff2
    cases hp : placeOf off with
    | text j pos => rw [hp] at hno; cases hno
    | headerPlain j h => rw [hp] at hno; cases hno
    | ring o h => exact memByte_writeRing s st o h sz data f (by omega)
    | plain => exact memByte_writePlain s st _ sz data f (by omega)
    | live w => exact memByte_congr (mem_writeLive s st sz _ w) _

/-! ## Every command -/

/-- Who the writer of an admitted write is. -/
def WriterAdmitted (s : State) (code : StationCode) (k : StoryId) : Prop := ∃ st, stationOf code = some st ∧ admits s st k

theorem admitted_of_asStation {op : Station → State} (a : Nat) (h : ∀ st, (op st).memByte a ≠ s.memByte a → admits s st k)
    (hne : (asStation code s op).memByte a ≠ s.memByte a) : WriterAdmitted s code k := by
  unfold asStation at hne
  split at hne
  · rename_i st hst
    exact ⟨st, hst, h st hne⟩
  · exact absurd rfl hne

theorem aligned_iff_dvd : aligned off sz = true ↔ sizeBytes sz ∣ off := by simp [aligned, Nat.dvd_iff_mod_eq_zero]

/-- The base is a multiple of the size of every access (R165, R166). -/
theorem sizeBytes_dvd_base (s : State) (sz : Size) : sizeBytes sz ∣ s.base := by
  have hw : sizeBytes sz ∣ windowBytes := by cases sz <;> decide
  exact hw.mul_left _

/-- An aligned access that begins below the window ends below it. -/
theorem add_size_le_base (ha : aligned off sz = true) (hlt : off < s.base) : off + sizeBytes sz ≤ s.base := by
  obtain ⟨p, hp⟩ := sizeBytes_dvd_base s sz
  obtain ⟨q, rfl⟩ := aligned_iff_dvd.1 ha
  rw [hp] at hlt ⊢
  have hqp : q < p := Nat.lt_of_mul_lt_mul_left hlt
  calc sizeBytes sz * q + sizeBytes sz = sizeBytes sz * (q + 1) := by ring
    _ ≤ sizeBytes sz * p := Nat.mul_le_mul_left _ hqp

/-- The base is a multiple of the window's size, so an aligned access outside the window does not reach into it (R165). -/
theorem memByte_outside (s : State) (w : Bool) {a : Nat} (sz : Size) (data : Data) (f : Bool) (ha : aligned a sz = true)
    (hout : s.inWindow a = false) (hx : x < windowBytes) : (s.outside w a sz data f).memByte (s.base + x) = s.memByte (s.base + x) := by
  have hclear : s.base + x < a ∨ a + sizeBytes sz ≤ s.base + x := by
    simp only [State.inWindow, Bool.and_eq_false_iff, decide_eq_false_iff_not] at hout
    rcases hout with hbelow | habove
    · have := add_size_le_base (s := s) ha (by omega)
      omega
    · omega
  have hstore := plainStore_memByte_ne s a (sizeBytes sz) data f (s.base + x) hclear
  unfold State.outside
  split
  · split <;> exact hstore
  · split <;> rfl

theorem mem_asStation_readWindow (s : State) (code : StationCode) (off : Nat) (sz : Size) (f : Bool) :
    (asStation code s fun st => s.readWindow st off sz f).mem = s.mem := mem_asStation fun st => mem_readWindow s st sz off f

theorem mem_access_read (s : State) (code : StationCode) (addr : Word) (sz : Size) (data : Data) (f : Bool) :
    (s.access code false addr sz data f).mem = s.mem := by
  unfold State.access
  split
  · simp only [Bool.false_eq_true, if_false]
    exact mem_asStation_readWindow s code _ sz f
  · unfold State.outside
    rw [if_neg Bool.false_ne_true]
    split <;> rfl

theorem admitted_of_access_write {addr : Word} {data : Data} {f : Bool} (ha : aligned addr.toNat sz = true)
    (hx : ownerOf x = some k)
    (hne : (s.access code true addr sz data f).memByte (s.base + x) ≠ s.memByte (s.base + x)) : WriterAdmitted s code k := by
  have hwindow : x < windowBytes := (ownerOf_lt hx).trans (by decide)
  unfold State.access at hne
  split at hne
  · simp only [if_true] at hne
    have hoff : aligned (addr.toNat - s.base) sz = true :=
      aligned_iff_dvd.2 (Nat.dvd_sub (aligned_iff_dvd.1 ha) (sizeBytes_dvd_base s sz))
    exact admitted_of_asStation _ (fun st h => admits_of_writeWindow hoff hx h) hne
  · rename_i hin
    exact absurd (memByte_outside s true sz data f ha (by simpa using hin) hwindow) hne

theorem admitted_of_access {w : Bool} {addr : Word} {data : Data} {f : Bool} (ha : aligned addr.toNat sz = true)
    (hx : ownerOf x = some k)
    (hne : (s.access code w addr sz data f).memByte (s.base + x) ≠ s.memByte (s.base + x)) :
    w = true ∧ WriterAdmitted s code k := by
  cases w with
  | false => exact absurd (memByte_congr (mem_access_read s code addr sz data f) _) hne
  | true => exact ⟨rfl, admitted_of_access_write ha hx hne⟩

end Sys2Proof.Machine
end


section
/-! PROOFS. Over all commands, a story's bytes change only by its admitted writes (R35). -/

namespace Sys2Proof.Machine

open Safety

variable {s t : State} {k : StoryId} {x : Nat}

/-- The write of a notice stores above the headers (R109). -/
theorem memByte_ringWriteComplete (s : State) (f : Bool) {a : Nat} (ha : a < s.base + 0x1020000) :
    (s.ringWriteComplete f).memByte a = s.memByte a := by
  have hstored : ∀ w, (s.ringWriteStored w f).memByte a = s.memByte a := fun w => by
    have hlt : a < s.ringAddr w.recipient (16 * w.slot) := by simp only [State.ringAddr]; omega
    generalize hb : s.ringWriteBytes w = bs
    have hstore : ∀ cs, (s.store (s.ringAddr w.recipient (16 * w.slot)) cs).memByte a = s.memByte a := fun cs =>
      get_storeBytes_ne cs s.mem _ a (.inl hlt)
    rw [State.ringWriteStored, hb]
    split
    · exact hstore _
    · exact hstore bs
  unfold State.ringWriteComplete
  split
  · rfl
  · rename_i w _
    split
    · exact hstored w
    · split
      · refine (memByte_congr ?_ a).trans (hstored w)
        simp
      · refine (memByte_congr ?_ a).trans (hstored w)
        simp [State.advanceRing]

theorem sizeBytes_dvd (sz : Size) : sizeBytes sz ∣ 64 := by cases sz <;> decide

theorem admits_of_writeText {st : Station} {j : StoryId} {pos : Nat} {sz : Size} {data : Data} {f : Bool}
    (ha : aligned pos sz = true) (hpos : pos < 8192) (hx : ownerOf x = some k)
    (hne : (s.writeText st j pos sz data f).memByte (s.base + x) ≠ s.memByte (s.base + x)) : admits s st k := by
  obtain ⟨hadm, h1, h2⟩ := memByte_writeText s st j pos sz data f _ hne
  have haligned : aligned (j.val * 8192 + pos) sz = true :=
    aligned_iff_dvd.2 ((((sizeBytes_dvd sz).trans (by decide : 64 ∣ 8192)).mul_left _).add (aligned_iff_dvd.1 ha))
  have hown := ownerOf_access (x := x) haligned (by simp only [State.textAddr] at h1; omega)
    (by simp only [State.textAddr] at h2; omega)
  rw [hx, ownerOf_text hpos] at hown
  exact Option.some.inj hown ▸ hadm

theorem aligned_header (j : StoryId) {off : Nat} {sz : Size} (ha : aligned off sz = true) :
    aligned (0x1000000 + j.val * 64 + off) sz = true :=
  aligned_iff_dvd.2 ((((sizeBytes_dvd sz).trans (by decide)).add ((sizeBytes_dvd sz).mul_left _)).add (aligned_iff_dvd.1 ha))

/-- A taken access is aligned (R166). -/
theorem aligned_of_next {b : Bool} {a : State}
    (h : (if b then (.next a : Host.Outcome State Fault Refusal) else .refused .misaligned) = .next t) : b = true := by
  by_contra hb
  rw [if_neg hb] at h
  cases h

/-- A command that changes a byte of a story's text or header is a write admitted for the story. -/
theorem exec_storyByte (c : Instr) (h : exec c s = .next t) (hx : ownerOf x = some k)
    (hne : t.memByte (s.base + x) ≠ s.memByte (s.base + x)) :
    ∃ code, writerCode c = some code ∧ WriterAdmitted s code k := by
  have keeps : t.mem = s.mem → ∃ code, writerCode c = some code ∧ WriterAdmitted s code k :=
    fun hm => absurd (memByte_congr hm _) hne
  have aside : (∀ {code op}, t = asStation code s op → (∀ st, (op st).mem = s.mem) →
      ∃ code, writerCode c = some code ∧ WriterAdmitted s code k) := fun ht hop => keeps (by rw [ht]; exact mem_asStation hop)
  have outer : Machine.outer t = Machine.outer s → ∃ code, writerCode c = some code ∧ WriterAdmitted s code k :=
    fun ho => keeps (mem_of_outer ho)
  cases c with
  | textWrite code k pos sz data f =>
    cases next_of_aligned h
    exact ⟨code, rfl, admitted_of_asStation _ (fun st hne => admits_of_writeText (aligned_of_next h) pos.isLt hx hne) hne⟩
  | headerPlainWrite code k off sz data f =>
    cases next_of_aligned h
    exact ⟨code, rfl, admitted_of_asStation _
      (fun st hne => admits_of_writeWindow (aligned_header k (aligned_of_next h)) hx hne) hne⟩
  | plainPassThrough code w addr sz data f =>
    cases next_of_aligned h
    obtain ⟨rfl, hadm⟩ := admitted_of_access (aligned_of_next h) hx hne
    exact ⟨code, rfl, hadm⟩
  | accessOutsideWindow code w addr sz data f =>
    cases next_of_aligned h
    obtain ⟨rfl, hadm⟩ := admitted_of_access (aligned_of_next h) hx hne
    exact ⟨code, rfl, hadm⟩
  | liveWordWrite code addr sz data f =>
    cases next_of_aligned h
    exact ⟨code, rfl, admitted_of_access_write (aligned_of_next h) hx hne⟩
  | ringSlotWrite code owner off sz data f =>
    cases next_of_aligned h
    have hlt : s.base + x < s.base + 0x1020000 := Nat.add_lt_add_left (ownerOf_lt hx) _
    exact ⟨code, rfl, admitted_of_asStation _ (fun st hne => absurd (memByte_writeRing s st owner _ sz data f hlt) hne) hne⟩
  | ringWriteComplete f =>
    cases next_inj h
    exact absurd (memByte_ringWriteComplete s f (Nat.add_lt_add_left (ownerOf_lt hx) _)) hne
  | powerOn strap present => cases next_inj h; exact keeps rfl
  | busReset => cases next_inj h; exact keeps (mem_busReset s)
  | ringWriteStart => cases next_inj h; exact keeps (mem_ringWriteStart s)
  | textRead code k pos sz f => exact aside (next_of_aligned h).symm fun st => mem_readText s st sz k _ f
  | claim code k sz => exact aside (next_inj h).symm fun st => mem_writeHold s st sz _ k
  | release code k sz => exact aside (next_inj h).symm fun st => mem_writeHold s st sz _ k
  | breakHold code k sz => exact aside (next_inj h).symm fun st => mem_writeHold s st sz _ k
  | routeToBasket code k sz b p => exact aside (next_inj h).symm fun st => mem_writeRoute s st sz k _
  | routeToNone code k sz => exact aside (next_inj h).symm fun st => mem_writeRoute s st sz k _
  | purge code k sz => exact aside (next_inj h).symm fun st => mem_writeRoute s st sz k _
  | reopen code k sz => exact aside (next_inj h).symm fun st => mem_writeState s st sz _ k
  | limitWrite code b sz v => exact aside (next_inj h).symm fun st => mem_writeLimit s st sz v b
  | watchersWrite code b k sz v => exact aside (next_inj h).symm fun st => mem_writeWatchers s st sz v b k
  | sizeWrite code f sz v => exact aside (next_inj h).symm fun st => mem_writeFont s st sz f _
  | leadingWrite code f sz v => exact aside (next_inj h).symm fun st => mem_writeFont s st sz f _
  | widthTableWrite code f c sz v => exact aside (next_of_aligned h).symm fun st => mem_writeFont s st sz f _
  | standardMeasureWrite code sz v => exact aside (next_inj h).symm fun st => mem_writeStandard s st sz v
  | editionWrite code sz v => exact aside (next_inj h).symm fun st => mem_writeEdition s st sz v
  | holdWaitWrite code sz v => exact aside (next_inj h).symm fun st => mem_writeHoldWait s st sz v
  | attentionEnableWrite code sz v => exact aside (next_inj h).symm fun st => mem_writeEnables s st sz v
  | noticeReadIndexWrite code o sz v => exact aside (next_inj h).symm fun st => mem_writeReadIndex s st sz v o
  | signOn code o sz => exact aside (next_inj h).symm fun st => mem_writeControl s st sz _ o
  | signOff code o sz => exact aside (next_inj h).symm fun st => mem_writeControl s st sz _ o
  | rightsWrite code o sz v => exact aside (next_inj h).symm fun st => mem_writeRights s st sz v o
  | columnWidthWrite code p sz v => exact aside (next_inj h).symm fun st => mem_writeWidth s st sz v p
  | gutterWrite code p sz v => exact aside (next_inj h).symm fun st => mem_writeGutter s st sz v p
  | columnDepthWrite code p sz v => exact aside (next_inj h).symm fun st => mem_writeColumnDepth s st sz v p
  | place code p n sz k => exact aside (next_inj h).symm fun st => mem_writeStory s st sz _ p n
  | remove code p n sz => exact aside (next_inj h).symm fun st => mem_writeStory s st sz _ p n
  | spanWrite code p n sz v => exact aside (next_inj h).symm fun st => mem_writeSpan s st sz v p n
  | allowanceWrite code p n sz v => exact aside (next_inj h).symm fun st => mem_writeAllowance s st sz v p n
  | policyWrite code p n sz v => exact aside (next_inj h).symm fun st => mem_writePolicy s st sz v p n
  | dispatch code p sz => exact aside (next_inj h).symm fun st => mem_writeCommand s st sz _ p
  | cancel code p sz => exact aside (next_inj h).symm fun st => mem_writeCommand s st sz _ p
  | linkStatusRead code off sz f => exact aside (next_of_aligned h).symm fun st => mem_readWords s st sz _ f
  | measurePassTaken => cases next_inj h; exact outer (outer_takePass s)
  | measureTextRead => cases next_inj h; exact outer (outer_measureBlock s)
  | measurePassCompletion => cases next_inj h; exact outer (outer_completePass s)
  | measureFault => cases next_inj h; exact outer (outer_faultPass s)
  | fontWaitExpiry => cases next_inj h; exact outer (outer_fontWaitExpiry s)
  | holdWaitExpiry => cases next_inj h; exact outer (outer_holdWaitExpiry s)
  | sendTextRead f => cases next_inj h; exact outer (outer_sendTextRead s f)
  | typesetterPresentHigh => cases next_inj h; exact outer (outer_presentHigh s)
  | typesetterPresentLow => cases next_inj h; exact outer (outer_presentLow s)
  | trainingTimerExpiry => cases next_inj h; exact outer (outer_trainingExpiry s)
  | typesetterAbility m l => cases next_inj h; exact outer (outer_frameArrives s _)
  | ack => cases next_inj h; exact outer (outer_frameArrives s _)
  | nak r => cases next_inj h; exact outer (outer_frameArrives s _)
  | wait => cases next_inj h; exact outer (outer_frameArrives s _)
  | ready => cases next_inj h; exact outer (outer_frameArrives s _)
  | waitTimerExpiry => cases next_inj h; exact outer (outer_waitExpiry s)
  | replyTimerExpiry => cases next_inj h; exact outer (outer_replyExpiry s)
  | tryEnd => cases next_inj h; exact outer (outer_tryEnd s)
  | receiverGapExpiry => cases next_inj h; exact outer (outer_gapExpiry s)
  | incomingByte b => cases next_inj h; exact outer (outer_byteArrives s b)
  | timebaseTick => cases next_inj h; exact keeps rfl
  | partAbilityEnd => cases next_inj h; exact outer (outer_abilityEnd s)

/-- A byte of a story's text or header is a byte of the window that is the story's own. -/
theorem ownerOf_address {a : Nat} (h : (∃ i, i < 8192 ∧ a = s.textAddr k i) ∨ ∃ i, i < 64 ∧ a = s.headerAddr k i) :
    ∃ x, ownerOf x = some k ∧ a = s.base + x := by
  rcases h with ⟨i, hi, rfl⟩ | ⟨i, hi, rfl⟩
  · exact ⟨_, ownerOf_text hi, Nat.add_assoc _ _ _⟩
  · refine ⟨_, ownerOf_header hi, ?_⟩
    simp only [State.headerAddr]
    omega

/-- A write refused for its sender's code, or by the admission test, changes no byte (R36, R167). -/
theorem refused_of_not_admitted {code : StationCode} (u : Station → State)
    (h : ∀ st, stationOf code = some st → ¬ admits s st k) :
    (asStation code s fun st => testing st (s.admission st k) s (u st)).bus = refuseBus ∧
      (asStation code s fun st => testing st (s.admission st k) s (u st)).mem = s.mem := by
  cases hst : stationOf code with
  | none => rw [asStation_none hst]; exact ⟨rfl, rfl⟩
  | some st =>
    rw [asStation_some hst]
    exact (mem_admitted (h st hst)).symm

theorem exec_textWrite_any {code : StationCode} {pos : Fin 8192} {sz : Size} (ha : aligned pos.val sz = true) (data : Data)
    (f : Bool) : exec (.textWrite code k pos sz data f) s =
      .next (asStation code s fun st => testing st (s.admission st k) s (s.textAdmitted st k pos.val sz data f)) := by
  show (if aligned pos.val sz = true then _ else _) = _
  rw [if_pos ha]
  rfl

theorem exec_headerPlainWrite_any {code : StationCode} {off : Fin 64} {sz : Size} (ha : aligned off.val sz = true)
    (hl : 0x1C ≤ off.val) (data : Data) (f : Bool) : exec (.headerPlainWrite code k off sz data f) s =
      .next (asStation code s fun st => testing st (s.admission st k) s
        ((s.plainStore (s.headerAddr k off.val) (sizeBytes sz) data f).plainAnswer st f)) := by
  show (if aligned off.val sz = true then _ else _) = _
  rw [if_pos ha]
  refine congrArg _ (congrArg (asStation code s) (funext fun st => ?_))
  exact writeWindow_headerPlain k st ha hl off.isLt data f

/-- Settles O19: memory is written at a story's addresses under the admission test only, and the test is R35's condition. -/
theorem textChangesOnlyUnderAdmission : Obligations.TextChangesOnlyUnderAdmission := by
  refine ⟨fun c s t k a h hplace hne => ?_, fun s code k pos off sz data f hpos hoff hl hadm => ⟨?_, ?_⟩⟩
  · obtain ⟨x, hx, rfl⟩ := ownerOf_address hplace
    obtain ⟨code, hcode, st, hst, hadm⟩ := exec_storyByte c h hx hne
    exact ⟨code, st, hcode, hst, hadm⟩
  · exact ⟨_, exec_textWrite_any hpos data f, refused_of_not_admitted _ fun st hst ha => hadm st hst ha.2⟩
  · exact ⟨_, exec_headerPlainWrite_any hoff hl data f, refused_of_not_admitted _ fun st hst ha => hadm st hst ha.2⟩

end Sys2Proof.Machine
end


section
/-! PROOFS. The releases of a sign-off (R33, R138, R139): the holds of one station end in turn, while others keep theirs. -/

namespace Sys2Proof.Machine

open Safety

variable {s t : State} {u : TerminalId} {l : List StoryId} {e : Queued} {r : Resting}

/-! ## Releases of some of the holds -/

/-- A slot waits after several holds have ended when it waits for its measure, or for a hold that is not among them. -/
theorem slotStalls_unhold (s : State) (l : List StoryId) (sl : Slot) : slotStalls (s.unhold l) sl ↔
    ((s.story sl.story).holder ≠ none ∧ sl.story ∉ l) ∨ (s.story sl.story).depth.status = .stale ∨
      (s.story sl.story).depth.status = .measuring := by
  rw [slotStalls, unhold_keeps, unhold_story]
  by_cases h : sl.story ∈ l <;> simp [h]

/-- A slot that waits after several holds have ended waited before. -/
theorem slotStalls_of_unhold {sl : Slot} (h : slotStalls (s.unhold l) sl) : slotStalls s sl :=
  ((slotStalls_unhold s l sl).1 h).imp_left And.left

theorem slotFails_lost {k : StoryId} (hnone : ∀ n sl c, s.slotOf e.page n = some sl → ¬ slotFails s sl c) :
    ∀ n sl c, (s.loseHold k).slotOf e.page n = some sl → ¬ slotFails (s.loseHold k) sl c := fun n sl c hn => by
  rw [slotFails_loseHold]
  exact hnone n sl c (by rwa [slotOf_loseHold] at hn)

/-- A release changes no more than the hold unless it lets the WAITING head page pass. -/
theorem releaseHold_waits {k : StoryId} (hw : s.waitingHead = some e)
    (hnone : ∀ n sl c, s.slotOf e.page n = some sl → ¬ slotFails s sl c)
    (h : (s.story k).closing = false ∨ ∃ n sl, s.slotOf e.page n = some sl ∧ slotStalls (s.loseHold k) sl) :
    s.releaseHold k = s.loseHold k := by
  rcases h with h | ⟨n, sl, hn, hs⟩
  · exact handEvent_quiet _ k (.inl (by rw [(loseHold_keeps s k k).2, h]))
  · rw [State.releaseHold, State.handEvent]
    split
    · refine evaluate_waits (by rw [loseHold_waitingHead, hw]) (verdict_waits (n := n) (slotFails_lost hnone) ?_ hs)
      rw [slotOf_loseHold, hn]
    · rfl

/-- Releases with no slot that fails, one of them of a closing story: the page goes on waiting if a slot waits at the end of them,
and is sent at the release that leaves none waiting otherwise. -/
theorem releases_unfailed (hw : s.waitingHead = some e) (hst : (s.page e.page).state = .waiting r)
    (hnone : ∀ n sl c, s.slotOf e.page n = some sl → ¬ slotFails s sl c)
    (hcl : ∀ n sl, s.slotOf e.page n = some sl → (s.story sl.story).closing = true)
    (hk : ∃ k ∈ l, (s.story k).closing = true) :
    ((∃ n sl, s.slotOf e.page n = some sl ∧ slotStalls (s.unhold l) sl) → l.foldl State.releaseHold s = s.unhold l) ∧
    ((∀ n sl, s.slotOf e.page n = some sl → ¬ slotStalls (s.unhold l) sl) → s.pageStories e.page ≠ [] →
      sendStarts e r (s.unhold l) (l.foldl State.releaseHold s)) := by
  induction l generalizing s with
  | nil => obtain ⟨k, hk, -⟩ := hk; cases hk
  | cons k l ih =>
    have hw' : (s.loseHold k).waitingHead = some e := by rw [loseHold_waitingHead, hw]
    have hst' : ((s.loseHold k).page e.page).state = .waiting r := by rw [page_loseHold, hst]
    have hclosing : ∀ j, ((s.loseHold k).story j).closing = (s.story j).closing := fun j => (loseHold_keeps s k j).2
    rw [List.foldl_cons, unhold_cons]
    by_cases hwait : (s.story k).closing = false ∨ ∃ n sl, s.slotOf e.page n = some sl ∧ slotStalls (s.loseHold k) sl
    · rw [releaseHold_waits hw hnone hwait]
      by_cases hrest : ∃ j ∈ l, (s.story j).closing = true
      · have := ih hw' hst' (slotFails_lost hnone) (by simpa only [slotOf_loseHold, hclosing]) (by simpa only [hclosing])
        simpa only [slotOf_loseHold, pageStories_loseHold] using this
      · have hquiet : ∀ j ∈ l, (s.story j).closing = false := by simpa using hrest
        rw [releases_quiet (.inr fun j hj => (hclosing j).trans (hquiet j hj))]
        refine ⟨fun _ => rfl, fun hpass => ?_⟩
        obtain ⟨j, hj, hjc⟩ := hk
        have hkc : (s.story k).closing = true := by
          rcases List.mem_cons.1 hj with rfl | hj
          · exact hjc
          · exact absurd ⟨j, hj, hjc⟩ hrest
        obtain ⟨n, sl, hn, hs⟩ := hwait.resolve_left (by rw [hkc]; exact Bool.noConfusion)
        refine absurd ((slotStalls_unhold _ l sl).2 (hs.imp_left fun h => ⟨h, fun hl => ?_⟩)) (hpass n sl hn)
        exact hrest ⟨sl.story, hl, hcl n sl hn⟩
    · push Not at hwait
      obtain ⟨hkc, hgo⟩ := hwait
      have hpass : (s.loseHold k).verdict e.page = .passes :=
        verdict_passes (slotFails_lost hnone) fun n sl hn => hgo n sl (by rwa [slotOf_loseHold] at hn)
      have hsend : s.releaseHold k = (s.loseHold k).enterSending e := by
        rw [State.releaseHold, State.handEvent, hclosing, if_pos (by simpa using hkc), evaluate_passes hw' hpass]
      refine ⟨fun ⟨n, sl, hn, hs⟩ => absurd (slotStalls_of_unhold hs) (hgo n sl hn), fun _ hne => ?_⟩
      have hstart := sendStarts_enterSending hst' (by rwa [pageStories_loseHold])
      rw [hsend, releases_quiet (.inl (sendStarts_waitingHead hstart hw'))]
      exact sendStarts_unhold hstart l

/-- Once the holds of a list have ended, one of them on a closing story, the WAITING head page has been evaluated. -/
theorem someReleases_evaluated (hw : s.waitingHead = some e) (hst : (s.page e.page).state = .waiting r)
    (hcl : ∀ n sl, s.slotOf e.page n = some sl → (s.story sl.story).closing = true)
    (hroom : s.stations.outgoing.length < 256) (hk : ∃ k ∈ l, (s.story k).closing = true) :
    evaluated e r (s.unhold l) (l.foldl State.releaseHold s) := by
  have hpages : (s.unhold l).pageStories e.page = s.pageStories e.page := by rw [unhold_frame]; rfl
  simp only [evaluated, slotOf_unhold, slotFails_unhold, failedAt_unhold, hpages]
  refine ⟨fun n sl c hn hc hlt hq he _ => ?_, fun hnone => releases_unfailed hw hst hnone hcl hk⟩
  rw [unhold_frame] at hq he
  exact releases_fail hw hst hq he hroom hn hc hlt hk

end Sys2Proof.Machine
end


section
/-! PROOFS. SIGN_OFF (R33, R103, R113, R172): what comes after the releases leaves an evaluation as it is. -/

namespace Sys2Proof.Machine

open Safety

variable {s t : State} {u : TerminalId} {e : Queued} {r : Resting}

/-! ## After the releases -/

/-- The station unit's part of a sign-off (R113, R172): notices under way, sign state, ring and lines. -/
def State.recordOff (s : State) (u : TerminalId) : State :=
  ((s.discardNotices (.terminal u)).setTerminal u { s.terminal u with signedOn := false, ring := emptyRing }).refreshLines

/-- A sign-off once its releases are done. -/
def State.signedOff (s : State) (u : TerminalId) : State := (s.dropViews u).recordOff u

theorem signOffTaken_eq (s : State) (u : TerminalId) :
    s.signOffTaken u = ((s.heldBy (.terminal u)).foldl State.releaseHold s).signedOff u := rfl

/-- The notices not for a terminal. -/
def notFor (u : TerminalId) (l : List Outgoing) : List Outgoing := l.filter fun o => o.recipient != .terminal u

/-- What an evaluation sets comes before or after the rest of a sign-off. -/
theorem signedOff_reworked (s : State) (u : TerminalId) (S : Table Story) (P : PageUnit) (D : DispatchUnit) (L : Link)
    (O : List Outgoing) : (s.reworked S P D L O).signedOff u =
      (s.recordOff u).reworked ((s.reworked S P D L O).dropViews u).stories P D L (notFor u O) := by
  rw [State.signedOff, dropViews_frame]
  rfl

theorem signedOff_eq (s : State) (u : TerminalId) : s.signedOff u =
    (s.recordOff u).reworked (s.dropViews u).stories s.pages s.dispatch s.link (notFor u s.stations.outgoing) :=
  signedOff_reworked s u s.stories s.pages s.dispatch s.link s.stations.outgoing

/-- A sign-off keeps all of a story but its viewers (R103). -/
theorem story_signedOff (s : State) (u : TerminalId) (j : StoryId) : (s.signedOff u).story j =
    { s.story j with viewers := (s.story j).viewers.filter fun x => x.terminal != u } := story_dropViews s u j

theorem page_signedOff (s : State) (u : TerminalId) (p : PageId) : (s.signedOff u).page p = s.page p := by
  rw [signedOff_eq]; rfl

theorem slotOf_signedOff (s : State) (u : TerminalId) (p : PageId) (n : SlotId) :
    (s.signedOff u).slotOf p n = s.slotOf p n := by
  rw [State.slotOf, page_signedOff]; rfl

theorem pageStories_signedOff (s : State) (u : TerminalId) (p : PageId) : (s.signedOff u).pageStories p = s.pageStories p := by
  rw [State.pageStories, page_signedOff]; rfl

theorem memByte_signedOff (s : State) (u : TerminalId) (a : Nat) : (s.signedOff u).memByte a = s.memByte a := by
  rw [signedOff_eq]; rfl

theorem terminal_signedOff (s : State) (u v : TerminalId) : (s.signedOff u).terminal v =
    if v = u then { s.terminal v with signedOn := false, ring := emptyRing } else s.terminal v := by
  rw [signedOff_eq]
  refine (terminal_setTerminal (s.discardNotices (.terminal u)) v u _).trans ?_
  split
  · rename_i h; rw [h]
  · rfl

theorem lineLaw_signedOff (s : State) (u : TerminalId) : LineLaw (s.signedOff u) := refreshLines_lineLaw _

/-! ## An evaluation before it -/

theorem slotFails_signedOff (s : State) (u : TerminalId) (sl : Slot) (c : Cause) :
    slotFails (s.signedOff u) sl c ↔ slotFails s sl c := by
  have hl : (s.signedOff u).link = s.link := by rw [signedOff_eq]; rfl
  simp only [slotFails, story_signedOff, hl]

theorem slotStalls_signedOff (s : State) (u : TerminalId) (sl : Slot) : slotStalls (s.signedOff u) sl ↔ slotStalls s sl := by
  simp only [slotStalls, story_signedOff]

theorem failedAt_signedOff (s : State) (u : TerminalId) (e : Queued) (c : Cause) (n : SlotId) (k : StoryId) :
    failedAt (s.signedOff u) e c n k = failedAt s e c n k := by
  have hp : (s.signedOff u).pages = s.pages ∧ (s.signedOff u).timebase = s.timebase := by rw [signedOff_eq]; exact ⟨rfl, rfl⟩
  simp only [failedAt, State.storyNotice, State.plainNotice, story_signedOff, hp.1, hp.2]

theorem waitingFails_signedOff {c : Cause} {o : Outgoing} (ho : o.recipient = .system) (h : waitingFails e r c o s t) :
    waitingFails e r c o (s.signedOff u) (t.signedOff u) := by
  obtain ⟨⟨h1, h2, h3, h4, h5⟩, h6, h7⟩ := h
  have hre : t = s.reworked t.stories { s.pages with pages := t.pages.pages } t.dispatch t.link (s.stations.outgoing ++ [o]) := h1
  have hfor : notFor u (s.stations.outgoing ++ [o]) = notFor u s.stations.outgoing ++ [o] := by
    simp [notFor, ho]
  have ht := signedOff_reworked s u t.stories { s.pages with pages := t.pages.pages } t.dispatch t.link (s.stations.outgoing ++ [o])
  rw [← hre, hfor] at ht
  refine ⟨⟨?_, by rw [page_signedOff, page_signedOff, h2], fun q hq => by rw [page_signedOff, page_signedOff, h3 q hq],
    fun j => ?_, fun a => by rw [memByte_signedOff, memByte_signedOff, h5]⟩, ?_, ?_⟩
  · rw [ht, signedOff_eq s u]; rfl
  · rw [story_signedOff, story_signedOff, h4, pageStories_signedOff]
  · rw [ht, signedOff_eq s u]; exact h6
  · rw [ht, signedOff_eq s u]; exact h7

/-- The stories a sign-off leaves depend on the stories before it. -/
theorem dropViews_stories (h : t.stories = s.stories) (u : TerminalId) : (t.dropViews u).stories = (s.dropViews u).stories := by
  have hfold : ∀ (l : List StoryId) {s t : State}, t.stories = s.stories →
      (l.foldl (fun w k => w.dropViewer k u) t).stories = (l.foldl (fun w k => w.dropViewer k u) s).stories := by
    intro l
    induction l with
    | nil => exact id
    | cons k l ih =>
      intro s t h
      refine ih ?_
      simp only [State.dropViewer, State.setStory, State.story, h]
  simp only [State.dropViews, State.viewedBy, State.storiesWhere, State.story, h]
  exact hfold _ h

theorem sendStarts_signedOff (h : sendStarts e r s t) : sendStarts e r (s.signedOff u) (t.signedOff u) := by
  obtain ⟨h1, h2, h3, n, sl, hn, hlt, hd⟩ := h
  set L : Link := { s.link with
    outstanding := some { frame := beginFrame s e, tries := 1 }
    transmitter := s.link.transmitter ++ if s.link.waitHold then [] else [.attempt (beginFrame s e) true] } with hL
  have hre : t = s.reworked s.stories { s.pages with pages := t.pages.pages } t.dispatch L s.stations.outgoing := h1
  have hframe : beginFrame (s.signedOff u) e = beginFrame s e := by rw [beginFrame, page_signedOff, beginFrame]
  have hreader : (s.signedOff u).newReader sl = s.newReader sl := by rw [State.newReader, story_signedOff, State.newReader]
  have hdrop : (t.dropViews u).stories = (s.dropViews u).stories := dropViews_stories (by rw [h1]) u
  have ht := signedOff_reworked s u s.stories { s.pages with pages := t.pages.pages } t.dispatch L s.stations.outgoing
  rw [← hre, hdrop] at ht
  refine ⟨?_, by rw [page_signedOff, page_signedOff, h2], fun q hq => by rw [page_signedOff, page_signedOff, h3 q hq],
    n, sl, by rw [slotOf_signedOff, hn], fun m hm => by rw [slotOf_signedOff, hlt m hm], ?_⟩
  · rw [hframe, ht, signedOff_eq s u]; rfl
  · rw [hreader, ht, signedOff_eq s u]; exact hd

/-- The rest of a sign-off changes nothing of the evaluation that its releases cause. -/
theorem evaluated_signedOff (hroom : s.stations.outgoing.length < 256) (h : evaluated e r s t) :
    evaluated e r (s.signedOff u) (t.signedOff u) := by
  have hdisp : (s.signedOff u).dispatch = s.dispatch := by rw [signedOff_eq]; rfl
  simp only [evaluated, slotOf_signedOff, slotFails_signedOff, slotStalls_signedOff, failedAt_signedOff,
    pageStories_signedOff, hdisp]
  refine ⟨fun n sl c hn hc hlt hq he _ => ?_, fun hnone => ⟨fun hs => ?_, fun hpass hne => ?_⟩⟩
  · exact waitingFails_signedOff rfl (h.1 n sl c hn hc hlt hq he hroom)
  · rw [(h.2 hnone).1 hs]
  · exact sendStarts_signedOff ((h.2 hnone).2 hpass hne)

end Sys2Proof.Machine
end


section
/-! PROOFS. CONTROL and RIGHTS (R172, R173): sign-on, sign-off and rights taken, and the order of their refusals. -/

namespace Sys2Proof.Machine

open Safety

variable {s t : State} {code : StationCode} {st owner : Station} {u w : TerminalId} {l : List StoryId} {e : Queued}

/-! ## What the loss of one station's holds leaves of the terminals (R23) -/

/-- The loss of holds changes nothing of a terminal but its hold count. -/
theorem unhold_record (s : State) (l : List StoryId) (w : TerminalId) : (s.unhold l).terminal w =
    { s.terminal w with holdCount := ((s.unhold l).terminal w).holdCount } := by
  induction l generalizing s with
  | nil => rfl
  | cons k l ih =>
    rw [unhold_cons, ih, terminal_loseHold]
    split <;> rfl

/-- A terminal that holds none of some stories keeps its record as their holds end. -/
theorem unhold_terminal_free (h : ∀ k ∈ l, (s.story k).holder ≠ some (.terminal w)) :
    (s.unhold l).terminal w = s.terminal w := by
  induction l generalizing s with
  | nil => rfl
  | cons k l ih =>
    rw [unhold_cons, ih fun j hj => ?_, terminal_loseHold, if_neg (h k List.mem_cons_self)]
    rw [loseHold_story]
    split
    · exact fun hn => by cases hn
    · exact h j (List.mem_cons_of_mem _ hj)

/-- Hold counts go on counting the stories held. -/
theorem unhold_count (h : ∀ v, (s.terminal v).holdCount = heldCount s v) (v : TerminalId) :
    ((s.unhold l).terminal v).holdCount = heldCount (s.unhold l) v := by
  refine foldl_invariant (fun t => ∀ v, (t.terminal v).holdCount = heldCount t v) State.loseHold (fun t k h v => ?_) l s h v
  cases hk : (t.story k).holder with
  | none => rw [loseHold_free t k hk]; exact h v
  | some st =>
    have hre := reheld_loseHold t k st hk
    have hmoved := hre.count v (h v)
    have hcount := heldCount_update hre.holder v
    have hbefore := h v
    omega

theorem mem_heldBy (s : State) (st : Station) (k : StoryId) : k ∈ s.heldBy st ↔ (s.story k).holder = some st := by
  rw [State.heldBy, mem_storiesWhere rfl, beq_iff_eq]

/-- The state in which a terminal's holds have ended. -/
def State.freed (s : State) (u : TerminalId) : State := s.unhold (s.heldBy (.terminal u))

theorem story_freed (s : State) (u : TerminalId) (k : StoryId) : (s.freed u).story k =
    { s.story k with holder := if (s.story k).holder = some (.terminal u) then none else (s.story k).holder } := by
  rw [State.freed, unhold_story]
  simp only [mem_heldBy]
  split <;> rfl

theorem terminal_freed (hh : HoldLaw s) : (s.freed u).terminal u = { s.terminal u with holdCount := 0 } := by
  have hnone : heldCount (s.freed u) u = 0 := by
    refine List.countP_eq_zero.2 fun k _ => ?_
    rw [story_freed]
    by_cases h : (s.story k).holder = some (.terminal u) <;> simp [h]
  rw [State.freed, unhold_record, unhold_count hh.count]
  exact congrArg (fun n => { s.terminal u with holdCount := n }) hnone

theorem terminal_freed_ne (h : w ≠ u) : (s.freed u).terminal w = s.terminal w :=
  unhold_terminal_free fun k hk hw => h (by
    rw [(mem_heldBy s _ k).1 hk] at hw
    cases hw
    rfl)

/-! ## The requests -/

theorem exec_signOn (hst : stationOf code = some st) (owner : Station) (sz : Size) :
    exec (.signOn code owner sz) s = .next (s.writeControl st owner sz signOnCode) := by
  show Host.Outcome.next (asStation code s _) = _
  rw [asStation_some hst]

theorem exec_signOff (hst : stationOf code = some st) (owner : Station) (sz : Size) :
    exec (.signOff code owner sz) s = .next (s.writeControl st owner sz signOffCode) := by
  show Host.Outcome.next (asStation code s _) = _
  rw [asStation_some hst]

theorem exec_rightsWrite (hst : stationOf code = some st) (owner : Station) (sz : Size) (v : Word) :
    exec (.rightsWrite code owner sz v) s = .next (s.writeRights st owner sz v) := by
  show Host.Outcome.next (asStation code s _) = _
  rw [asStation_some hst]

/-- A terminal's CONTROL, once R172's tests are passed. -/
theorem writeControl_word (hst : st = .system ∨ st = .terminal u) :
    s.writeControl st (.terminal u) .word signOnCode = s.signTaken u true ∧
    s.writeControl st (.terminal u) .word signOffCode = s.signTaken u false := by
  have hpass : (isTerminal st && st != .terminal u) = false := by rcases hst with rfl | rfl <;> simp [isTerminal]
  simp only [State.writeControl, testing_cons, testing_nil, hpass]
  exact ⟨rfl, rfl⟩

theorem exec_signOn_word (hst : stationOf code = some st) (hu : st = .system ∨ st = .terminal u) :
    exec (.signOn code (.terminal u) .word) s = .next (s.signTaken u true) := by
  rw [exec_signOn hst, (writeControl_word hu).1]

theorem exec_signOff_word (hst : stationOf code = some st) (hu : st = .system ∨ st = .terminal u) :
    exec (.signOff code (.terminal u) .word) s = .next (s.signTaken u false) := by
  rw [exec_signOff hst, (writeControl_word hu).2]

/-- The group and the makeup right a value names (R173). -/
theorem rights_value (g : Group) (m : Bool) :
    groupOf (BitVec.ofNat 32 (g.val + 256 * (if m then 1 else 0))) = some g ∧
    (BitVec.ofNat 32 (g.val + 256 * (if m then 1 else 0))).getLsbD 8 = m := by
  revert g m
  decide

/-! ## What is taken -/

theorem lineLaw_done (h : LineLaw s) : LineLaw s.done := ⟨h.group, h.system⟩

/-- A change of a terminal's record that the lines follow. -/
theorem record_set (s : State) (u : TerminalId) (v : Terminal) :
    (s.setTerminal u v).refreshLines.terminal u = v ∧ SameTerminalsBut u s (s.setTerminal u v).refreshLines ∧
    LineLaw (s.setTerminal u v).refreshLines.done := by
  refine ⟨(terminal_setTerminal _ _ _ _).trans (if_pos rfl), fun w hw => (terminal_setTerminal _ _ _ _).trans (if_neg hw),
    lineLaw_done (refreshLines_lineLaw _)⟩

/-- What a sign-off leaves, its evaluation aside (R33, R103, R113, R172). -/
theorem signedOff_freed (hh : HoldLaw s) : let v := ((s.freed u).signedOff u).done
    v = { s with
      bus := doneBus, stories := v.stories
      stations := { s.stations with
        terminals := v.stations.terminals
        groupLines := v.stations.groupLines, systemLine := v.stations.systemLine
        outgoing := s.stations.outgoing.filter fun o => decide (o.recipient ≠ .terminal u)
        ringWrite := s.stations.ringWrite.map fun w =>
          if w.recipient = .terminal u then { w with voided := true } else w } } ∧
    v.terminal u = { s.terminal u with
      signedOn := false, holdCount := 0, ring := { write := 0, read := 0, overrun := false } } ∧
    SameTerminalsBut u s v ∧
    (∀ k, v.story k = { s.story k with
      holder := if (s.story k).holder = some (.terminal u) then none else (s.story k).holder
      viewers := (s.story k).viewers.filter fun x => decide (x.terminal ≠ u) }) ∧
    LineLaw v ∧ SameMemory s v := by
  have hview : ∀ l : List Viewer, (l.filter fun x => x.terminal != u) = l.filter fun x => decide (x.terminal ≠ u) :=
    fun l => List.filter_congr fun x _ => by simp [bne, BEq.beq]
  have hfor : notFor u s.stations.outgoing = s.stations.outgoing.filter fun o => decide (o.recipient ≠ .terminal u) :=
    List.filter_congr fun o _ => by simp [bne, BEq.beq]
  refine ⟨?_, ?_, fun w hw => ?_, fun k => ?_, lineLaw_done (lineLaw_signedOff _ u), fun a => ?_⟩
  · rw [← hfor, signedOff_eq, State.freed, unhold_frame]
    rfl
  · refine (terminal_signedOff _ u u).trans ?_
    rw [if_pos rfl, terminal_freed hh]
    rfl
  · refine (terminal_signedOff _ u w).trans ?_
    rw [if_neg hw, terminal_freed_ne hw]
  · refine (story_signedOff _ u k).trans ?_
    rw [story_freed, hview]
  · refine (memByte_signedOff _ u a).trans ?_
    rw [State.freed, unhold_frame]
    rfl

theorem signStateAndRightsAreSet_taken : Parts.SignStateAndRightsAreSet := by
  intro s code st u hst hu
  refine ⟨fun hoff => ?_, fun hon hh hplan hdisp hroom => ?_, fun g m => ?_⟩
  · rw [exec_signOn_word hst hu, State.signTaken, hoff, if_neg (by decide), if_pos rfl]
    obtain ⟨hrecord, hsame, hlines⟩ := record_set s u { s.terminal u with signedOn := true, ring := emptyRing }
    exact ⟨_, rfl, rfl, hrecord, hsame, hlines, fun _ => rfl⟩
  · rw [exec_signOff_word hst hu, State.signTaken, hon]
    refine ⟨_, ((s.freed u).signedOff u).done, rfl, fun hq => ?_, fun e r k he hr hc hk => ?_, signedOff_freed hh⟩
    · rw [if_neg (by decide), if_neg (by decide), signOffTaken_eq, releases_quiet]
      · rfl
      · exact hq.symm.imp_right fun hq k hk => Bool.eq_false_iff.2 fun hc => hq k hc ((mem_heldBy s _ k).1 hk)
    · rw [if_neg (by decide), if_neg (by decide), signOffTaken_eq]
      have hrel : evaluated e r (s.freed u) ((s.heldBy (.terminal u)).foldl State.releaseHold s) :=
        someReleases_evaluated he hr (fun n sl hn => closing_of_waiting hplan hdisp hr hn) hroom
          ⟨k, (mem_heldBy s _ k).2 hk, hc⟩
      have hout : (s.freed u).stations.outgoing = s.stations.outgoing := by rw [State.freed, unhold_frame]
      exact evaluated_done (evaluated_signedOff (hout ▸ hroom) hrel)
  · obtain ⟨hg, hm⟩ := rights_value g m
    have hsystem : stationOf 127#7 = some .system := rfl
    have hset : s.writeRights .system (.terminal u) .word (BitVec.ofNat 32 (g.val + 256 * (if m then 1 else 0))) =
        (s.setTerminal u { s.terminal u with group := g, makeup := m }).refreshLines.done := by
      simp only [State.writeRights, testing_cons, testing_nil, hg, hm]
      rfl
    rw [exec_rightsWrite hsystem, hset]
    obtain ⟨hrecord, hsame, hlines⟩ := record_set s u { s.terminal u with group := g, makeup := m }
    exact ⟨_, rfl, rfl, hrecord, hsame, hlines, fun _ => rfl⟩

end Sys2Proof.Machine
end


section
/-! PROOFS. CONTROL and RIGHTS refuse in the order of R172 and R173 (section 11.3). -/

namespace Sys2Proof.Machine

open Safety

variable {s : State} {code : StationCode} {st owner : Station} {own : Reason}

/-! ## The word -/

theorem stationByte_lt (o : Station) : stationByte (some o) < 128 := by
  cases o with
  | system => decide
  | terminal u => exact lt_trans u.isLt (by decide)

theorem stationOf_stationByte (o : Station) : stationOf (BitVec.ofNat 7 (stationByte (some o))) = some o := by
  cases o with
  | system => rfl
  | terminal u =>
    have hu := u.isLt
    have hval : (BitVec.ofNat 7 u.val).toNat = u.val := by
      rw [BitVec.toNat_ofNat]
      exact Nat.mod_eq_of_lt (by omega)
    simp only [stationOf, stationByte, hval, hu, dif_pos]

/-- The place of each byte of a station's block (section 11.3). -/
theorem placeOf_station (o : Station) {h : Nat} (hh : h < 1024) :
    placeOf (0x1020000 + 1024 * stationByte (some o) + h) = stationPlace o h := by
  have ho := stationByte_lt o
  have h1 : ¬ 0x1020000 + 1024 * stationByte (some o) + h < 0x1000000 := by omega
  have h2 : ¬ 0x1020000 + 1024 * stationByte (some o) + h < 0x1020000 := by omega
  have h3 : 0x1020000 + 1024 * stationByte (some o) + h < 0x1040000 := by omega
  have h4 : (0x1020000 + 1024 * stationByte (some o) + h - 0x1020000) / 1024 = stationByte (some o) := by omega
  have h5 : (0x1020000 + 1024 * stationByte (some o) + h - 0x1020000) % 1024 = h := by omega
  rw [placeOf, if_neg h1, if_neg h2, if_pos h3, h4, h5, stationOf_stationByte]

theorem liveAt_control (o : Station) : LiveAt (.control o) (0x1020200 + 1024 * stationByte (some o)) := by
  have ho := stationByte_lt o
  refine ⟨by simp only [windowBytes]; omega, by omega, fun i hi => ?_, by simp⟩
  rw [show 0x1020200 + 1024 * stationByte (some o) + i = 0x1020000 + 1024 * stationByte (some o) + (0x200 + i) by omega,
    placeOf_station o (by omega)]
  interval_cases i <;> rfl

/-! ## The tests -/

/-- The tests of R172 that come before that of the value. -/
theorem writeControl_refuses {sz : Size} {v : Word}
    (h : ∀ u, owner = .terminal u → Refuses s st own
      (if v = signOnCode then s.signTaken u true else if v = signOffCode then s.signTaken u false else s.refuse st .badValue)) :
    Refuses s st (afterControl st owner sz own) (s.writeControl st owner sz v) := by
  refine .test (badSize_iff sz) fun _ => .last ?_ fun _ => ?_
  · simp [isTerminal_iff]
  · cases owner with
    | system => exact .refuse
    | terminal u => exact h u rfl

/-- The tests of R173. -/
theorem writeRights_refuses {sz : Size} (v : Word) : Refuses s st
    (afterSystem st sz (if owner = .system then .badState else if 7 < (v.extractLsb' 0 8).toNat then .badValue else .none))
    (s.writeRights st owner sz v) := by
  refine .systemFirst ?_
  cases owner with
  | system => exact .refuse
  | terminal u =>
    rw [if_neg (by simp)]
    by_cases hv : 7 < (v.extractLsb' 0 8).toNat
    · have hg : groupOf v = none := dif_neg (by omega)
      simp only [if_pos hv, hg]
      exact .refuse
    · rw [if_neg hv]
      exact .none

theorem signAndRightsRefuseInOrder : Parts.SignAndRightsRefuseInOrder := by
  intro s code st owner sz v hst
  refine ⟨refusedFor_of_exec (exec_signOn hst owner sz) (writeControl_refuses fun _ _ => .none),
    refusedFor_of_exec (exec_signOff hst owner sz) (writeControl_refuses fun _ _ => .none),
    fun hon hoff => valueRefused_of_live (liveAt_control owner) hst (writeControl_refuses fun u _ => ?_),
    fun u ho hu => ?_, refusedFor_of_exec (exec_rightsWrite hst owner sz v) (writeRights_refuses v)⟩
  · rw [if_neg (show v ≠ signOnCode from hon), if_neg (show v ≠ signOffCode from hoff)]
    exact .refuse
  · subst ho
    rw [exec_signOn_word hst hu, exec_signOff_word hst hu]
    exact ⟨fun hs => by rw [State.signTaken, if_pos hs]; rfl, fun hs => by rw [State.signTaken, if_pos hs]; rfl⟩

/-- Settles O41: the releases of a sign-off come first, and of the evaluations these cause at most one changes anything. -/
theorem signStateAndRightsAreSet : Obligations.SignStateAndRightsAreSet :=
  ⟨signStateAndRightsAreSet_taken, signAndRightsRefuseInOrder⟩

end Sys2Proof.Machine
end


section
/-! PROOFS. What no command but a route, a purge or a write to LIMIT touches of baskets and their lists: `filing` gathers what the law
of R45 reads, and one equation per operation says that the operation leaves it. -/

namespace Sys2Proof.Machine

open Safety

variable {s t : State}

/-! ## The part of the state that the law of baskets reads -/

/-- What an entry says of its filing: basket, class, and whether the story is UNUSED. -/
def filedAs (v : Story) : Option BasketId × Priority × Bool := (v.basket, v.prio, v.phase == .unused)

/-- The baskets, and every story's filing (R45). -/
def filing (s : State) : Table Basket × (StoryId → Option BasketId × Priority × Bool) :=
  (s.baskets, fun k => filedAs (s.story k))

theorem filedAs_eq_iff {v w : Story} :
    filedAs v = filedAs w ↔ v.basket = w.basket ∧ v.prio = w.prio ∧ (v.phase = .unused ↔ w.phase = .unused) := by
  have hu : ((v.phase == .unused) = (w.phase == .unused)) ↔ (v.phase = .unused ↔ w.phase = .unused) := by
    rw [Bool.eq_iff_iff, beq_iff_eq, beq_iff_eq]
  simp only [filedAs, Prod.mk.injEq, hu]

/-- The law of baskets reads the filing and nothing else. -/
theorem basketLaw_of_filing (h : filing t = filing s) (hb : BasketLaw s) : BasketLaw t := by
  obtain ⟨hbaskets, hstory⟩ := Prod.mk.inj h
  have hbasket : ∀ b, t.basket b = s.basket b := fun b => by
    show tableGet _ t.baskets _ = _
    rw [hbaskets]
    rfl
  have hk := fun k => filedAs_eq_iff.1 (congrFun hstory k)
  refine ⟨fun b => ?_, fun b => ?_, fun b => ?_, fun b => ?_, fun b e he => ?_, fun k b h => ?_, fun k h => ?_⟩
  · rw [hbasket]; exact hb.once b
  · rw [hbasket]; exact hb.ordered b
  · rw [hbasket]; exact hb.count b
  · rw [hbasket]; exact hb.limit b
  · rw [hbasket] at he
    rw [(hk _).1, (hk _).2.1]
    exact hb.filed b e he
  · rw [hbasket]
    rw [(hk _).1] at h
    exact hb.listed k b h
  · rw [(hk _).1]
    exact hb.unused k ((hk k).2.2.1 h)

/-- A change of an entry that leaves its filing. -/
theorem filing_setStory {k : StoryId} {v : Story} (h : filedAs v = filedAs (s.story k)) :
    filing (s.setStory k v) = filing s := by
  refine Prod.ext rfl (funext fun j => ?_)
  show filedAs ((s.setStory k v).story j) = _
  rw [story_setStory]
  split
  · rename_i hj; subst hj; exact h
  · rfl

theorem filing_of_butStations (h : butStations t = butStations s) : filing t = filing s := by
  rw [butStations_eq h]
  rfl

/-- The first condition met refuses the write, and otherwise it is taken. -/
theorem filing_testing (st : Station) (ts : List (Bool × Reason)) {taken : State} (h : filing taken = filing s) :
    filing (testing st ts s taken) = filing s := by
  rcases testing_cases st ts s taken with ⟨ht, -⟩ | ⟨c, -, -, ht⟩ <;> rw [ht]
  · exact h
  · exact filing_of_butStations (t := s.setLastRefusal st c.2) (by cases st <;> rfl)

theorem filing_foldl {α : Type} (f : State → α → State) (h : ∀ t a, filing (f t a) = filing t) (l : List α) (s : State) :
    filing (l.foldl f s) = filing s := foldl_keeps filing f h l s

/-! ## Updates of records -/

section Updates

variable (s : State)

@[simp] theorem filing_answer (a : Answer) (d : Option Data) : filing (s.answer a d) = filing s := rfl
@[simp] theorem filing_done : filing s.done = filing s := rfl
@[simp] theorem filing_doneRead (d : Data) : filing (s.doneRead d) = filing s := rfl
@[simp] theorem filing_retry : filing s.retry = filing s := rfl
@[simp] theorem filing_refuseUnknown : filing s.refuseUnknown = filing s := rfl
@[simp] theorem filing_setPage (p : PageId) (v : Page) : filing (s.setPage p v) = filing s := rfl
@[simp] theorem filing_setPageState (p : PageId) (x : PageState) : filing (s.setPageState p x) = filing s := rfl
@[simp] theorem filing_putSlot (p : PageId) (n : SlotId) (v : Option Slot) : filing (s.putSlot p n v) = filing s := rfl
@[simp] theorem filing_setFont (f : FontId) (v : Font) : filing (s.setFont f v) = filing s := rfl
@[simp] theorem filing_setQueue (q : List StoryId) : filing (s.setQueue q) = filing s := rfl
@[simp] theorem filing_setEngine (e : Engine) : filing (s.setEngine e) = filing s := rfl
@[simp] theorem filing_setLink (l : Link) : filing (s.setLink l) = filing s := rfl
@[simp] theorem filing_setDispatchEngine (e : DispatchEngine) : filing (s.setDispatchEngine e) = filing s := rfl
@[simp] theorem filing_setSend (x : SendState) : filing (s.setSend x) = filing s := rfl
@[simp] theorem filing_setHoldTimer (x : Option Nat) : filing (s.setHoldTimer x) = filing s := rfl
@[simp] theorem filing_handOver (f : Frame) : filing (s.handOver f) = filing s := rfl
@[simp] theorem filing_leaveQueue (p : PageId) : filing (s.leaveQueue p) = filing s := rfl
@[simp] theorem filing_promote (p : PageId) : filing (s.promote p) = filing s := rfl
@[simp] theorem filing_handText (x : SendState) (n : Nat) : filing (s.handText x n) = filing s := rfl
@[simp] theorem filing_setTerminal (u : TerminalId) (v : Terminal) : filing (s.setTerminal u v) = filing s := rfl
@[simp] theorem filing_refreshLines : filing s.refreshLines = filing s := rfl
@[simp] theorem filing_discardNotices (st : Station) : filing (s.discardNotices st) = filing s := rfl
@[simp] theorem filing_setRingWrite (w : Option RingWrite) : filing (s.setRingWrite w) = filing s := rfl
@[simp] theorem filing_dropHead : filing s.dropHead = filing s := rfl

@[simp] theorem filing_setRing (st : Station) (r : Ring) : filing (s.setRing st r) = filing s := by cases st <;> rfl

@[simp] theorem filing_setOverrun (st : Station) : filing (s.setOverrun st) = filing s := filing_setRing s st _

@[simp] theorem filing_advanceRing (st : Station) : filing (s.advanceRing st) = filing s := filing_setRing s st _

@[simp] theorem filing_refuse (st : Station) (r : Reason) : filing (s.refuse st r) = filing s := by cases st <;> rfl

@[simp] theorem filing_raise (st : Station) (n : Notice) : filing (s.raise st n) = filing s :=
  filing_of_butStations (by simp)

@[simp] theorem filing_raiseAll (ns : List Outgoing) : filing (s.raiseAll ns) = filing s := filing_of_butStations (by simp)

@[simp] theorem filing_countHold (st : Station) (f : Nat → Nat) : filing (s.countHold st f) = filing s :=
  filing_of_butStations (by simp)

@[simp] theorem filing_ringWriteStart : filing s.ringWriteStart = filing s := filing_of_butStations (by simp)

@[simp] theorem filing_noteContested (o : Station) (off n : Nat) : filing (s.noteContested o off n) = filing s :=
  filing_of_butStations (by simp)

@[simp] theorem filing_setReadIndex (o : Station) (v : Word) : filing (s.setReadIndex o v) = filing s :=
  filing_of_butStations (by simp)

/-! ## Entries -/

@[simp] theorem filing_setStatus (k : StoryId) (x : DepthStatus) : filing (s.setStatus k x) = filing s := filing_setStory rfl

@[simp] theorem filing_setClosing (k : StoryId) (b : Bool) : filing (s.setClosing k b) = filing s := filing_setStory rfl

@[simp] theorem filing_postDepth (k : StoryId) (r : Breaker) : filing (s.postDepth k r) = filing s := filing_setStory rfl

@[simp] theorem filing_placeIn (k : StoryId) (p : PageId) (n : SlotId) : filing (s.placeIn k p n) = filing s :=
  filing_setStory rfl

@[simp] theorem filing_dropViewer (k : StoryId) (u : TerminalId) : filing (s.dropViewer k u) = filing s := filing_setStory rfl

@[simp] theorem filing_emptyViewers (k : StoryId) : filing (s.emptyViewers k) = filing s := filing_setStory rfl

@[simp] theorem filing_markClosing (p : PageId) (b : Bool) : filing (s.markClosing p b) = filing s :=
  filing_foldl _ (fun t k => filing_setClosing t k b) _ s

/-- A story is frozen only while it is LIVE, so freezing brings none out of use (R39). -/
@[simp] theorem filing_freeze (k : StoryId) : filing (s.freeze k) = filing s := by
  refine filing_setStory (filedAs_eq_iff.2 ⟨rfl, rfl, ?_⟩)
  dsimp only
  split
  · rename_i h; simp [h]
  · rfl

@[simp] theorem filing_unfreeze (k : StoryId) : filing (s.unfreeze k) = filing s := by
  unfold State.unfreeze
  split
  · rename_i h
    exact filing_setStory (filedAs_eq_iff.2 ⟨rfl, rfl, by simp [h]⟩)
  · rfl

@[simp] theorem filing_unplace (k : StoryId) : filing (s.unplace k) = filing s :=
  (filing_setStory (s := s.unfreeze k) (k := k) (v := { (s.unfreeze k).story k with placement := none }) rfl).trans
    (filing_unfreeze s k)

@[simp] theorem filing_gainHold (k : StoryId) (st : Station) : filing (s.gainHold k st) = filing s :=
  (filing_countHold _ st _).trans (filing_setStory rfl)

@[simp] theorem filing_loseHold (k : StoryId) : filing (s.loseHold k) = filing s := by
  unfold State.loseHold
  split
  · exact (filing_countHold _ _ _).trans (filing_setStory rfl)
  · rfl

@[simp] theorem filing_dropViewerOf (k : StoryId) (st : Station) : filing (s.dropViewerOf k st) = filing s := by
  cases st with
  | terminal u => exact filing_dropViewer s k u
  | system => rfl

@[simp] theorem filing_registerView (k : StoryId) (u : TerminalId) : filing (s.registerView k u) = filing s :=
  (filing_raiseAll _ _).trans (filing_setStory rfl)

@[simp] theorem filing_viewBy (st : Station) (k : StoryId) : filing (s.viewBy st k) = filing s := by
  unfold State.viewBy
  split
  · split <;> simp
  · rfl

@[simp] theorem filing_markViewers (k : StoryId) (w : Station) : filing (s.markViewers k w) = filing s :=
  (filing_raiseAll _ _).trans (filing_setStory rfl)

@[simp] theorem filing_evaluateOverset (k : StoryId) (c : Option Station) : filing (s.evaluateOverset k c) = filing s := by
  unfold State.evaluateOverset
  dsimp only
  split
  · exact filing_setStory rfl
  · exact (filing_raiseAll _ _).trans (filing_setStory rfl)

@[simp] theorem filing_allowanceChanged (k : StoryId) (w : Station) : filing (s.allowanceChanged k w) = filing s := by
  unfold State.allowanceChanged
  split <;> simp

/-! ## Memory -/

@[simp] theorem filing_plainStore (a n : Nat) (data : Data) (f : Bool) : filing (s.plainStore a n data f) = filing s := by
  unfold State.plainStore
  split <;> rfl

@[simp] theorem filing_plainAnswer (st : Station) (f : Bool) : filing (s.plainAnswer st f) = filing s := by
  unfold State.plainAnswer
  split <;> simp

@[simp] theorem filing_ringWriteStored (w : RingWrite) (f : Bool) : filing (s.ringWriteStored w f) = filing s := by
  cases f with
  | true =>
    show filing (s.storeFaulted _ _) = _
    unfold State.storeFaulted
    rfl
  | false =>
    generalize hb : s.ringWriteBytes w = bs
    simp only [State.ringWriteStored, hb, Bool.false_eq_true, if_false]
    rfl

@[simp] theorem filing_ringWriteComplete (f : Bool) : filing (s.ringWriteComplete f) = filing s := by
  unfold State.ringWriteComplete
  split
  · rfl
  · split
    · simp
    · split <;> simp

/-! ## Measuring -/

@[simp] theorem filing_leaveMeasuring : filing s.leaveMeasuring = filing s := by
  unfold State.leaveMeasuring
  split <;> rfl

@[simp] theorem filing_abandonPass (k : StoryId) : filing (s.abandonPass k) = filing s := by
  unfold State.abandonPass
  split <;> simp

@[simp] theorem filing_queueStale (k : StoryId) : filing (s.queueStale k) = filing s :=
  (filing_setQueue _ _).trans (filing_setStatus s k .stale)

@[simp] theorem filing_stale (k : StoryId) : filing (s.stale k) = filing s := by
  unfold State.stale
  split <;> simp

@[simp] theorem filing_staleAll (ks : List StoryId) : filing (s.staleAll ks) = filing s := filing_foldl _ filing_stale ks s

@[simp] theorem filing_takePass : filing s.takePass = filing s := by
  unfold State.takePass
  split
  · simp
  · rfl

@[simp] theorem filing_measureBlock : filing s.measureBlock = filing s := by
  unfold State.measureBlock
  split
  · split <;> simp
  · rfl

@[simp] theorem filing_fontWaitExpiry : filing s.fontWaitExpiry = filing s := by
  unfold State.fontWaitExpiry
  split <;> rfl

@[simp] theorem filing_releaseHeld : filing s.releaseHeld = filing s := by
  unfold State.releaseHeld
  split <;> rfl

end Updates

end Sys2Proof.Machine
end


section
/-! PROOFS. The dispatch engine, the link, edits of plans, the stations and the resets leave every story's filing. -/

namespace Sys2Proof.Machine

section Operations

variable (s : State)

/-! ## The dispatch engine -/

@[simp] theorem filing_pumpText (x : SendState) : filing (s.pumpText x) = filing s := by
  unfold State.pumpText
  split
  · rfl
  · split
    · split <;> rfl
    · rfl

@[simp] theorem filing_handSlot (p : PageId) (x : SendState) (n : SlotId) : filing (s.handSlot p x n) = filing s := by
  unfold State.handSlot
  split <;> rfl

@[simp] theorem filing_completePage (e : Queued) : filing (s.completePage e) = filing s := by
  simp [State.completePage, filing_foldl State.freeze filing_freeze]

@[simp] theorem filing_failRecord (e : Queued) (f : Failing) : filing (s.failRecord e f) = filing s := by
  simp only [State.failRecord, filing_leaveQueue, filing_raise, filing_setPage]
  split <;> split <;> simp

@[simp] theorem filing_failEngine (p : PageId) (a b : Bool) : filing (s.failEngine p a b) = filing s := by
  unfold State.failEngine
  split
  · rfl
  · split <;> rfl

@[simp] theorem filing_failPage (e : Queued) (f : Failing) : filing (s.failPage e f) = filing s := by
  simp [State.failPage]

@[simp] theorem filing_wantHold (e : Queued) (ns : SlotId × Slot) : filing (s.wantHold e ns) = filing s := by
  unfold State.wantHold
  split
  · split
    · rfl
    · exact filing_raise _ _ _
  · rfl

@[simp] theorem filing_enterWaiting (e : Queued) : filing (s.enterWaiting e) = filing s := by
  unfold State.enterWaiting
  dsimp only
  rw [filing_foldl _ fun t ns => filing_wantHold t e ns]
  simp

@[simp] theorem filing_enterSending (e : Queued) : filing (s.enterSending e) = filing s := by
  unfold State.enterSending
  split <;> rfl

@[simp] theorem filing_advanceUpTo (n : Nat) : filing (State.advanceUpTo n s) = filing s := by
  induction n generalizing s with
  | zero => rfl
  | succ n ih =>
    unfold State.advanceUpTo
    split
    · split
      · dsimp only
        split
        · rw [ih]; simp
        · simp
        · simp
      · rfl
    · rfl

@[simp] theorem filing_advance : filing s.advance = filing s := filing_advanceUpTo s _

@[simp] theorem filing_fail (e : Queued) (f : Failing) : filing (s.fail e f) = filing s := by simp [State.fail]

@[simp] theorem filing_evaluate : filing s.evaluate = filing s := by
  unfold State.evaluate
  split
  · split <;> simp
  · rfl

@[simp] theorem filing_handEvent (k : StoryId) : filing (s.handEvent k) = filing s := by
  unfold State.handEvent
  split <;> simp

@[simp] theorem filing_complete (e : Queued) : filing (s.complete e) = filing s := by simp [State.complete]

@[simp] theorem filing_nextFrame : filing s.nextFrame = filing s := by
  unfold State.nextFrame
  split
  · split
    · simp
    · simp
    · simp
    · split <;> simp
    · simp
  · rfl

@[simp] theorem filing_failSend (c : Cause) : filing (s.failSend c) = filing s := by
  unfold State.failSend
  split <;> simp

@[simp] theorem filing_abortEnd : filing s.abortEnd = filing s := by
  unfold State.abortEnd
  split <;> simp

@[simp] theorem filing_returnToQueued : filing s.returnToQueued = filing s := by
  unfold State.returnToQueued
  split <;> simp

@[simp] theorem filing_linkLost : filing s.linkLost = filing s := by
  unfold State.linkLost
  split <;> simp

@[simp] theorem filing_holdWaitExpiry : filing s.holdWaitExpiry = filing s := by
  unfold State.holdWaitExpiry
  split <;> simp

@[simp] theorem filing_sendTextRead (f : Bool) : filing (s.sendTextRead f) = filing s := by
  unfold State.sendTextRead
  split
  · split
    · rfl
    · split
      · split
        · simp
        · dsimp only
          split <;> simp
      · rfl
  · rfl

@[simp] theorem filing_cancelPage (p : PageId) (st : Station) : filing (s.cancelPage p st) = filing s := by
  unfold State.cancelPage
  split <;> simp

@[simp] theorem filing_queuePage (p : PageId) (r : Resting) : filing (s.queuePage p r) = filing s :=
  filing_advance _

/-! ## The end of a pass, and of a hold -/

@[simp] theorem filing_completePass : filing s.completePass = filing s := by
  unfold State.completePass
  split <;> simp

@[simp] theorem filing_faultPass : filing s.faultPass = filing s := by
  unfold State.faultPass
  split <;> simp

@[simp] theorem filing_releaseHold (k : StoryId) : filing (s.releaseHold k) = filing s := by simp [State.releaseHold]

@[simp] theorem filing_endHoldByRoute (st : Station) (k : StoryId) : filing (s.endHoldByRoute st k) = filing s := by
  unfold State.endHoldByRoute
  split <;> simp

@[simp] theorem filing_forgetMeasure (k : StoryId) : filing (s.forgetMeasure k) = filing s := filing_abandonPass s k

/-! ## The link -/

@[simp] theorem filing_leaveUp (b : Bool) : filing (s.leaveUp b) = filing s := by simp [State.leaveUp, State.raiseLink]

@[simp] theorem filing_presentHigh : filing s.presentHigh = filing s := by
  unfold State.presentHigh
  dsimp only
  split <;> rfl

@[simp] theorem filing_presentLow : filing s.presentLow = filing s := by
  unfold State.presentLow
  dsimp only
  split <;> simp

@[simp] theorem filing_trainingExpiry : filing s.trainingExpiry = filing s := by
  unfold State.trainingExpiry
  split <;> rfl

@[simp] theorem filing_takeAbility (m l : Byte) : filing (s.takeAbility m l) = filing s := by
  unfold State.takeAbility
  split
  · rfl
  · simp [State.trained, State.raiseLink]
  · unfold State.retrained
    dsimp only
    split <;> simp

@[simp] theorem filing_failedTry (o : Outstanding) : filing (s.failedTry o) = filing s := by
  unfold State.failedTry
  split <;> simp

@[simp] theorem filing_settled : filing s.settled = filing s := rfl

@[simp] theorem filing_waitSet : filing s.waitSet = filing s := rfl

@[simp] theorem filing_frameDone (f : Frame) : filing (s.frameDone f) = filing s := by
  unfold State.frameDone
  split <;> simp

@[simp] theorem filing_frameEnded (f : Frame) (c : Cause) : filing (s.frameEnded f c) = filing s := by
  unfold State.frameEnded
  split <;> simp

@[simp] theorem filing_takeAck : filing s.takeAck = filing s := by
  unfold State.takeAck
  split <;> simp

@[simp] theorem filing_takeWait : filing s.takeWait = filing s := by
  unfold State.takeWait
  split <;> simp

@[simp] theorem filing_takeNak (r : NakReason) : filing (s.takeNak r) = filing s := by
  unfold State.takeNak
  split
  · split
    · simp
    · split <;> simp
    · simp
  · rfl

@[simp] theorem filing_takeReady : filing s.takeReady = filing s := by
  unfold State.takeReady
  split
  · split <;> rfl
  · rfl

@[simp] theorem filing_waitExpiry : filing s.waitExpiry = filing s := by
  unfold State.waitExpiry
  split <;> simp

@[simp] theorem filing_replyExpiry : filing s.replyExpiry = filing s := by
  unfold State.replyExpiry
  split <;> simp

@[simp] theorem filing_tryEnd : filing s.tryEnd = filing s := by
  unfold State.tryEnd
  split <;> rfl

@[simp] theorem filing_abilityEnd : filing s.abilityEnd = filing s := by
  unfold State.abilityEnd
  split <;> rfl

@[simp] theorem filing_gapExpiry : filing s.gapExpiry = filing s := by
  unfold State.gapExpiry
  split <;> rfl

@[simp] theorem filing_takeIncoming (f : Incoming) : filing (s.takeIncoming f) = filing s := by
  cases f <;> simp [State.takeIncoming]

@[simp] theorem filing_frameArrives (f : Incoming) : filing (s.frameArrives f) = filing s := by
  unfold State.frameArrives
  split <;> simp

@[simp] theorem filing_byteArrives (b : Byte) : filing (s.byteArrives b) = filing s := by
  unfold State.byteArrives
  split
  · rfl
  · split <;> rfl
  · unfold State.byteWithin
    split
    · rfl
    · split
      · split <;> simp
      · rfl

/-! ## Edits of a plan -/

@[simp] theorem filing_edited (p : PageId) (n : Option SlotId) (before : Option StoryId) (st : Station) :
    filing (s.edited p n before st) = filing s := by
  unfold State.edited
  dsimp only
  split
  · split <;> simp
  · split <;> simp
  · rfl

@[simp] theorem filing_regeometry (st : Station) (p : PageId) (new : Page) : filing (s.regeometry st p new) = filing s := by
  unfold State.regeometry
  split <;> simp

@[simp] theorem filing_writeColumnDepth (st : Station) (p : PageId) (sz : Size) (v : Word) :
    filing (s.writeColumnDepth st p sz v) = filing s := by
  refine filing_testing st _ ?_
  dsimp only
  split
  · rfl
  · simp [filing_foldl _ fun (u : State) (k : StoryId) => filing_allowanceChanged u k st]

@[simp] theorem filing_removeRequest (st : Station) (p : PageId) (n : SlotId) : filing (s.removeRequest st p n) = filing s := by
  unfold State.removeRequest
  split <;> simp [State.removeTaken]

@[simp] theorem filing_placeRequest (st : Station) (p : PageId) (n : SlotId) (k : StoryId) :
    filing (s.placeRequest st p n k) = filing s := by
  unfold State.placeRequest
  split
  · rfl
  · refine filing_testing st _ ?_
    split
    · simp [State.placeTaken]
    · simp [State.replaceTaken]

@[simp] theorem filing_writeStory (st : Station) (p : PageId) (n : SlotId) (sz : Size) (v : Word) :
    filing (s.writeStory st p n sz v) = filing s := by
  refine filing_testing st _ ?_
  split
  · simp
  · split <;> simp

@[simp] theorem filing_writeSpan (st : Station) (p : PageId) (n : SlotId) (sz : Size) (v : Word) :
    filing (s.writeSpan st p n sz v) = filing s := by
  refine filing_testing st _ ?_
  split
  · simp
  · dsimp only
    split <;> simp

@[simp] theorem filing_writeAllowance (st : Station) (p : PageId) (n : SlotId) (sz : Size) (v : Word) :
    filing (s.writeAllowance st p n sz v) = filing s := by
  refine filing_testing st _ ?_
  split
  · simp
  · dsimp only
    split <;> simp

@[simp] theorem filing_writePolicy (st : Station) (p : PageId) (n : SlotId) (sz : Size) (v : Word) :
    filing (s.writePolicy st p n sz v) = filing s := by
  refine filing_testing st _ ?_
  split
  · simp
  · split
    · simp
    · split <;> simp

@[simp] theorem filing_writeCommand (st : Station) (p : PageId) (sz : Size) (v : Word) :
    filing (s.writeCommand st p sz v) = filing s := by
  refine filing_testing st _ ?_
  split
  · unfold State.dispatchRequest
    split <;> simp
  · split
    · unfold State.cancelRequest
      split <;> simp
    · simp

/-! ## Stations, resets and fonts -/

@[simp] theorem filing_signOffTaken (u : TerminalId) : filing (s.signOffTaken u) = filing s := by
  have hviews : ∀ t : State, filing (t.dropViews u) = filing t := fun t => filing_foldl _ (fun v k => filing_dropViewer v k u) _ t
  have hholds : filing (s.releaseAll (.terminal u)) = filing s := filing_foldl _ filing_releaseHold _ s
  simp [State.signOffTaken, hviews, hholds]

@[simp] theorem filing_writeControl (st owner : Station) (sz : Size) (v : Word) :
    filing (s.writeControl st owner sz v) = filing s := by
  have hsign : ∀ u b, filing (s.signTaken u b) = filing s := fun u b => by
    unfold State.signTaken
    split
    · rfl
    · split
      · rfl
      · simp
  refine filing_testing st _ ?_
  split
  · simp
  · split
    · exact hsign _ _
    · split
      · exact hsign _ _
      · simp

@[simp] theorem filing_writeRights (st owner : Station) (sz : Size) (v : Word) :
    filing (s.writeRights st owner sz v) = filing s := by
  refine filing_testing st _ ?_
  split
  · simp
  · split <;> simp

@[simp] theorem filing_busReset : filing s.busReset = filing s := by
  have hunit : ∀ (t : State) (v : StationUnit), filing { t with stations := v } = filing t := fun _ _ => rfl
  have hterminals : filing (allTerminals.foldl State.resetTerminal s) = filing s :=
    filing_foldl _ (fun t u => filing_setTerminal t u _) _ s
  have hstations : filing s.resetStations = filing s := (hunit _ _).trans ((filing_setRing _ _ _).trans hterminals)
  have hviews : ∀ t : State, filing t.emptyAllViewers = filing t := fun t => filing_foldl _ filing_emptyViewers _ t
  have hfont : ∀ t : State, filing t.resetFontWait = filing t := fun _ => rfl
  have hholds : ∀ t : State, filing t.releaseEvery = filing t := fun t => filing_foldl _ filing_releaseHold _ t
  simp [State.busReset, hstations, hviews, hfont, hholds]

@[simp] theorem filing_writeFont (st : Station) (f : FontId) (sz : Size) (w : FontWrite) :
    filing (s.writeFont st f sz w) = filing s := by
  refine filing_testing st _ ?_
  split
  · simp
  · split
    · rfl
    · simp [State.fontTaken, State.staleFont]

@[simp] theorem filing_writeStandard (st : Station) (sz : Size) (v : Word) : filing (s.writeStandard st sz v) = filing s := by
  refine filing_testing st _ ?_
  dsimp only
  split
  · rfl
  · exact filing_staleAll _ _

/-! ## Holds -/

@[simp] theorem filing_writeState (st : Station) (k : StoryId) (sz : Size) (v : Word) :
    filing (s.writeState st k sz v) = filing s := by
  have hpage : ∀ t : State, filing (t.reopenPage k) = filing t := fun t => by
    unfold State.reopenPage
    split
    · split <;> simp
    · rfl
  refine filing_testing st _ ?_
  split
  · simp [hpage]
  · rfl

@[simp] theorem filing_claimUsed (st : Station) (k : StoryId) : filing (s.claimUsed st k) = filing s := by
  refine filing_testing st _ ?_
  split
  · rfl
  · exact filing_testing st _ (by simp [State.grantClaim])

@[simp] theorem filing_releaseRequest (st : Station) (k : StoryId) : filing (s.releaseRequest st k) = filing s := by
  unfold State.releaseRequest
  split <;> simp

@[simp] theorem filing_breakRequest (st : Station) (k : StoryId) : filing (s.breakRequest st k) = filing s := by
  refine filing_testing st _ ?_
  split <;> simp [State.breakTaken]

/-! ## Accesses -/

@[simp] theorem filing_readText (st : Station) (k : StoryId) (pos : Nat) (sz : Size) (f : Bool) :
    filing (s.readText st k pos sz f) = filing s := by
  unfold State.readText
  split <;> simp

@[simp] theorem filing_readWords (st : Station) (off : Nat) (sz : Size) (f : Bool) :
    filing (s.readWords st off sz f) = filing s := by
  have hlatch : filing (s.clearLatch st off sz) = filing s := by
    unfold State.clearLatch
    split <;> rfl
  have hfree : ∀ t : State, filing (t.readFree off sz) = filing t := fun t => by
    unfold State.readFree
    split <;> rfl
  unfold State.readWords
  dsimp only
  split
  · simp [hlatch]
  · simp [hlatch, hfree]

@[simp] theorem filing_readWindow (st : Station) (off : Nat) (sz : Size) (f : Bool) :
    filing (s.readWindow st off sz f) = filing s := by
  unfold State.readWindow
  split <;> simp

@[simp] theorem filing_outside (w : Bool) (a : Nat) (sz : Size) (data : Data) (f : Bool) :
    filing (s.outside w a sz data f) = filing s := by
  unfold State.outside
  split <;> split <;> simp

@[simp] theorem filing_writeText (st : Station) (k : StoryId) (pos : Nat) (sz : Size) (data : Data) (f : Bool) :
    filing (s.writeText st k pos sz data f) = filing s := filing_testing st _ (by simp [State.textAdmitted])

@[simp] theorem filing_writeHeaderPlain (st : Station) (k : StoryId) (off : Nat) (sz : Size) (data : Data) (f : Bool) :
    filing (s.writeHeaderPlain st k off sz data f) = filing s := filing_testing st _ (by simp)

@[simp] theorem filing_writeRing (st owner : Station) (off : Nat) (sz : Size) (data : Data) (f : Bool) :
    filing (s.writeRing st owner off sz data f) = filing s := filing_testing st _ (by simp)

@[simp] theorem filing_writePlain (st : Station) (a : Nat) (sz : Size) (data : Data) (f : Bool) :
    filing (s.writePlain st a sz data f) = filing s := by simp [State.writePlain]

end Operations

end Sys2Proof.Machine
end


section
/-! PROOFS. Every step keeps each story in at most one basket, lists ordered by class and counts within limits (R45): a story leaves a
list and joins another by `unfile` and `file`, and LIMIT never falls below the count. -/

namespace Sys2Proof.Machine

open Safety

variable {s t : State} {k : StoryId}

/-! ## Lists -/

theorem mem_without {k : StoryId} {l : List Filed} {e : Filed} : e ∈ without k l ↔ e ∈ l ∧ e.story ≠ k := by
  simp [without]

/-- A story that joins a list is added to it, and the others stay. -/
theorem joined_perm (k : StoryId) (p : Priority) (l : List Filed) : (joined k p l).Perm ({ story := k, prio := p } :: l) := by
  refine List.perm_middle.trans (.cons _ ?_)
  rw [List.takeWhile_append_dropWhile]

/-- In a list ordered by class, what follows the first story of a later class is of a later class too. -/
theorem lt_of_mem_dropWhile {p : Priority} {l : List Filed} (h : l.Pairwise fun x y => prioCode x.prio ≤ prioCode y.prio)
    {e : Filed} (he : e ∈ l.dropWhile fun x => decide (prioCode x.prio ≤ prioCode p)) : prioCode p < prioCode e.prio := by
  induction l with
  | nil => cases he
  | cons x xs ih =>
    obtain ⟨hx, hxs⟩ := List.pairwise_cons.1 h
    rw [List.dropWhile_cons] at he
    split at he
    · exact ih hxs he
    · rename_i hlt
      have hlt : prioCode p < prioCode x.prio := by simpa using hlt
      rcases List.mem_cons.1 he with rfl | he
      · exact hlt
      · exact lt_of_lt_of_le hlt (hx e he)

/-- The tail of its class is the place of a story in a list ordered by class (R45). -/
theorem joined_ordered {p : Priority} {l : List Filed} (k : StoryId)
    (h : l.Pairwise fun x y => prioCode x.prio ≤ prioCode y.prio) :
    (joined k p l).Pairwise fun x y => prioCode x.prio ≤ prioCode y.prio := by
  have hbefore : ∀ e ∈ l.takeWhile fun x => decide (prioCode x.prio ≤ prioCode p), prioCode e.prio ≤ prioCode p :=
    fun e he => by simpa using List.mem_takeWhile_imp he
  have hafter := fun e => lt_of_mem_dropWhile (p := p) (e := e) h
  refine List.pairwise_append.2 ⟨h.sublist (List.takeWhile_sublist _),
    List.pairwise_cons.2 ⟨fun e he => (hafter e he).le, h.sublist (List.dropWhile_sublist _)⟩, fun x hx y hy => ?_⟩
  rcases List.mem_cons.1 hy with rfl | hy
  · exact hbefore x hx
  · exact (hbefore x hx).trans (hafter y hy).le

/-! ## The law under each change of the baskets -/

/-- An entry that is in no basket, and stays in none, may change in all else. -/
theorem basketLaw_setStory_unfiled {v : Story} (hb : BasketLaw s) (h : (s.story k).basket = none) (hv : v.basket = none) :
    BasketLaw (s.setStory k v) := by
  refine ⟨hb.once, hb.ordered, hb.count, hb.limit, fun b e he => ?_, fun j b hj => ?_, fun j hj => ?_⟩
  · have hfiled := hb.filed b e he
    have hne : e.story ≠ k := fun hk => by rw [hk, h] at hfiled; cases hfiled.1
    rw [story_setStory_ne _ _ hne]
    exact hfiled
  · rw [story_setStory] at hj
    split at hj
    · rw [hv] at hj; cases hj
    · exact hb.listed j b hj
  · rw [story_setStory] at hj ⊢
    split at hj
    · rename_i hjk; rw [if_pos hjk]; exact hv
    · rename_i hjk; rw [if_neg hjk]; exact hb.unused j hj

/-- A basket's terms change within R47 and its list stays. -/
theorem basketLaw_setBasket {b : BasketId} {v : Basket} (hb : BasketLaw s) (hlist : v.list = (s.basket b).list)
    (hcount : (s.basket b).list.length ≤ v.limit) (hlimit : 1 ≤ v.limit ∧ v.limit ≤ 2048) : BasketLaw (s.setBasket b v) := by
  have hl : ∀ c, ((s.setBasket b v).basket c).list = (s.basket c).list := fun c => by
    rw [basket_setBasket]
    split
    · rename_i hc; rw [hlist, hc]
    · rfl
  refine ⟨fun c => by rw [hl]; exact hb.once c, fun c => by rw [hl]; exact hb.ordered c, fun c => ?_, fun c => ?_,
    fun c e he => hb.filed c e (hl c ▸ he), fun j c hj => by rw [hl]; exact hb.listed j c hj, hb.unused⟩
  · rw [basketCount, hl, basket_setBasket]
    split
    · rename_i hc; rw [hc]; exact hcount
    · exact hb.count c
  · rw [basket_setBasket]
    split
    · exact hlimit
    · exact hb.limit c

/-- The list a story leaves has it no more, and the others never had it. -/
theorem mem_unfile_list (hb : BasketLaw s) {b : BasketId} {e : Filed} :
    e ∈ ((s.unfile k).basket b).list ↔ e ∈ (s.basket b).list ∧ e.story ≠ k := by
  rw [unfile_basket]
  split
  · exact mem_without
  · rename_i hk
    exact ⟨fun he => ⟨he, fun h => hk (h ▸ (hb.filed b e he).1)⟩, And.left⟩

theorem unfile_list_sublist (s : State) (k : StoryId) (b : BasketId) :
    ((s.unfile k).basket b).list.Sublist (s.basket b).list := by
  rw [unfile_basket]
  split
  · exact List.filter_sublist
  · exact .refl _

theorem unfile_limit (s : State) (k : StoryId) (b : BasketId) : ((s.unfile k).basket b).limit = (s.basket b).limit := by
  rw [unfile_basket]
  split <;> rfl

/-- A story leaves its basket (R57). -/
theorem basketLaw_unfile (hb : BasketLaw s) (k : StoryId) : BasketLaw (s.unfile k) := by
  have hsub := unfile_list_sublist s k
  refine ⟨fun b => (hb.once b).sublist ((hsub b).map _), fun b => (hb.ordered b).sublist (hsub b), fun b => ?_, fun b => ?_,
    fun b e he => ?_, fun j b hj => ?_, fun j hj => ?_⟩
  · rw [unfile_limit]
    exact (hsub b).length_le.trans (hb.count b)
  · rw [unfile_limit]
    exact hb.limit b
  · obtain ⟨he, hne⟩ := (mem_unfile_list hb).1 he
    rw [unfile_story, if_neg hne]
    exact hb.filed b e he
  · rw [unfile_story] at hj
    split at hj
    · cases hj
    · rename_i hne
      obtain ⟨e, he, rfl⟩ := hb.listed j b hj
      exact ⟨e, (mem_unfile_list hb).2 ⟨he, hne⟩, rfl⟩
  · rw [unfile_story] at hj ⊢
    split
    · rfl
    · rename_i hne
      rw [if_neg hne] at hj
      exact hb.unused j hj

/-- A story in use and in no basket joins one with room (R56). -/
theorem basketLaw_file (hb : BasketLaw s) {b : BasketId} (p : Priority) (hk : (s.story k).basket = none)
    (hu : (s.story k).phase ≠ .unused) (hroom : (s.basket b).list.length < (s.basket b).limit) :
    BasketLaw (s.file k b p) := by
  have hout : ∀ c, ∀ e ∈ (s.basket c).list, e.story ≠ k := fun c e he h => by
    have := (hb.filed c e he).1
    rw [h, hk] at this
    cases this
  have hlist : ∀ c, ((s.file k b p).basket c).list = if c = b then joined k p (s.basket b).list else (s.basket c).list :=
    fun c => by rw [file_basket]; split <;> rfl
  have hlimit : ∀ c, ((s.file k b p).basket c).limit = (s.basket c).limit := fun c => by
    rw [file_basket]
    split
    · rename_i hc; rw [hc]
    · rfl
  have hperm := joined_perm k p (s.basket b).list
  refine ⟨fun c => ?_, fun c => ?_, fun c => ?_, fun c => by rw [hlimit]; exact hb.limit c, fun c e he => ?_,
    fun j c hj => ?_, fun j hj => ?_⟩
  · rw [hlist]
    split
    · refine ((hperm.map Filed.story).nodup_iff).2 (List.nodup_cons.2 ⟨fun hm => ?_, hb.once b⟩)
      obtain ⟨e, he, h⟩ := List.mem_map.1 hm
      exact hout b e he h
    · exact hb.once c
  · rw [hlist]
    split
    · exact joined_ordered k (hb.ordered b)
    · exact hb.ordered c
  · rw [basketCount, hlist, hlimit]
    split
    · rename_i hc
      rw [hperm.length_eq, hc]
      exact hroom
    · exact hb.count c
  · have hold : e ∈ (s.basket c).list → ((s.file k b p).story e.story).basket = some c ∧
        ((s.file k b p).story e.story).prio = e.prio := fun he => by
      rw [file_story, if_neg (hout c e he)]
      exact hb.filed c e he
    rw [hlist] at he
    split at he
    · rename_i hc
      subst hc
      rcases List.mem_cons.1 (hperm.mem_iff.1 he) with rfl | he
      · rw [file_story, if_pos rfl]
        exact ⟨rfl, rfl⟩
      · exact hold he
    · exact hold he
  · rw [hlist]
    rw [file_story] at hj
    split at hj
    · rename_i hjk
      cases hj
      rw [if_pos rfl]
      exact ⟨_, hperm.mem_iff.2 (.head _), hjk.symm⟩
    · obtain ⟨e, he, h⟩ := hb.listed j c hj
      refine ⟨e, ?_, h⟩
      split
      · rename_i hc
        subst hc
        exact hperm.mem_iff.2 (.tail _ he)
      · exact he
  · rw [file_story] at hj ⊢
    split at hj
    · exact absurd hj hu
    · rename_i hne
      rw [if_neg hne]
      exact hb.unused j hj

/-! ## Claims, routes and purges -/

theorem basketLaw_testing {st : Station} {ts : List (Bool × Reason)} (hb : BasketLaw s)
    (h : (∀ c ∈ ts, c.1 = false) → BasketLaw t) : BasketLaw (testing st ts s t) := by
  rcases testing_cases st ts s t with ⟨ht, hc⟩ | ⟨c, -, -, ht⟩ <;> rw [ht]
  · exact h hc
  · exact basketLaw_of_filing (filing_refuse s st c.2) hb

@[simp] theorem filing_raiseArrivals (s : State) (k : StoryId) (b : BasketId) (source : Option BasketId) (w : Station) :
    filing (s.raiseArrivals k b source w) = filing s := filing_raiseAll _ _

/-- A story comes into use in no basket (R10, R11). -/
theorem basketLaw_create (hb : BasketLaw s) (hu : (s.story k).phase = .unused) :
    BasketLaw (s.setStory k { unusedStory with phase := .live }) := basketLaw_setStory_unfiled hb (hb.unused k hu) rfl

theorem basketLaw_claimRequest (hb : BasketLaw s) (st : Station) (k : StoryId) : BasketLaw (s.claimRequest st k) := by
  unfold State.claimRequest
  split
  · have hlaw := basketLaw_create hb ‹_›
    exact basketLaw_testing hb fun _ => basketLaw_of_filing (by simp [State.createByClaim]) hlaw
  · exact basketLaw_of_filing (filing_claimUsed s st k) hb

theorem basketLaw_writeHold (hb : BasketLaw s) (st : Station) (k : StoryId) (sz : Size) (v : Word) :
    BasketLaw (s.writeHold st k sz v) := by
  refine basketLaw_testing hb fun _ => ?_
  split
  · exact basketLaw_claimRequest hb st k
  · refine basketLaw_of_filing ?_ hb
    split
    · simp
    · split <;> simp

theorem basketFull_eq_false {b : BasketId} :
    s.basketFull b = false ↔ (s.basket b).list.length < (s.basket b).limit := by
  rw [State.basketFull, decide_eq_false_iff_not, not_le, basketCount]

theorem basketLaw_createByRoute (hb : BasketLaw s) {b : BasketId} (st : Station) (p : Priority)
    (hu : (s.story k).phase = .unused) (hroom : (s.basket b).list.length < (s.basket b).limit) :
    BasketLaw (s.createByRoute st k b p) := by
  have hlive : (s.setStory k { unusedStory with phase := .live }).story k = { unusedStory with phase := .live } :=
    story_setStory_same s k _
  have hfile := basketLaw_file (basketLaw_create hb hu) p (by rw [hlive]; rfl) (by rw [hlive]; simp) hroom
  exact basketLaw_of_filing (by simp [State.createByRoute]) hfile

/-- A story in use is filed anew: it leaves its basket first, which makes room where it stays (R54 to R56). -/
theorem basketLaw_routeIn (hb : BasketLaw s) {b : BasketId} (st : Station) (p : Priority)
    (hu : (s.story k).phase ≠ .unused)
    (hroom : (s.story k).basket ≠ some b → (s.basket b).list.length < (s.basket b).limit) :
    BasketLaw (s.routeIn st k b p) := by
  have hleft : ((s.unfile k).story k).basket = none := by rw [unfile_story, if_pos rfl]
  have hused : ((s.unfile k).story k).phase ≠ .unused := by rw [unfile_story, if_pos rfl]; exact hu
  have hfile : ((s.unfile k).basket b).list.length < (s.basket b).limit → BasketLaw ((s.unfile k).file k b p) := fun h =>
    basketLaw_file (basketLaw_unfile hb k) p hleft hused (by rw [unfile_limit]; exact h)
  unfold State.routeIn
  split
  · rename_i hin
    split
    · exact hb
    · refine hfile (lt_of_lt_of_le ?_ (hb.count b))
      obtain ⟨e, he, hk⟩ := hb.listed k b hin
      rw [unfile_basket, if_pos hin]
      exact List.length_filter_lt_length_iff_exists.2 ⟨e, he, by simp [hk]⟩
  · rename_i hin
    refine basketLaw_of_filing (filing_raiseArrivals _ k b _ st) (hfile ?_)
    rw [unfile_basket, if_neg hin]
    exact hroom hin

/-- A purged story has left its basket before its entry returns to power-on (R13). -/
theorem basketLaw_purgeTaken (hb : BasketLaw s) (k : StoryId) (st : Station) : BasketLaw (s.purgeTaken k st) := by
  have hgone : ∀ t : State, filing (t.raiseGone k st) = filing t := fun t => filing_raiseAll _ _
  have h : filing ((((s.forgetMeasure k).unfile k).loseHold k).raiseGone k st) = filing ((s.forgetMeasure k).unfile k) := by
    rw [hgone, filing_loseHold]
  have hlaw := basketLaw_unfile (basketLaw_of_filing (filing_forgetMeasure s k) hb) k
  have hleft : (((s.forgetMeasure k).unfile k).story k).basket = none := by rw [unfile_story, if_pos rfl]
  exact basketLaw_of_filing (filing_done _) (basketLaw_setStory_unfiled (basketLaw_of_filing h hlaw)
    ((filedAs_eq_iff.1 (congrFun (Prod.mk.inj h).2 k)).1.trans hleft) rfl)

theorem basketLaw_writeRoute (hb : BasketLaw s) (st : Station) (k : StoryId) (sz : Size) (q : RouteRequest) :
    BasketLaw (s.writeRoute st k sz q) := by
  refine basketLaw_testing hb fun _ => ?_
  cases q with
  | bad => exact basketLaw_of_filing (filing_refuse s st _) hb
  | purge => exact basketLaw_testing hb fun _ => basketLaw_purgeTaken hb k st
  | out =>
    unfold State.routeRequest
    dsimp only
    split
    · exact basketLaw_of_filing (filing_refuse s st _) hb
    · exact basketLaw_testing hb fun _ => basketLaw_of_filing (by simp) (basketLaw_unfile hb k)
  | basket b p =>
    unfold State.routeRequest
    dsimp only
    split
    · exact basketLaw_testing hb fun h =>
        basketLaw_createByRoute hb st p ‹_› (basketFull_eq_false.1 (h (s.basketFull b, .basketFull) (.head _)))
    · refine basketLaw_testing hb fun h => ?_
      have hlaw : BasketLaw (s.routeIn st k b p) := basketLaw_routeIn hb st p ‹_› fun hin => by
        have hfull := h (_, .basketFull) (List.mem_append_right _ (.head _))
        rw [decide_eq_true hin, Bool.true_and] at hfull
        exact basketFull_eq_false.1 hfull
      exact basketLaw_of_filing (by simp) hlaw

/-! ## LIMIT and WATCHERS -/

/-- LIMIT is clamped between the count and 2048, which the count never exceeds (R47). -/
theorem basketLaw_writeLimit (hb : BasketLaw s) (st : Station) (b : BasketId) (sz : Size) (v : Word) :
    BasketLaw (s.writeLimit st b sz v) := by
  refine basketLaw_testing hb fun _ => basketLaw_of_filing (filing_done _) (basketLaw_setBasket hb rfl ?_ ?_)
  · simp only [clamp, basketCount]
    omega
  · have hcount := hb.count b
    have hlimit := (hb.limit b).2
    simp only [clamp, basketCount] at hcount ⊢
    omega

theorem basketLaw_writeWatchers (hb : BasketLaw s) (st : Station) (b : BasketId) (k : Fin 4) (sz : Size) (v : Word) :
    BasketLaw (s.writeWatchers st b k sz v) :=
  basketLaw_testing hb fun _ =>
    basketLaw_of_filing (filing_done _) (basketLaw_setBasket hb rfl (hb.count b) (hb.limit b))

/-! ## Accesses -/

theorem basketLaw_writeLive (hb : BasketLaw s) (st : Station) (sz : Size) (v : Word) (w : LiveWord) :
    BasketLaw (s.writeLive st sz v w) := by
  have hquiet : filing (s.writeReadOnly st sz) = filing s := filing_testing st _ (by simp)
  cases w with
  | hold k => exact basketLaw_writeHold hb st k sz v
  | route k => exact basketLaw_writeRoute hb st k sz _
  | limit b => exact basketLaw_writeLimit hb st b sz v
  | watchers b k => exact basketLaw_writeWatchers hb st b k sz v
  | state k => exact basketLaw_of_filing (filing_writeState s st k sz v) hb
  | control o => exact basketLaw_of_filing (filing_writeControl s st o sz v) hb
  | rights o => exact basketLaw_of_filing (filing_writeRights s st o sz v) hb
  | readIndex o => exact basketLaw_of_filing (filing_testing st _ (by simp)) hb
  | columnWidth p => exact basketLaw_of_filing (filing_testing st _ (by simp)) hb
  | gutter p => exact basketLaw_of_filing (filing_testing st _ (by simp)) hb
  | columnDepth p => exact basketLaw_of_filing (filing_writeColumnDepth s st p sz v) hb
  | pageCommand p => exact basketLaw_of_filing (filing_writeCommand s st p sz v) hb
  | slotStory p n => exact basketLaw_of_filing (filing_writeStory s st p n sz v) hb
  | span p n => exact basketLaw_of_filing (filing_writeSpan s st p n sz v) hb
  | allowance p n => exact basketLaw_of_filing (filing_writeAllowance s st p n sz v) hb
  | policy p n => exact basketLaw_of_filing (filing_writePolicy s st p n sz v) hb
  | fontSize f => exact basketLaw_of_filing (filing_writeFont s st f sz _) hb
  | fontLeading f => exact basketLaw_of_filing (filing_writeFont s st f sz _) hb
  | widths f c => exact basketLaw_of_filing (filing_writeFont s st f sz _) hb
  | edition => exact basketLaw_of_filing (filing_testing st _ rfl) hb
  | standardMeasure => exact basketLaw_of_filing (filing_writeStandard s st sz v) hb
  | holdWait => exact basketLaw_of_filing (filing_testing st _ rfl) hb
  | attentionEnable => exact basketLaw_of_filing (filing_testing st _ rfl) hb
  | _ => exact basketLaw_of_filing hquiet hb

theorem basketLaw_writeWindow (hb : BasketLaw s) (st : Station) (off : Nat) (sz : Size) (data : Data) (f : Bool) :
    BasketLaw (s.writeWindow st off sz data f) := by
  unfold State.writeWindow
  split
  · exact basketLaw_of_filing (filing_refuse s st _) hb
  · split
    · exact basketLaw_of_filing (filing_writeText s st _ _ sz data f) hb
    · exact basketLaw_of_filing (filing_writeHeaderPlain s st _ _ sz data f) hb
    · exact basketLaw_of_filing (filing_writeRing s st _ _ sz data f) hb
    · exact basketLaw_of_filing (filing_writePlain s st _ sz data f) hb
    · exact basketLaw_writeLive hb st sz _ _

theorem basketLaw_asStation {code : StationCode} {op : Station → State} (hb : BasketLaw s) (h : ∀ st, BasketLaw (op st)) :
    BasketLaw (asStation code s op) := by
  unfold asStation
  split
  · exact h _
  · exact basketLaw_of_filing (filing_refuseUnknown s) hb

theorem basketLaw_access (hb : BasketLaw s) (code : StationCode) (w : Bool) (addr : Word) (sz : Size) (data : Data)
    (f : Bool) : BasketLaw (s.access code w addr sz data f) := by
  unfold State.access
  split
  · refine basketLaw_asStation hb fun st => ?_
    split
    · exact basketLaw_writeWindow hb st _ sz data f
    · exact basketLaw_of_filing (filing_readWindow s st _ sz f) hb
  · exact basketLaw_of_filing (filing_outside s w _ sz data f) hb

/-! ## Every step -/

theorem basketLaw_powerOn (s : State) (strap : BitVec 7) (present : Bool) : BasketLaw (s.powerOn strap present) :=
  basketLaw_of_filing (s := State.reset) rfl basketLaw_reset

/-- Every command keeps the law of baskets. A row that writes a live word keeps it as the word's own entry does. -/
theorem exec_basketLaw (hb : BasketLaw s) (c : Instr) (h : exec c s = .next t) : BasketLaw t := by
  have word : ∀ (code : StationCode) (sz : Size) (v : Word) (w : LiveWord),
      BasketLaw (asStation code s fun st => s.writeLive st sz v w) := fun code sz v w =>
    basketLaw_asStation hb fun st => basketLaw_writeLive hb st sz v w
  have event : ∀ {u : State}, filing u = filing s → BasketLaw u := fun hu => basketLaw_of_filing hu hb
  cases c with
  | powerOn strap present => cases next_inj h; exact basketLaw_powerOn s strap present
  | textRead code k pos sz f =>
    cases next_of_aligned h; exact basketLaw_asStation hb fun st => event (filing_readText s st k _ sz f)
  | textWrite code k pos sz data f =>
    cases next_of_aligned h; exact basketLaw_asStation hb fun st => event (filing_writeText s st k _ sz data f)
  | headerPlainWrite code k off sz data f =>
    cases next_of_aligned h; exact basketLaw_asStation hb fun st => basketLaw_writeWindow hb st _ sz data f
  | plainPassThrough code w addr sz data f => cases next_of_aligned h; exact basketLaw_access hb code w addr sz data f
  | accessOutsideWindow code w addr sz data f => cases next_of_aligned h; exact basketLaw_access hb code w addr sz data f
  | liveWordWrite code addr sz data f => cases next_of_aligned h; exact basketLaw_access hb code true addr sz data f
  | ringSlotWrite code owner off sz data f =>
    cases next_of_aligned h; exact basketLaw_asStation hb fun st => event (filing_writeRing s st owner _ sz data f)
  | claim code k sz => cases next_inj h; exact basketLaw_asStation hb fun st => basketLaw_writeHold hb st k sz _
  | release code k sz => cases next_inj h; exact word code sz noneCode (.hold k)
  | breakHold code k sz => cases next_inj h; exact word code sz breakCode (.hold k)
  | routeToBasket code k sz b p => cases next_inj h; exact basketLaw_asStation hb fun st => basketLaw_writeRoute hb st k sz _
  | routeToNone code k sz => cases next_inj h; exact basketLaw_asStation hb fun st => basketLaw_writeRoute hb st k sz _
  | purge code k sz => cases next_inj h; exact basketLaw_asStation hb fun st => basketLaw_writeRoute hb st k sz _
  | reopen code k sz => cases next_inj h; exact word code sz reopenCode (.state k)
  | limitWrite code b sz v => cases next_inj h; exact word code sz v (.limit b)
  | watchersWrite code b k sz v => cases next_inj h; exact word code sz v (.watchers b k)
  | sizeWrite code f sz v => cases next_inj h; exact word code sz v (.fontSize f)
  | leadingWrite code f sz v => cases next_inj h; exact word code sz v (.fontLeading f)
  | widthTableWrite code f c sz v => cases next_of_aligned h; exact word code sz v (.widths f c)
  | standardMeasureWrite code sz v => cases next_inj h; exact word code sz v .standardMeasure
  | editionWrite code sz v => cases next_inj h; exact word code sz v .edition
  | holdWaitWrite code sz v => cases next_inj h; exact word code sz v .holdWait
  | attentionEnableWrite code sz v => cases next_inj h; exact word code sz v .attentionEnable
  | noticeReadIndexWrite code o sz v => cases next_inj h; exact word code sz v (.readIndex o)
  | signOn code o sz => cases next_inj h; exact word code sz signOnCode (.control o)
  | signOff code o sz => cases next_inj h; exact word code sz signOffCode (.control o)
  | rightsWrite code o sz v => cases next_inj h; exact word code sz v (.rights o)
  | columnWidthWrite code p sz v => cases next_inj h; exact word code sz v (.columnWidth p)
  | gutterWrite code p sz v => cases next_inj h; exact word code sz v (.gutter p)
  | columnDepthWrite code p sz v => cases next_inj h; exact word code sz v (.columnDepth p)
  | place code p n sz k => cases next_inj h; exact word code sz (BitVec.ofNat 32 k.val) (.slotStory p n)
  | remove code p n sz => cases next_inj h; exact word code sz emptyCode (.slotStory p n)
  | spanWrite code p n sz v => cases next_inj h; exact word code sz v (.span p n)
  | allowanceWrite code p n sz v => cases next_inj h; exact word code sz v (.allowance p n)
  | policyWrite code p n sz v => cases next_inj h; exact word code sz v (.policy p n)
  | dispatch code p sz => cases next_inj h; exact word code sz dispatchWord (.pageCommand p)
  | cancel code p sz => cases next_inj h; exact word code sz cancelWord (.pageCommand p)
  | linkStatusRead code off sz f =>
    cases next_of_aligned h; exact basketLaw_asStation hb fun st => event (filing_readWords s st _ sz f)
  | measurePassTaken => cases next_inj h; exact event (filing_takePass s)
  | measurePassCompletion => cases next_inj h; exact event (filing_completePass s)
  | measureFault => cases next_inj h; exact event (filing_faultPass s)
  | fontWaitExpiry => cases next_inj h; exact event (filing_fontWaitExpiry s)
  | holdWaitExpiry => cases next_inj h; exact event (filing_holdWaitExpiry s)
  | sendTextRead f => cases next_inj h; exact event (filing_sendTextRead s f)
  | ringWriteStart => cases next_inj h; exact event (filing_ringWriteStart s)
  | ringWriteComplete f => cases next_inj h; exact event (filing_ringWriteComplete s f)
  | typesetterPresentHigh => cases next_inj h; exact event (filing_presentHigh s)
  | typesetterPresentLow => cases next_inj h; exact event (filing_presentLow s)
  | trainingTimerExpiry => cases next_inj h; exact event (filing_trainingExpiry s)
  | typesetterAbility m l => cases next_inj h; exact event (filing_frameArrives s _)
  | ack => cases next_inj h; exact event (filing_frameArrives s _)
  | nak r => cases next_inj h; exact event (filing_frameArrives s _)
  | wait => cases next_inj h; exact event (filing_frameArrives s _)
  | ready => cases next_inj h; exact event (filing_frameArrives s _)
  | waitTimerExpiry => cases next_inj h; exact event (filing_waitExpiry s)
  | replyTimerExpiry => cases next_inj h; exact event (filing_replyExpiry s)
  | tryEnd => cases next_inj h; exact event (filing_tryEnd s)
  | receiverGapExpiry => cases next_inj h; exact event (filing_gapExpiry s)
  | busReset => cases next_inj h; exact event (filing_busReset s)
  | incomingByte b => cases next_inj h; exact event (filing_byteArrives s b)
  | measureTextRead => cases next_inj h; exact event (filing_measureBlock s)
  | timebaseTick => cases next_inj h; exact event rfl
  | partAbilityEnd => cases next_inj h; exact event (filing_abilityEnd s)

/-- Settles O7: only routes, creations and purges move a story between lists, each leaving one before it joins another, and only
LIMIT moves a limit. -/
theorem stepsKeepBasketLaw : Obligations.StepsKeepBasketLaw := by
  intro s t hb h
  unfold step at h
  split at h
  · cases next_inj h
    exact hb
  · rename_i c rest _
    have hpending : BasketLaw { s with pending := rest } := basketLaw_of_filing (s := s) rfl hb
    exact exec_basketLaw hpending c h

end Sys2Proof.Machine
end


section
/-! PROOFS. Where the live words of pages, stations, baskets, fonts and the desk stand, and what a read of live bytes returns
(R162, R165, R168, sections 11.3 and 11.5 to 11.8). -/

namespace Sys2Proof.Machine

open Safety

variable {s : State} {code : StationCode} {st : Station} {w : LiveWord} {v : Word} {off : Nat}

/-! ## Blocks of the window -/

/-- The place of each byte of a basket's block (section 11.5). -/
theorem placeOf_basket (b : BasketId) {h : Nat} (hh : h < 16384) :
    placeOf (0x1040000 + 16384 * b.val + h) = basketPlace b h := by
  have hb := b.isLt
  have h1 : ¬ 0x1040000 + 16384 * b.val + h < 0x1000000 := by omega
  have h2 : ¬ 0x1040000 + 16384 * b.val + h < 0x1020000 := by omega
  have h3 : ¬ 0x1040000 + 16384 * b.val + h < 0x1040000 := by omega
  have h4 : 0x1040000 + 16384 * b.val + h < 0x10C0000 := by omega
  have h5 : (0x1040000 + 16384 * b.val + h - 0x1040000) / 16384 = b.val := by omega
  have h6 : (0x1040000 + 16384 * b.val + h - 0x1040000) % 16384 = h := by omega
  have h7 : Fin.ofNat 32 b.val = b := Fin.ext (Nat.mod_eq_of_lt hb)
  rw [placeOf, if_neg h1, if_neg h2, if_neg h3, if_pos h4, h5, h6, h7]

/-- The place of each byte of a page's block (section 11.6). -/
theorem placeOf_page (p : PageId) {h : Nat} (hh : h < 256) : placeOf (0x10C0000 + 256 * p.val + h) = pagePlace p h := by
  have hp := p.isLt
  have h1 : ¬ 0x10C0000 + 256 * p.val + h < 0x1000000 := by omega
  have h2 : ¬ 0x10C0000 + 256 * p.val + h < 0x1020000 := by omega
  have h3 : ¬ 0x10C0000 + 256 * p.val + h < 0x1040000 := by omega
  have h4 : ¬ 0x10C0000 + 256 * p.val + h < 0x10C0000 := by omega
  have h5 : 0x10C0000 + 256 * p.val + h < 0x10C6000 := by omega
  have h6 : (0x10C0000 + 256 * p.val + h - 0x10C0000) / 256 = p.val := by omega
  have h7 : (0x10C0000 + 256 * p.val + h - 0x10C0000) % 256 = h := by omega
  have h8 : Fin.ofNat 96 p.val = p := Fin.ext (Nat.mod_eq_of_lt hp)
  rw [placeOf, if_neg h1, if_neg h2, if_neg h3, if_neg h4, if_pos h5, h6, h7, h8]

/-- The place of each byte of a font's block (section 11.7). -/
theorem placeOf_font (g : FontId) {h : Nat} (hh : h < 512) : placeOf (0x10D0000 + 512 * g.val + h) = fontPlace g h := by
  have hg := g.isLt
  have h1 : ¬ 0x10D0000 + 512 * g.val + h < 0x1000000 := by omega
  have h2 : ¬ 0x10D0000 + 512 * g.val + h < 0x1020000 := by omega
  have h3 : ¬ 0x10D0000 + 512 * g.val + h < 0x1040000 := by omega
  have h4 : ¬ 0x10D0000 + 512 * g.val + h < 0x10C0000 := by omega
  have h5 : ¬ 0x10D0000 + 512 * g.val + h < 0x10C6000 := by omega
  have h6 : ¬ 0x10D0000 + 512 * g.val + h < 0x10D0000 := by omega
  have h7 : 0x10D0000 + 512 * g.val + h < 0x10D1000 := by omega
  have h8 : (0x10D0000 + 512 * g.val + h - 0x10D0000) / 512 = g.val := by omega
  have h9 : (0x10D0000 + 512 * g.val + h - 0x10D0000) % 512 = h := by omega
  have h10 : Fin.ofNat 8 g.val = g := Fin.ext (Nat.mod_eq_of_lt hg)
  rw [placeOf, if_neg h1, if_neg h2, if_neg h3, if_neg h4, if_neg h5, if_neg h6, if_pos h7, h8, h9, h10]

/-- A word of a station's record. -/
theorem liveAt_station (o : Station) {h : Nat} (hh : 0x200 + h + 4 ≤ 1024) (h4 : h % 4 = 0)
    (hp : ∀ i, i < 4 → stationPlace o (0x200 + h + i) = .live w) (hw : w ≠ .linkStatus) :
    LiveAt w (0x1020200 + 1024 * stationByte (some o) + h) := by
  have ho := stationByte_lt o
  refine ⟨by simp only [windowBytes]; omega, by omega, fun i hi => ?_, hw⟩
  rw [show 0x1020200 + 1024 * stationByte (some o) + h + i = 0x1020000 + 1024 * stationByte (some o) + (0x200 + h + i) by
    omega, placeOf_station o (by omega), hp i hi]

/-- A word of a basket's block. -/
theorem liveAt_basket (b : BasketId) {h : Nat} (hh : h + 4 ≤ 16384) (h4 : h % 4 = 0)
    (hp : ∀ i, i < 4 → basketPlace b (h + i) = .live w) (hw : w ≠ .linkStatus) :
    LiveAt w (0x1040000 + 16384 * b.val + h) := by
  have hb := b.isLt
  refine ⟨by simp only [windowBytes]; omega, by omega, fun i hi => ?_, hw⟩
  rw [Nat.add_assoc, placeOf_basket b (by omega), hp i hi]

/-- A word of a page's block. -/
theorem liveAt_page (p : PageId) {h : Nat} (hh : h + 4 ≤ 256) (h4 : h % 4 = 0)
    (hp : ∀ i, i < 4 → pagePlace p (h + i) = .live w) (hw : w ≠ .linkStatus) : LiveAt w (0x10C0000 + 256 * p.val + h) := by
  have hpage := p.isLt
  refine ⟨by simp only [windowBytes]; omega, by omega, fun i hi => ?_, hw⟩
  rw [Nat.add_assoc, placeOf_page p (by omega), hp i hi]

/-- A word of a font's block. -/
theorem liveAt_font (g : FontId) {h : Nat} (hh : h + 4 ≤ 512) (h4 : h % 4 = 0)
    (hp : ∀ i, i < 4 → fontPlace g (h + i) = .live w) (hw : w ≠ .linkStatus) : LiveAt w (0x10D0000 + 512 * g.val + h) := by
  have hg := g.isLt
  refine ⟨by simp only [windowBytes]; omega, by omega, fun i hi => ?_, hw⟩
  rw [Nat.add_assoc, placeOf_font g (by omega), hp i hi]

/-- A desk system word. -/
theorem liveAt_desk {h : Nat} (hh : h + 4 ≤ 0x40) (hword : h % 4 = 0) (hp : ∀ i, i < 4 → deskPlace (h + i) = .live w)
    (hw : w ≠ .linkStatus) : LiveAt w (0x10E0000 + h) := by
  refine ⟨by simp only [windowBytes]; omega, by omega, fun i hi => ?_, hw⟩
  have h1 : ¬ 0x10E0000 + (h + i) < 0x1000000 := by omega
  have h2 : ¬ 0x10E0000 + (h + i) < 0x1020000 := by omega
  have h3 : ¬ 0x10E0000 + (h + i) < 0x1040000 := by omega
  have h4 : ¬ 0x10E0000 + (h + i) < 0x10C0000 := by omega
  have h5 : ¬ 0x10E0000 + (h + i) < 0x10C6000 := by omega
  have h6 : ¬ 0x10E0000 + (h + i) < 0x10D0000 := by omega
  have h7 : ¬ 0x10E0000 + (h + i) < 0x10D1000 := by omega
  have h8 : ¬ 0x10E0000 + (h + i) < 0x10E0000 := by omega
  have h9 : 0x10E0000 + (h + i) < 0x10E0040 := by omega
  rw [Nat.add_assoc, placeOf, if_neg h1, if_neg h2, if_neg h3, if_neg h4, if_neg h5, if_neg h6, if_neg h7, if_neg h8,
    if_pos h9, Nat.add_sub_cancel_left, hp i hi]

/-! ## The words of a station's record -/

theorem liveAt_rights (o : Station) : LiveAt (.rights o) (0x1020200 + 1024 * stationByte (some o) + 4) :=
  liveAt_station o (by decide) (by decide) (fun i hi => by interval_cases i <;> rfl) (by simp)

theorem liveAt_stationStatus (o : Station) : LiveAt (.stationStatus o) (0x1020200 + 1024 * stationByte (some o) + 8) :=
  liveAt_station o (by decide) (by decide) (fun i hi => by interval_cases i <;> rfl) (by simp)

theorem liveAt_lastRefusal (o : Station) : LiveAt (.lastRefusal o) (0x1020200 + 1024 * stationByte (some o) + 12) :=
  liveAt_station o (by decide) (by decide) (fun i hi => by interval_cases i <;> rfl) (by simp)

theorem liveAt_writeIndex (o : Station) : LiveAt (.writeIndex o) (0x1020200 + 1024 * stationByte (some o) + 16) :=
  liveAt_station o (by decide) (by decide) (fun i hi => by interval_cases i <;> rfl) (by simp)

theorem liveAt_readIndex (o : Station) : LiveAt (.readIndex o) (0x1020200 + 1024 * stationByte (some o) + 20) :=
  liveAt_station o (by decide) (by decide) (fun i hi => by interval_cases i <;> rfl) (by simp)

/-! ## The words of a basket's block -/

theorem liveAt_limit (b : BasketId) : LiveAt (.limit b) (0x1040000 + 16384 * b.val) :=
  liveAt_basket b (h := 0) (by decide) (by decide) (fun i hi => by interval_cases i <;> rfl) (by simp)

theorem liveAt_count (b : BasketId) : LiveAt (.count b) (0x1040000 + 16384 * b.val + 4) :=
  liveAt_basket b (by decide) (by decide) (fun i hi => by interval_cases i <;> rfl) (by simp)

theorem liveAt_watchers (b : BasketId) (k : Fin 4) : LiveAt (.watchers b k) (0x1040000 + 16384 * b.val + 8 + 4 * k.val) := by
  have hk := k.isLt
  rw [Nat.add_assoc]
  refine liveAt_basket b (by omega) (by omega) (fun i hi => ?_) (by simp)
  have h1 : 8 + 4 * k.val + i < 0x18 := by omega
  have h2 : (8 + 4 * k.val + i) / 4 = k.val + 2 := by omega
  have h3 : Fin.ofNat 4 (k.val + 2 - 2) = k := Fin.ext (Nat.mod_eq_of_lt hk)
  rw [basketPlace, if_pos h1, h2]
  exact congrArg (fun j => Place.live (.watchers b j)) h3

theorem liveAt_listEntry (b : BasketId) {i : Nat} (hi : i < 2048) :
    LiveAt (.listEntry b i) (0x1040000 + 16384 * b.val + 0x2000 + 4 * i) := by
  rw [Nat.add_assoc]
  refine liveAt_basket b (by omega) (by omega) (fun j hj => ?_) (by simp)
  have h1 : ¬ 0x2000 + 4 * i + j < 0x18 := by omega
  have h2 : ¬ 0x2000 + 4 * i + j < 0x2000 := by omega
  have h3 : (0x2000 + 4 * i + j - 0x2000) / 4 = i := by omega
  rw [basketPlace, if_neg h1, if_neg h2, h3]

/-! ## The words of a page's block -/

theorem liveAt_columnWidth (p : PageId) : LiveAt (.columnWidth p) (0x10C0000 + 256 * p.val) :=
  liveAt_page p (h := 0) (by decide) (by decide) (fun i hi => by interval_cases i <;> rfl) (by simp)

theorem liveAt_gutter (p : PageId) : LiveAt (.gutter p) (0x10C0000 + 256 * p.val + 4) :=
  liveAt_page p (by decide) (by decide) (fun i hi => by interval_cases i <;> rfl) (by simp)

theorem liveAt_columnDepth (p : PageId) : LiveAt (.columnDepth p) (0x10C0000 + 256 * p.val + 8) :=
  liveAt_page p (by decide) (by decide) (fun i hi => by interval_cases i <;> rfl) (by simp)

theorem liveAt_pageState (p : PageId) : LiveAt (.pageState p) (0x10C0000 + 256 * p.val + 12) :=
  liveAt_page p (by decide) (by decide) (fun i hi => by interval_cases i <;> rfl) (by simp)

theorem liveAt_pageCommand (p : PageId) : LiveAt (.pageCommand p) (0x10C0000 + 256 * p.val + 16) :=
  liveAt_page p (by decide) (by decide) (fun i hi => by interval_cases i <;> rfl) (by simp)

/-- The four words of a slot, in order (section 11.6). -/
def slotTerm (p : PageId) (n : SlotId) : Nat → LiveWord
  | 0 => .slotStory p n
  | 1 => .span p n
  | 2 => .allowance p n
  | _ => .policy p n

theorem liveAt_slotTerm (p : PageId) (n : SlotId) {j : Nat} (hj : j < 4) :
    LiveAt (slotTerm p n j) (0x10C0000 + 256 * p.val + (64 + 4 * j) + 16 * n.val) := by
  have hn := n.isLt
  rw [Nat.add_assoc]
  refine liveAt_page p (by omega) (by omega) (fun i hi => ?_) (by unfold slotTerm; split <;> simp)
  have h1 : ¬ 64 + 4 * j + 16 * n.val + i < 0x40 := by omega
  have h2 : (64 + 4 * j + 16 * n.val + i - 0x40) / 16 = n.val := by omega
  have h3 : (64 + 4 * j + 16 * n.val + i - 0x40) / 4 % 4 = j := by omega
  have h4 : Fin.ofNat 12 n.val = n := Fin.ext (Nat.mod_eq_of_lt hn)
  simp only [pagePlace, if_neg h1, h2, h3, h4]
  interval_cases j <;> rfl

/-! ## The words of a font's block, and of the desk -/

theorem liveAt_fontSize (g : FontId) : LiveAt (.fontSize g) (0x10D0000 + 512 * g.val) :=
  liveAt_font g (h := 0) (by decide) (by decide) (fun i hi => by interval_cases i <;> rfl) (by simp)

theorem liveAt_fontLeading (g : FontId) : LiveAt (.fontLeading g) (0x10D0000 + 512 * g.val + 4) :=
  liveAt_font g (by decide) (by decide) (fun i hi => by interval_cases i <;> rfl) (by simp)

theorem liveAt_edition : LiveAt .edition 0x10E0000 :=
  liveAt_desk (h := 0) (by decide) (by decide) (fun i hi => by interval_cases i <;> rfl) (by simp)

theorem liveAt_standardMeasure : LiveAt .standardMeasure 0x10E0004 :=
  liveAt_desk (h := 4) (by decide) (by decide) (fun i hi => by interval_cases i <;> rfl) (by simp)

theorem liveAt_holdWait : LiveAt .holdWait 0x10E0008 :=
  liveAt_desk (h := 8) (by decide) (by decide) (fun i hi => by interval_cases i <;> rfl) (by simp)

theorem liveAt_attentionEnable : LiveAt .attentionEnable 0x10E000C :=
  liveAt_desk (h := 12) (by decide) (by decide) (fun i hi => by interval_cases i <;> rfl) (by simp)

theorem liveAt_measureStatus : LiveAt .measureStatus 0x10E0014 :=
  liveAt_desk (h := 20) (by decide) (by decide) (fun i hi => by interval_cases i <;> rfl) (by simp)

theorem liveAt_dispatchStatus : LiveAt .dispatchStatus 0x10E0018 :=
  liveAt_desk (h := 24) (by decide) (by decide) (fun i hi => by interval_cases i <;> rfl) (by simp)

theorem liveAt_pending (k : Fin 4) : LiveAt (.pending k) (0x10E0020 + 4 * k.val) := by
  have hk := k.isLt
  have h := liveAt_desk (w := .pending k) (h := 0x20 + 4 * k.val) (by omega) (by omega) (fun i hi => by
    have hword : (0x20 + 4 * k.val + i) / 4 = 8 + k.val := by omega
    rw [deskPlace, hword]
    fin_cases k <;> rfl) (by simp)
  rwa [← Nat.add_assoc] at h

/-! ## Reads of live bytes -/

/-- Four aligned bytes of the window are live, and each belongs to a word that shows `v`: one live word, or four entries of a width
table, which are words of their own with one value (R66). -/
structure ShowsAt (s : State) (v : Word) (off : Nat) : Prop where
  inside : off + 4 ≤ windowBytes
  whole : off % 4 = 0
  place : ∀ i, i < 4 → ∃ w, placeOf (off + i) = .live w ∧ s.liveWord w = v

/-- A read of such bytes returns them, whatever memory reports, and leaves all but the bus and the link-lost latch. -/
theorem ShowsAt.readWords (h : ShowsAt s v off) {a : Nat} {sz : Size} (ha : a + sizeBytes sz ≤ 4) (st : Station) (f : Bool) :
    s.readWords st (off + a) sz f =
      (s.clearLatch st (off + a) sz).doneRead ((v.extractLsb' (8 * a) (8 * sizeBytes sz)).setWidth 128) := by
  have hplace : ∀ i, i < sizeBytes sz → ∃ w, placeOf (off + a + i) = .live w ∧ s.liveWord w = v := fun i hi => by
    rw [Nat.add_assoc]
    exact h.place (a + i) (by omega)
  have hoffsets : ∀ x ∈ accessOffsets (off + a) sz, ∃ w, placeOf x = .live w := fun x hx => by
    obtain ⟨i, hi, rfl⟩ := List.mem_map.1 hx
    obtain ⟨w, hw, -⟩ := hplace i (List.mem_range.1 hi)
    exact ⟨w, hw⟩
  have hplain : touchesPlain (off + a) sz = false := List.any_eq_false.2 fun x hx => by
    obtain ⟨w, hw⟩ := hoffsets x hx
    simp [hw, isLive]
  have hfree : ∀ t : State, t.readFree (off + a) sz = t := fun t => by
    have : ((accessOffsets (off + a) sz).any fun x => (t.beingWritten x).isSome) = false := List.any_eq_false.2 fun x hx => by
      obtain ⟨w, hw⟩ := hoffsets x hx
      unfold State.beingWritten
      rw [hw]
      simp
    rw [State.readFree, if_neg (by rw [this]; exact Bool.false_ne_true)]
  have hbytes : (List.range (sizeBytes sz)).map (s.readByteAt (off + a)) =
      (List.range (sizeBytes sz)).map fun i => wordByte v (a + i) := List.map_congr_left fun i hi => by
    have hi := List.mem_range.1 hi
    obtain ⟨w, hw, hv⟩ := hplace i hi
    have hm : (off + a + i) % 4 = a + i := by have := h.whole; omega
    rw [State.readByteAt, hw, hm, ← hv]
  rw [State.readWords, hplain, Bool.and_false, if_neg Bool.false_ne_true, hfree, hbytes, packBytes_wordBytes _ _ _ ha]

/-- The offset of a part of a word is aligned to the part's size. -/
theorem ShowsAt.aligned (h : ShowsAt s v off) {a : Nat} {sz : Size} (hsz : sizeBytes sz ∣ 4) (ha : a % sizeBytes sz = 0) :
    aligned (off + a) sz = true := by
  have hoff : off % sizeBytes sz = 0 := Nat.mod_eq_zero_of_dvd (hsz.trans (Nat.dvd_of_mod_eq_zero h.whole))
  simp [Machine.aligned, Nat.add_mod, hoff, ha]

/-- Every station reads them whole, by halves and by bytes, where none is of LINK STATUS. -/
theorem ShowsAt.shows (h : ShowsAt s v off) (hlink : ∀ i, i < 4 → placeOf (off + i) ≠ .live .linkStatus) :
    showsWord s off v := by
  intro code st d f hst
  have hin := h.inside
  have hread : ∀ (a : Nat) (sz : Size), a + sizeBytes sz ≤ 4 → sizeBytes sz ∣ 4 → a % sizeBytes sz = 0 →
      exec (.plainPassThrough code false (windowAddr s (off + a)) sz d f) s =
        .next { s with bus := readBus ((v.extractLsb' (8 * a) (8 * sizeBytes sz)).setWidth 128) } := by
    intro a sz ha hsz hal
    have hpos : 0 < sizeBytes sz := Nat.pos_of_dvd_of_pos hsz (by decide)
    obtain ⟨w, hw, -⟩ := h.place a (by omega)
    have hlatch : touchesLinkStatus (off + a) sz = false := List.any_eq_false.2 fun x hx => by
      obtain ⟨i, hi, rfl⟩ := List.mem_map.1 hx
      have hi := List.mem_range.1 hi
      rw [Nat.add_assoc]
      simpa using hlink (a + i) (by omega)
    rw [exec_read hst (by omega) (h.aligned hsz hal), State.readWindow, hw]
    dsimp only
    rw [h.readWords ha, State.clearLatch, hlatch]
    rfl
  refine ⟨?_, fun i hi => ?_, fun i hi => ?_⟩
  · simpa [sizeBytes] using hread 0 .word (by decide) (by decide) (by decide)
  · have := hread (2 * i) .half (by simp only [sizeBytes]; omega) (by decide) (by simp only [sizeBytes]; omega)
    rwa [show 8 * (2 * i) = 16 * i by omega] at this
  · exact hread i .byte (by simp only [sizeBytes]; omega) (by decide) (by simp only [sizeBytes]; omega)

end Sys2Proof.Machine
end


section
/-! PROOFS. What the live words of pages, stations, baskets, fonts and the desk show (chapter 11). -/

namespace Sys2Proof.Machine

open Safety

variable {s : State}

/-! ## Fields of words -/

/-- A word of flags built up one by one. -/
theorem flagsWord_bit (p : Nat → Bool) {l : List Nat} (v : Word) {j : Nat} (hj : j < 32) :
    (l.foldl (fun v i => if p i then v ||| BitVec.twoPow 32 i else v) v).getLsbD j = (v.getLsbD j || (p j && decide (j ∈ l))) := by
  induction l generalizing v with
  | nil => simp
  | cons i l ih =>
    rw [List.foldl_cons, ih]
    by_cases hp : p i = true
    · rw [if_pos hp, BitVec.getLsbD_or, BitVec.getLsbD_twoPow]
      by_cases hij : i = j
      · subst hij
        simp [hj, hp]
      · simp [hij, Ne.symm hij]
    · rw [if_neg hp]
      by_cases hij : j = i
      · subst hij
        simp [hp]
      · simp [hij]

theorem pendingWord_bit (s : State) (k : Nat) {j : Nat} (hj : j < 32) :
    (s.pendingWord k).getLsbD j = s.pendingFlag (32 * k + j) := by
  have h := flagsWord_bit (fun i => s.pendingFlag (32 * k + i)) (l := List.range 32) 0 hj
  rw [State.pendingWord]
  refine h.trans ?_
  simp [hj]

/-- A ring has unread notices exactly when its indices differ (R107). -/
theorem unread_pos_iff (r : Ring) : 0 < unread r ↔ r.write ≠ r.read := by
  rw [unread, Nat.pos_iff_ne_zero, ne_eq, ne_eq, not_iff_not, ← BitVec.toNat_inj]
  have hw := r.write.isLt
  have hr := r.read.isLt
  rw [BitVec.toNat_sub]
  omega

theorem pendingFlag_terminal (s : State) (u : TerminalId) :
    s.pendingFlag u.val = decide ((s.terminal u).ring.write ≠ (s.terminal u).ring.read) := by
  rw [State.pendingFlag, dif_pos u.isLt]
  exact decide_eq_decide.2 (unread_pos_iff _)

theorem pendingFlag_system (s : State) :
    s.pendingFlag 127 = decide (s.stations.system.ring.write ≠ s.stations.system.ring.read) := by
  rw [State.pendingFlag, dif_neg (by decide), if_pos rfl]
  exact decide_eq_decide.2 (unread_pos_iff _)

theorem pendingFlag_none (s : State) {c : Nat} (h1 : 120 ≤ c) (h2 : c ≤ 126) : s.pendingFlag c = false := by
  rw [State.pendingFlag, dif_neg (by omega), if_neg (by omega)]

/-! ## Pages -/

/-- PAGE STATE of a page at rest (R121). -/
theorem pageStateWord_resting {v : Page} {r : Resting} (h : v.state = .resting r) : pageStateWord v =
    BitVec.ofNat 32 (restingCode r + 0xFF00 + 0x10000 * lastResultCode v.lastResult + 0x1000000 * v.editionSent
      + 0x10000000 * (occupied v).length) := by
  simp only [pageStateWord, h, pageStateCode, restingField, Option.map_none, byteField, Option.getD_none, wordOf]
  congr 1
  omega

/-- PAGE STATE of a page in a transient state, whose code it shows with the resting state field (R119, R121). -/
theorem pageStateWord_transient {v : Page} {r : Resting} {n : Nat} (h : restingField v.state = some r)
    (hn : pageStateCode v.state = n) : pageStateWord v =
    BitVec.ofNat 32 (n + 0x100 * restingCode r + 0x10000 * lastResultCode v.lastResult + 0x1000000 * v.editionSent
      + 0x10000000 * (occupied v).length) := by
  simp only [pageStateWord, h, hn, Option.map_some, byteField, Option.getD_some, wordOf]
  congr 1
  omega

/-- PAGE COMMAND shows the place of the page's first entry in the queue (R132). -/
theorem commandWord_queued {p : PageId} {i : Nat} {e : Queued} (hi : s.dispatch.queue[i]? = some e) (he : e.page = p)
    (hfirst : ∀ q ∈ s.dispatch.queue.take i, q.page ≠ p) : s.commandWord p = BitVec.ofNat 32 i := by
  obtain ⟨hlt, hget⟩ := List.getElem?_eq_some_iff.1 hi
  have hfind : (s.dispatch.queue.findIdx? fun e => e.page == p) = some i := by
    refine List.findIdx?_eq_some_iff_getElem.2 ⟨hlt, by simp [hget, he], fun j hj => ?_⟩
    simpa using hfirst _ (List.mem_take_iff_getElem.2 ⟨j, by omega, rfl⟩)
  rw [State.commandWord, hfind]
  rfl

theorem commandWord_absent {p : PageId} (h : ∀ e ∈ s.dispatch.queue, e.page ≠ p) :
    s.commandWord p = BitVec.ofNat 32 0xFF := by
  have hfind : (s.dispatch.queue.findIdx? fun e => e.page == p) = none :=
    List.findIdx?_eq_none_iff.2 fun e he => by simpa using h e he
  rw [State.commandWord, hfind]
  rfl

theorem slotWord_eq (s : State) (p : PageId) (n : SlotId) (g : Slot → Nat) :
    s.slotWord p n g = BitVec.ofNat 32 (termOf (s.slotOf p n) g) := by
  unfold State.slotWord
  split <;> rename_i h <;> rw [h] <;> rfl

theorem policyCode_eq (x : Policy) : policyCode x = if x = .trim then 1 else 0 := by cases x <;> rfl

/-- A live word shows the number it is made of. -/
theorem shows_of_liveAt {w : LiveWord} {off n : Nat} (h : LiveAt w off) (hn : s.liveWord w = BitVec.ofNat 32 n) :
    shows s off n := by
  rw [shows, ← hn]
  exact h.shows

theorem pageWordsShowTheRecord : Parts.PageWordsShowTheRecord := by
  rintro s p v h rfl rfl
  refine ⟨shows_of_liveAt (liveAt_columnWidth p) rfl, shows_of_liveAt (liveAt_gutter p) rfl,
    shows_of_liveAt (liveAt_columnDepth p) rfl, fun r hr => shows_of_liveAt (liveAt_pageState p) (pageStateWord_resting hr),
    fun r n hn => shows_of_liveAt (liveAt_pageState p) ?_, (liveAt_pageState p).refuses fun _ _ _ => rfl,
    fun i e hi he hfirst => shows_of_liveAt (liveAt_pageCommand p) (commandWord_queued hi he hfirst),
    fun hout => shows_of_liveAt (liveAt_pageCommand p) (commandWord_absent hout), fun n => ⟨?_, ?_, ?_, ?_⟩, rfl, rfl, rfl, rfl⟩
  · rcases hn with ⟨hr, rfl⟩ | ⟨hr, rfl⟩ | ⟨hr, rfl⟩ <;> exact pageStateWord_transient (by rw [hr]; rfl) (by rw [hr]; rfl)
  · exact shows_of_liveAt (liveAt_slotTerm p n (j := 0) (by decide)) (slotWord_eq s p n _)
  · exact shows_of_liveAt (liveAt_slotTerm p n (j := 1) (by decide)) (slotWord_eq s p n _)
  · exact shows_of_liveAt (liveAt_slotTerm p n (j := 2) (by decide)) (slotWord_eq s p n _)
  · simp only [← policyCode_eq]
    exact shows_of_liveAt (liveAt_slotTerm p n (j := 3) (by decide)) (slotWord_eq s p n _)

/-! ## Stations -/

/-- The words of a station's record that need no sign state, whichever station it is (section 11.3). -/
theorem stationWordsShow (s : State) (st : Station) :
    shows s (0x1020200 + 1024 * stationByte (some st) + 12) (reasonCode (s.lastRefusal st)) ∧
      shows s (0x1020200 + 1024 * stationByte (some st) + 16) (s.ring st).write.toNat ∧
      shows s (0x1020200 + 1024 * stationByte (some st) + 20) (s.ring st).read.toNat ∧
      refusesWrites s (0x1020200 + 1024 * stationByte (some st) + 8) ∧
      refusesWrites s (0x1020200 + 1024 * stationByte (some st) + 12) ∧
      refusesWrites s (0x1020200 + 1024 * stationByte (some st) + 16) :=
  ⟨shows_of_liveAt (liveAt_lastRefusal st) rfl, shows_of_liveAt (liveAt_writeIndex st) rfl,
    shows_of_liveAt (liveAt_readIndex st) rfl, (liveAt_stationStatus st).refuses fun _ _ _ => rfl,
    (liveAt_lastRefusal st).refuses fun _ _ _ => rfl, (liveAt_writeIndex st).refuses fun _ _ _ => rfl⟩

theorem terminalWordsShow (s : State) (u : TerminalId) :
    shows s (0x1020200 + 1024 * u.val) (flagAt (s.terminal u).signedOn 1) ∧
      shows s (0x1020200 + 1024 * u.val + 4) ((s.terminal u).group.val + flagAt (s.terminal u).makeup 256) ∧
      shows s (0x1020200 + 1024 * u.val + 8)
        (flagAt (s.terminal u).signedOn 1 + 2 * (s.terminal u).group.val + flagAt (s.terminal u).makeup 16
          + flagAt (s.terminal u).ring.overrun 32
          + 256 * ((s.terminal u).ring.write - (s.terminal u).ring.read).toNat) := by
  refine ⟨shows_of_liveAt (liveAt_control (.terminal u)) rfl, shows_of_liveAt (liveAt_rights (.terminal u)) ?_,
    shows_of_liveAt (liveAt_stationStatus (.terminal u)) ?_⟩
  · simp only [State.liveWord, State.rightsWord, flag_mul, wordOf]
  · simp only [State.liveWord, State.stationStatusWord, flag_mul, wordOf, unread]
    rfl

theorem systemWordsShow (s : State) : shows s 0x103FE00 1 ∧ shows s 0x103FE04 0 ∧
    shows s 0x103FE08 (1 + flagAt s.stations.system.ring.overrun 32
      + 256 * (s.stations.system.ring.write - s.stations.system.ring.read).toNat) := by
  refine ⟨shows_of_liveAt (liveAt_control .system) rfl, shows_of_liveAt (liveAt_rights .system) rfl,
    shows_of_liveAt (liveAt_stationStatus .system) ?_⟩
  simp only [State.liveWord, State.stationStatusWord, flag_mul, wordOf, unread]

/-- The flags of PENDING (R117). -/
theorem pendingWordShows (s : State) (k : Fin 4) : refusesWrites s (0x10E0020 + 4 * k.val) ∧
    ∃ w, showsWord s (0x10E0020 + 4 * k.val) w ∧ ∀ j, j < 32 →
      (∀ u : TerminalId, u.val = 32 * k.val + j →
        w.getLsbD j = decide ((s.terminal u).ring.write ≠ (s.terminal u).ring.read)) ∧
      (120 ≤ 32 * k.val + j → 32 * k.val + j ≤ 126 → w.getLsbD j = false) ∧
      (32 * k.val + j = 127 →
        w.getLsbD j = decide (s.stations.system.ring.write ≠ s.stations.system.ring.read)) := by
  refine ⟨(liveAt_pending k).refuses fun _ _ _ => rfl, s.pendingWord k.val, (liveAt_pending k).shows, fun j hj => ?_⟩
  rw [pendingWord_bit s k.val hj]
  refine ⟨fun u hu => ?_, fun h1 h2 => pendingFlag_none s h1 h2, fun h => ?_⟩
  · rw [← hu]
    exact pendingFlag_terminal s u
  · rw [h]
    exact pendingFlag_system s

theorem stationWordsShowTheRecord : Parts.StationWordsShowTheRecord := by
  intro s
  obtain ⟨hcontrol, hrights, hstatus⟩ := systemWordsShow s
  refine ⟨?_, ?_, hcontrol, hrights, hstatus, pendingWordShows s, rfl⟩
  · rintro st h rfl
    exact stationWordsShow s st
  · rintro u v h rfl rfl
    exact terminalWordsShow s u

/-! ## Baskets, fonts and the desk -/

theorem watchersWord_bit (x : BitVec 120) (k : Fin 4) {j : Nat} (hj : j < 32) :
    (((x.setWidth 128) >>> (32 * k.val)).setWidth 32).getLsbD j = x.getLsbD (32 * k.val + j) := by
  have hk := k.isLt
  have hlt : 32 * k.val + j < 128 := by omega
  simp [BitVec.getLsbD_ushiftRight, hj, hlt]

/-- An entry of the list window (R60). -/
theorem listWord_some {b : BasketId} {i : Nat} {x : Filed} (h : (s.basket b).list[i]? = some x) : s.listWord b i =
    BitVec.ofNat 32 (x.story.val + 0x10000 * prioCode x.prio + flagAt (s.story x.story).holder.isSome 0x800000
      + 0x1000000 * stationByte (s.story x.story).holder) := by
  simp only [State.listWord, h, holderByte_eq, flag_mul, wordOf]

theorem listWord_none {b : BasketId} {i : Nat} (h : (s.basket b).list[i]? = none) :
    s.listWord b i = BitVec.ofNat 32 0xFFFFFFFF := by
  simp only [State.listWord, h, noneWord]

theorem basketWordsShow (s : State) (b : BasketId) :
    shows s (0x1040000 + 16384 * b.val) (s.basket b).limit ∧
    (∀ k : Fin 4, ∃ w, showsWord s (0x1040000 + 16384 * b.val + 8 + 4 * k.val) w ∧ ∀ j, j < 32 →
      w.getLsbD j = (s.basket b).watchers.getLsbD (32 * k.val + j)) ∧
    ∀ i, i < 2048 → refusesWrites s (0x1040000 + 16384 * b.val + 0x2000 + 4 * i) ∧
      (∀ x, (s.basket b).list[i]? = some x →
        shows s (0x1040000 + 16384 * b.val + 0x2000 + 4 * i) (x.story.val + 0x10000 * prioCode x.prio
          + flagAt (s.story x.story).holder.isSome 0x800000 + 0x1000000 * stationByte (s.story x.story).holder)) ∧
      ((s.basket b).list[i]? = none → shows s (0x1040000 + 16384 * b.val + 0x2000 + 4 * i) 0xFFFFFFFF) :=
  ⟨shows_of_liveAt (liveAt_limit b) rfl,
    fun k => ⟨_, (liveAt_watchers b k).shows, fun _ hj => watchersWord_bit _ k hj⟩,
    fun _ hi => ⟨(liveAt_listEntry b hi).refuses fun _ _ _ => rfl,
      fun _ hx => shows_of_liveAt (liveAt_listEntry b hi) (listWord_some hx),
      fun hx => shows_of_liveAt (liveAt_listEntry b hi) (listWord_none hx)⟩⟩

/-- The word of four entries of a width table (R66). -/
theorem widthsWord_eq (s : State) (g : FontId) (c : Nat) :
    s.widthsWord g c = sideBySide fun i => (fontWidth (s.font g) (c / 4 * 4 + i)).toNat := rfl

/-- Each byte of a width table is an entry of its own (R62). -/
theorem placeOf_widths (g : FontId) {c : Nat} (hc : c < 256) :
    placeOf (0x10D0000 + 512 * g.val + 256 + c) = .live (.widths g (Fin.ofNat 256 c)) := by
  have h1 : ¬ 256 + c < 0x100 := by omega
  rw [Nat.add_assoc, placeOf_font g (by omega), fontPlace, if_neg h1, Nat.add_sub_cancel_left]

/-- Four entries of a width table stand in one word, whichever of them an access names. -/
theorem showsAt_widths (s : State) (g : FontId) {j : Nat} (hj : j < 64) :
    ShowsAt s (s.widthsWord g (4 * j)) (0x10D0000 + 512 * g.val + 256 + 4 * j) := by
  have hg := g.isLt
  refine ⟨by simp only [windowBytes]; omega, by omega, fun i hi => ⟨.widths g (Fin.ofNat 256 (4 * j + i)), ?_, ?_⟩⟩
  · rw [Nat.add_assoc, placeOf_widths g (by omega)]
  · have h3 : (Fin.ofNat 256 (4 * j + i)).val / 4 * 4 = 4 * j := by
      show (4 * j + i) % 256 / 4 * 4 = 4 * j
      omega
    have h4 : 4 * j / 4 * 4 = 4 * j := by omega
    rw [State.liveWord, widthsWord_eq, widthsWord_eq, h3, h4]

theorem fontWordsShow (s : State) (g : FontId) :
    shows s (0x10D0000 + 512 * g.val) (s.font g).size ∧ shows s (0x10D0000 + 512 * g.val + 4) (s.font g).leading ∧
    ∀ j, j < 64 → ∃ w, showsWord s (0x10D0000 + 512 * g.val + 256 + 4 * j) w ∧ ∀ i, i < 4 →
      w.extractLsb' (8 * i) 8 = (fontWidth (s.font g) (4 * j + i)).setWidth 8 := by
  refine ⟨shows_of_liveAt (liveAt_fontSize g) rfl, shows_of_liveAt (liveAt_fontLeading g) rfl,
    fun j hj => ⟨_, (showsAt_widths s g hj).shows fun i hi => ?_, fun i hi => ?_⟩⟩
  · rw [Nat.add_assoc, placeOf_widths g (by omega)]
    exact nofun
  · have h4 : 4 * j / 4 * 4 = 4 * j := by omega
    rw [widthsWord_eq, sideBySide_byte _ (fun i => (BitVec.isLt _).trans (by decide)) hi, h4, BitVec.ofNat_toNat]

theorem basketFontAndDeskWordsShow : Parts.BasketFontAndDeskWordsShow := by
  intro s
  refine ⟨?_, ?_, shows_of_liveAt liveAt_edition rfl, shows_of_liveAt liveAt_standardMeasure rfl,
    shows_of_liveAt liveAt_holdWait rfl, shows_of_liveAt liveAt_attentionEnable (BitVec.ofNat_toNat _ _).symm⟩
  · rintro b h rfl
    exact basketWordsShow s b
  · rintro g h rfl
    exact fontWordsShow s g

/-- Settles O35: each word stands at its place in chapter 11's map and is made of its record's fields. -/
theorem recordWordsShowTheRecords : Obligations.RecordWordsShowTheRecords :=
  ⟨pageWordsShowTheRecord, stationWordsShowTheRecord, basketFontAndDeskWordsShow⟩

end Sys2Proof.Machine
end


section
/-! PROOFS. The read-only words of counts and states (R48, R97, R150), and LINK STATUS with its latch (R162). -/

namespace Sys2Proof.Machine

open Safety

variable {s : State} {code : StationCode} {st : Station}

/-! ## COUNT, MEASURE STATUS and DISPATCH STATUS -/

theorem dispatchStatusWord_eq (d : DispatchUnit) : dispatchStatusWord d =
    BitVec.ofNat 32 (d.queue.length + 0x100 * numberByte (d.queue.head?.map Queued.page) + 0x10000 * dispatchCode d.engine
      + 0x1000000 * numberByte (slotInProgress d.engine)) := by
  have hpage : d.queue.head?.map (fun e => e.page.val) = (d.queue.head?.map Queued.page).map Fin.val := by
    rw [Option.map_map]
    rfl
  rw [dispatchStatusWord, hpage, byteField_val, byteField_val, wordOf]

theorem statusWordsAreReadOnly_shown : Parts.StatusWordsAreReadOnly := by
  intro s
  refine ⟨fun b => ?_, shows_of_liveAt liveAt_measureStatus ?_, liveAt_measureStatus.refuses fun _ _ _ => rfl,
    shows_of_liveAt liveAt_dispatchStatus (dispatchStatusWord_eq _), liveAt_dispatchStatus.refuses fun _ _ _ => rfl⟩
  · rw [show 0x1040004 + 16384 * b.val = 0x1040000 + 16384 * b.val + 4 by omega]
    exact ⟨shows_of_liveAt (liveAt_count b) rfl, (liveAt_count b).refuses fun _ _ _ => rfl⟩
  · simp only [State.liveWord, measureWord, flag_mul, wordOf]

/-! ## LINK STATUS -/

theorem placeOf_linkStatus {i : Nat} (hi : i < 4) : placeOf (0x10E0010 + i) = .live .linkStatus := by
  interval_cases i <;> rfl

theorem showsAt_linkStatus (s : State) : ShowsAt s (linkWord s.link) 0x10E0010 :=
  ⟨by decide, by decide, fun _ hi => ⟨.linkStatus, placeOf_linkStatus hi, rfl⟩⟩

/-- The link once a station has read LINK STATUS: the system station's read clears the latch (R162). -/
def linkRead (s : State) (st : Station) : Link := { s.link with lost := s.link.lost && decide (st ≠ .system) }

/-- Every read from a byte of LINK STATUS on takes the word in. -/
theorem clearLatch_linkStatus (s : State) (st : Station) {a : Nat} (ha : a < 4) (sz : Size) :
    s.clearLatch st (0x10E0010 + a) sz = { s with link := linkRead s st } := by
  have hpos : 0 < sizeBytes sz := by cases sz <;> decide
  have htouch : touchesLinkStatus (0x10E0010 + a) sz = true :=
    List.any_eq_true.2 ⟨0x10E0010 + a, List.mem_map.2 ⟨0, List.mem_range.2 hpos, rfl⟩, by simp [placeOf_linkStatus ha]⟩
  rw [State.clearLatch, htouch]
  cases st <;> simp [isTerminal, linkRead, State.setLink]

/-- LINK_STATUS_READ is a read of the word's bytes. -/
theorem exec_linkStatusRead (hst : stationOf code = some st) (off : Fin 4) {sz : Size}
    (ha : aligned (0x10E0010 + off.val) sz = true) (f : Bool) :
    exec (.linkStatusRead code off sz f) s = .next (s.readWords st (0x10E0010 + off.val) sz f) := by
  show (if aligned (linkStatusOffset + off.val) sz = true then _ else _) = _
  rw [linkStatusOffset, if_pos ha, asStation_some hst]

/-- A read within LINK STATUS returns its bytes as they stood, and the latch is cleared after it. -/
theorem exec_linkStatusRead_part (hst : stationOf code = some st) (off : Fin 4) {sz : Size}
    (hsz : off.val + sizeBytes sz ≤ 4) (ha : off.val % sizeBytes sz = 0) (hdvd : sizeBytes sz ∣ 4) (f : Bool) :
    exec (.linkStatusRead code off sz f) s = .next { s with
      bus := readBus (((linkWord s.link).extractLsb' (8 * off.val) (8 * sizeBytes sz)).setWidth 128)
      link := linkRead s st } := by
  rw [exec_linkStatusRead hst off ((showsAt_linkStatus s).aligned hdvd ha), (showsAt_linkStatus s).readWords hsz,
    clearLatch_linkStatus s st off.isLt]
  rfl

/-- The first four bytes of a burst are the word at its offset. -/
theorem packBytes_low_word (bs : List Byte) (v : Word) (h : ∀ i, i < 4 → bs[i]? = some (wordByte v i)) :
    (packBytes bs).setWidth 32 = v := by
  apply BitVec.eq_of_getLsbD_eq
  intro i hi
  have hbyte := h (i / 8) (by omega)
  have hbit : 8 * (i / 8) + i % 8 = i := by omega
  rw [BitVec.getLsbD_setWidth, packBytes_getLsbD bs i (by omega), hbyte]
  simp [wordByte, hi, hbit, Nat.mod_lt]

/-- No ring slot shares the 16-byte group of LINK STATUS. -/
theorem readFree_linkStatus (t : State) : t.readFree 0x10E0010 .burst = t := by
  have hnone : ((accessOffsets 0x10E0010 .burst).any fun x => (t.beingWritten x).isSome) = false := by
    refine List.any_eq_false.2 fun x hx => ?_
    obtain ⟨i, hi, rfl⟩ := List.mem_map.1 hx
    have hi : i < 16 := List.mem_range.1 hi
    have hplace : ∀ o h, placeOf (0x10E0010 + i) ≠ .ring o h := by interval_cases i <;> exact nofun
    unfold State.beingWritten
    split
    · rename_i o h _ hring
      exact absurd hring (hplace o h)
    · simp
  rw [State.readFree, if_neg (by rw [hnone]; exact Bool.false_ne_true)]

/-- A burst from LINK STATUS on begins with the word. -/
theorem exec_linkStatusRead_burst (hst : stationOf code = some st) : ∃ d : Data,
    exec (.linkStatusRead code 0 .burst false) s = .next { s with bus := readBus d, link := linkRead s st } ∧
      d.setWidth 32 = linkWord s.link := by
  refine ⟨packBytes ((List.range 16).map (s.readByteAt 0x10E0010)), ?_, packBytes_low_word _ _ fun i hi => ?_⟩
  · have hlatch := clearLatch_linkStatus s st (a := 0) (by decide) .burst
    rw [exec_linkStatusRead hst 0 (by decide)]
    show Host.Outcome.next (s.readWords st (0x10E0010 + 0) .burst false) = _
    rw [State.readWords, hlatch, Bool.false_and, if_neg Bool.false_ne_true]
    exact congrArg (fun t : State => Host.Outcome.next (t.doneRead _)) (readFree_linkStatus _)
  · have hplace := placeOf_linkStatus hi
    have hm : (0x10E0010 + i) % 4 = i := by omega
    rw [List.getElem?_map, List.getElem?_range (by omega), Option.map_some, State.readByteAt, hplace]
    simp only [hm, State.liveWord]

/-- LINK STATUS refuses every write (R162). -/
theorem linkStatus_refuses (s : State) : refusesWrites s 0x10E0010 := by
  intro code st d f hst
  have hwrite : ∀ (a : Nat) (sz : Size), a < 4 → sz ≠ .burst → aligned (0x10E0010 + a) sz = true →
      exec (.liveWordWrite code (windowAddr s (0x10E0010 + a)) sz d f) s = .next (s.writeReadOnly st sz) :=
    fun a sz ha hsz hal => by
      rw [exec_liveWordWrite hst (by simp only [windowBytes]; omega) hal, State.writeWindow, placeOf_linkStatus ha,
        if_neg (by simp [hsz])]
      rfl
  refine ⟨?_, fun i hi => ?_, fun i hi => ?_, ?_⟩
  · exact (hwrite 0 .word (by decide) (by decide) (by decide)).trans rfl
  · exact (hwrite (2 * i) .half (by omega) (by decide) (by simp only [aligned, sizeBytes, beq_iff_eq]; omega)).trans rfl
  · exact (hwrite i .byte hi (by decide) (by simp only [aligned, sizeBytes, beq_iff_eq]; omega)).trans rfl
  · rw [exec_liveWordWrite hst (by decide) (by decide), State.writeWindow, if_pos (by decide)]
    rfl

theorem linkStatusReadClearsTheLatch : Parts.LinkStatusReadClearsTheLatch := by
  intro s code st f w l hst hw hl
  have hword : w = linkWord s.link := by rw [hw, linkWord, ← flag_mul, ← flag_mul, wordOf]
  have hlink : l = linkRead s st := hl
  subst hword hlink
  refine ⟨?_, fun i hi => ?_, fun i => ?_, exec_linkStatusRead_burst hst, linkStatus_refuses s⟩
  · have h := exec_linkStatusRead_part (s := s) hst 0 (sz := .word) (by decide) (by decide) (by decide) f
    simpa [sizeBytes] using h
  · exact exec_linkStatusRead_part hst i (sz := .half) (by simp only [sizeBytes]; omega) hi (by decide) f
  · exact exec_linkStatusRead_part hst i (sz := .byte) (by simp only [sizeBytes]; omega) (Nat.mod_one _) (by decide) f

/-- Settles O39: each word is made of its record's fields and has no behaviour of its own but for the latch of LINK STATUS. -/
theorem statusWordsAreReadOnly : Obligations.StatusWordsAreReadOnly :=
  ⟨statusWordsAreReadOnly_shown, linkStatusReadClearsTheLatch⟩

end Sys2Proof.Machine
end


section
/-! PROOFS. LIMIT, WATCHERS, STANDARD MEASURE and EDITION are set by the system station and refused to every terminal (R47, R49, R96,
R129). -/

namespace Sys2Proof.Machine

open Safety

variable {s : State} {code : StationCode} {st : Station}

/-! ## The stories a condition names, by increasing number (R87) -/

/-- A table in canonical form lists its entries by rising number. -/
theorem tableWfFrom_rising {α : Type} [DecidableEq α] {d : Nat → α} : ∀ {lo : Nat} {t : List (Nat × α)},
    tableWfFrom d lo t = true → (∀ e ∈ t, lo ≤ e.1) ∧ t.Pairwise fun a b => a.1 < b.1
  | _, [], _ => ⟨nofun, .nil⟩
  | lo, e :: t, h => by
    simp only [tableWfFrom, Bool.and_eq_true, decide_eq_true_eq] at h
    obtain ⟨⟨hlo, -⟩, ht⟩ := h
    obtain ⟨hge, hpair⟩ := tableWfFrom_rising ht
    refine ⟨fun x hx => ?_, List.pairwise_cons.2 ⟨hge, hpair⟩⟩
    rcases List.mem_cons.1 hx with rfl | hx
    · exact hlo
    · exact (hlo.trans (Nat.le_succ _)).trans (hge x hx)

theorem storiesWhere_rising (h : tableWf (fun _ => unusedStory) s.stories = true) (p : Story → Bool) :
    (s.storiesWhere p).Pairwise (· < ·) := by
  refine List.Pairwise.filterMap _ (fun a b hab x hx y hy => ?_) (tableWfFrom_rising h).2
  have hval : ∀ {e : Nat × Story} {k : StoryId},
      (if h : e.1 < 2048 then if p (s.story ⟨e.1, h⟩) then some (⟨e.1, h⟩ : StoryId) else none else none) = some k →
        k.val = e.1 := fun {e k} hk => by
    by_cases he : e.1 < 2048
    · obtain ⟨-, hk⟩ := Option.ite_none_right_eq_some.1 ((dif_pos he).symm.trans hk)
      exact (Fin.ext_iff.1 (Option.some.inj hk)).symm
    · exact nomatch (dif_neg he).symm.trans hk
  exact Fin.lt_def.2 ((hval hx).trans_lt (hab.trans_eq (hval hy).symm))

theorem storiesWhere_eq_filter (h : tableWf (fun _ => unusedStory) s.stories = true) {p : Story → Bool}
    (hp : p unusedStory = false) : s.storiesWhere p = (List.finRange 2048).filter fun k => p (s.story k) :=
  (storiesWhere_rising h p).eq_of_mem_iff ((List.pairwise_lt_finRange 2048).filter _) fun k => by
    simp [mem_storiesWhere hp]

/-- Staling every story a condition names, while none of them is in flight, leaves what R86 and R87 say and nothing else. -/
theorem staledBy_storiesWhere (h : tableWf (fun _ => unusedStory) s.stories = true) {p : Story → Bool}
    (hp : p unusedStory = false) (hidle : ∀ k, s.inPass k = false) :
    staledBy (fun k => p (s.story k)) s (s.staleAll (s.storiesWhere p)) ∧
      s.staleAll (s.storiesWhere p) = { s with
        stories := (s.staleAll (s.storiesWhere p)).stories
        measure := { s.measure with queue := (s.staleAll (s.storiesWhere p)).measure.queue } } := by
  obtain ⟨hstory, hframe⟩ := staleAll_story (s.storiesWhere p) s ((storiesWhere_rising h p).imp fun hab => ne_of_lt hab)
    fun k _ => hidle k
  have hqueue := congrArg (fun t : State => t.measure.queue) hframe
  refine ⟨⟨fun k => ?_, ?_⟩, ?_⟩
  · rw [hstory]
    simp only [mem_storiesWhere hp]
  · refine hqueue.trans ?_
    show s.measure.queue ++ _ = _
    rw [storiesWhere_eq_filter h hp, List.filter_filter]
    refine congrArg _ (List.filter_congr fun k _ => ?_)
    exact Bool.and_comm _ _
  · rw [hqueue]
    exact hframe

/-! ## LIMIT and WATCHERS -/

theorem stationOf_system : stationOf 127#7 = some .system := by decide

/-- What one word's part of a watcher set becomes (R49). -/
theorem setWatchers_bit (w : BitVec 120) (k : Fin 4) (v : Word) (u : TerminalId) :
    (setWatchers w k v).getLsbD u.val = if u.val / 32 = k.val then v.getLsbD (u.val % 32) else w.getLsbD u.val := by
  have hu := u.isLt
  have hk := k.isLt
  have hlt : u.val < 128 := by omega
  simp only [setWatchers, BitVec.getLsbD_setWidth, BitVec.getLsbD_or, BitVec.getLsbD_and, BitVec.getLsbD_not,
    BitVec.getLsbD_shiftLeft, BitVec.getLsbD_allOnes, hu, hlt, decide_true, Bool.true_and]
  split
  · rename_i h
    have h1 : ¬ u.val < 32 * k.val := by omega
    have h2 : u.val - 32 * k.val = u.val % 32 := by omega
    have h3 : u.val % 32 < 128 := by omega
    have h4 : u.val % 32 < 32 := by omega
    simp [h1, h2, h3, h4]
  · rename_i h
    by_cases h1 : u.val < 32 * k.val
    · simp [h1]
    · have h2 : ¬ u.val - 32 * k.val < 32 := by omega
      have h3 : v.getLsbD (u.val - 32 * k.val) = false := BitVec.getLsbD_of_ge _ _ (by omega)
      simp [h2, h3]

theorem basketWordsAreSet : Parts.BasketWordsAreSet := by
  intro s b k v
  have hset : ∀ x, ((s.setBasket b x).done).basket b = x := basket_setBasket_same s b
  have hbut : ∀ x, SameBasketsBut b s (s.setBasket b x).done := fun x c hc => basket_setBasket_ne s x hc
  refine ⟨⟨_, rfl, rfl, hset _, hbut _, fun _ => rfl⟩, ⟨_, rfl, rfl, ?_, fun u => ?_, hbut _, fun _ => rfl⟩⟩
  · have h := hset { s.basket b with watchers := setWatchers (s.basket b).watchers k v }
    exact h.trans (congrArg (fun x : Basket => { s.basket b with watchers := x.watchers }) h).symm
  · exact (congrArg (fun x : Basket => x.watchers.getLsbD u.val) (hset _)).trans (setWatchers_bit _ k v u)

/-! ## STANDARD MEASURE and EDITION -/

/-- STANDARD MEASURE set by the system station (R96). -/
theorem standardMeasure_set (s : State) (v : Word) (hc : Canonical s) (hidle : ∀ p, s.measure.engine ≠ .measuring p) :
    ∃ t, exec (.standardMeasureWrite 127#7 .word v) s = .next t ∧
      t = { s with bus := doneBus, stories := t.stories
                   measure := { s.measure with standard := max 60 (min 4092 v.toNat), queue := t.measure.queue } } ∧
      (max 60 (min 4092 v.toNat) = s.measure.standard → t.stories = s.stories ∧ t.measure = s.measure) ∧
      (max 60 (min 4092 v.toNat) ≠ s.measure.standard → staledBy (liveUnplaced s) s t) ∧ SameMemory s t := by
  have hexec : exec (.standardMeasureWrite 127#7 .word v) s = .next (s.writeStandard .system .word v) := rfl
  rw [hexec]
  by_cases hm : max 60 (min 4092 v.toNat) = s.measure.standard
  · have hsame : s.writeStandard .system .word v = s.done := if_pos hm
    rw [hsame, hm]
    exact ⟨_, rfl, rfl, fun _ => ⟨rfl, rfl⟩, fun h => absurd rfl h, fun _ => rfl⟩
  · have hpass : ∀ k, ({ s with measure := { s.measure with standard := max 60 (min 4092 v.toNat) } } : State).inPass k =
        false := fun k => by
      unfold State.inPass
      split
      · rename_i p hp
        exact absurd hp (hidle p)
      · rfl
    obtain ⟨hstaled, hframe⟩ := staledBy_storiesWhere
      (s := { s with measure := { s.measure with standard := max 60 (min 4092 v.toNat) } }) hc.stories
      (p := fun x => x.phase == .live && x.placement.isNone) rfl hpass
    refine ⟨_, congrArg Host.Outcome.next (if_neg hm), ?_, fun h => absurd h hm, fun _ => hstaled, fun a => ?_⟩
    · exact congrArg State.done hframe
    · have hmem := congrArg State.mem hframe
      exact congrArg (fun m => tableGet unwritten m a) hmem

theorem standardMeasureAndEditionAreSet : Parts.StandardMeasureAndEditionAreSet := fun s v =>
  ⟨standardMeasure_set s v, rfl, liveAt_edition.exec_write stationOf_system v false⟩

/-! ## Refusals -/

/-- A word that the system station alone writes refuses with BAD-SIZE and with NO-RIGHT before all else (R174). -/
theorem refusedFor_systemWord {c : Instr} {t : State} {sz : Size} (hst : stationOf code = some st)
    (hc : exec c s = .next (asStation code s fun w => testing w [(badSize sz, .badSize), (isTerminal w, .noRight)] s t)) :
    refusedFor c s st (afterSystem st sz .none) := by
  rw [asStation_some hst] at hc
  exact refusedFor_of_exec hc (.systemFirst .none)

theorem basketAndDeskWordsRefuseTerminals : Parts.BasketAndDeskWordsRefuseTerminals := fun _ _ _ _ _ _ _ hst =>
  ⟨refusedFor_systemWord hst rfl, refusedFor_systemWord hst rfl, refusedFor_systemWord hst rfl,
    refusedFor_systemWord hst rfl⟩

/-- Settles O37: the system station's write sets the word within its range, and the tests of R174 come before it. -/
theorem basketAndDeskWordsAreSet : Obligations.BasketAndDeskWordsAreSet :=
  ⟨basketWordsAreSet, standardMeasureAndEditionAreSet, basketAndDeskWordsRefuseTerminals⟩

end Sys2Proof.Machine
end


section
/-! PROOFS. The check of R82: its sums, and the frames and replies that carry it. -/

namespace Sys2Proof.Machine

open Safety

/-! ## The sums -/

theorem checkFrom_append (ab : Nat × Nat) (xs ys : List Byte) :
    checkFrom ab (xs ++ ys) = checkFrom (checkFrom ab xs) ys := List.foldl_append

/-- Both sums stay below 255. -/
theorem checkFrom_lt (xs : List Byte) : ∀ {ab : Nat × Nat}, ab.1 < 255 → ab.2 < 255 →
    (checkFrom ab xs).1 < 255 ∧ (checkFrom ab xs).2 < 255 := by
  induction xs with
  | nil => exact fun ha hb => ⟨ha, hb⟩
  | cons x xs ih => exact fun _ _ => ih (Nat.mod_lt _ (by decide)) (Nat.mod_lt _ (by decide))

/-- A byte that is a multiple of 255 leaves the sum a, and counts in b as a does. -/
theorem checkByte_of_dvd {a b : Nat} {x : Byte} (ha : a < 255) (hx : 255 ∣ x.toNat) :
    checkByte (a, b) x = (a, (b + a) % 255) := by
  have hsum : (a + x.toNat) % 255 = a := by omega
  simp only [checkByte, hsum]

/-- A byte of 0xFF and a byte of 0x00 have the same effect on the check. -/
theorem checkOf_ff_eq_zero (xs ys : List Byte) : checkOf (xs ++ 0xFF#8 :: ys) = checkOf (xs ++ 0x00#8 :: ys) := by
  have ha := (checkFrom_lt xs (ab := (0, 0)) (by decide) (by decide)).1
  have hbyte : checkByte (checkFrom (0, 0) xs) 0xFF#8 = checkByte (checkFrom (0, 0) xs) 0x00#8 :=
    (checkByte_of_dvd ha (by decide)).trans (checkByte_of_dvd ha (by decide)).symm
  have hsum : checkFrom (0, 0) (xs ++ 0xFF#8 :: ys) = checkFrom (0, 0) (xs ++ 0x00#8 :: ys) := by
    rw [checkFrom_append, checkFrom_append]
    exact congrArg (checkFrom · ys) hbyte
  rw [checkOf, hsum, checkOf]

/-! ## Frames and replies -/

/-- A valid frame's bytes after 0xA5 are its kind, length and payload, and their check (R153). -/
theorem validFrame_check {xs : List Byte} {f : Incoming} (h : validFrame xs = some f) :
    ∃ body, xs = body ++ checkOf body := by
  match xs, h with
  | kind :: len :: rest, h =>
    have hcheck : rest.drop len.toNat = checkOf (kind :: len :: rest.take len.toNat) :=
      (Option.ite_none_right_eq_some.1 h).1
    refine ⟨kind :: len :: rest.take len.toNat, ?_⟩
    rw [← hcheck, List.cons_append, List.cons_append, List.take_append_drop]

/-- Settles O24: the sums run over the bytes in order, and every frame has its check at its end. -/
theorem checkFollowsTheTwoSums : Obligations.CheckFollowsTheTwoSums := by
  refine ⟨rfl, fun _ _ _ _ => ⟨rfl, rfl⟩, fun xs => ?_, fun a b ha => ?_, checkOf_ff_eq_zero, by decide, fun t => ?_,
    fun _ _ => validFrame_check, checkFrom_append⟩
  · obtain ⟨ha, hb⟩ := checkFrom_lt xs (ab := (0, 0)) (by decide) (by decide)
    exact ⟨_, _, rfl, Nat.le_of_lt_succ ha, Nat.le_of_lt_succ hb, rfl⟩
  · have ha : a < 255 := Nat.lt_succ_of_le ha
    exact ⟨checkByte_of_dvd ha (by decide), checkByte_of_dvd ha (by decide)⟩
  · cases t <;> exact ⟨_, rfl⟩

end Sys2Proof.Machine
end


section
/-! PROOFS. The measure engine takes the head of the queue and reads its text block by block (R88, R89), and a send reads its own
(R143). -/

namespace Sys2Proof.Machine

open Safety

variable {s : State}

/-! ## A pass is taken -/

/-- The IDLE engine takes the head of the queue (R88). -/
theorem takePass_head {k : StoryId} {q : List StoryId} (hidle : s.measure.engine = .idle) (hq : s.measure.queue = k :: q) :
    s.takePass = ((s.setQueue q).setStatus k .measuring).setEngine
      (.measuring { story := k, measure := s.measurePoints k * finePerPoint, block := 0, breaker := newRun }) := by
  simp only [State.takePass, hidle, hq]

/-- Nothing is taken by an engine at work, or from an empty queue (R88). -/
theorem takePass_nothing (h : s.measure.engine ≠ .idle ∨ s.measure.queue = []) : s.takePass = s := by
  unfold State.takePass
  split
  · rename_i hidle hq
    rcases h with h | h
    · exact absurd hidle h
    · exact nomatch hq.symm.trans h
  · rfl

/-! ## A block arrives -/

/-- A block before the last is run over (R89). -/
theorem measureBlock_before {p : Pass} (hp : s.measure.engine = .measuring p) (hl : s.lastBlock p.story p.block = false) :
    s.measureBlock = s.setEngine (.measuring
      { p with block := p.block + 1, breaker := (readBytes p.measure s.font p.breaker (s.textBlock p.story p.block)).1 }) := by
  simp only [State.measureBlock, hp, hl, Bool.false_eq_true, if_false]

/-- The last block is left to the completion (assumption 9). -/
theorem measureBlock_last {p : Pass} (hp : s.measure.engine = .measuring p) (hl : s.lastBlock p.story p.block = true) :
    s.measureBlock = s := by
  simp only [State.measureBlock, hp, hl, if_true]

/-- No block arrives with no pass in flight (assumption 8). -/
theorem measureBlock_nothing (h : ∀ p, s.measure.engine ≠ .measuring p) : s.measureBlock = s := by
  unfold State.measureBlock
  split
  · exact absurd ‹_› (h _)
  · rfl

/-- Settles O46: each event does its one update, or nothing. -/
theorem passesAreTakenFromTheHead : Obligations.PassesAreTakenFromTheHead := by
  refine ⟨fun s k q hidle hq => ⟨_, congrArg Host.Outcome.next (takePass_head hidle hq), rfl, rfl, ?_, fun j hj => ?_, fun _ => rfl⟩,
    fun s h => congrArg Host.Outcome.next (takePass_nothing h),
    fun s p hp hl => congrArg Host.Outcome.next (measureBlock_before hp hl),
    fun s h => congrArg Host.Outcome.next (measureBlock_nothing h)⟩
  · exact story_setStory_same (s.setQueue q) k _
  · exact story_setStory_ne (s.setQueue q) _ hj

/-! ## A send reads -/

/-- A block read for a send: the frame it settles is handed over when the engine waits for one, and the reading alone runs on
otherwise (R143). -/
theorem sendTextRead_read {e : Queued} {rest : List Queued} {x : SendState} {sl : Slot} (hq : s.dispatch.queue = e :: rest)
    (hx : s.dispatch.engine = .sending x) (hf : x.reader.finished = false) (hsl : s.slotOf e.page x.slot = some sl)
    {rd : Reader} (hrd : rd = readSendBlock (slotMeasure (s.page e.page) sl * 144) s.font sl.allowance x.reader
      (s.textBlock sl.story x.reader.block)) :
    s.sendTextRead false = if x.stage = .text ∧ s.link.outstanding = none then s.pumpText { x with reader := rd }
      else s.setSend { x with reader := rd } := by
  subst hrd
  simp only [State.sendTextRead, hq, hx, hf, State.sendSlot, hsl, Option.map_some, Bool.false_eq_true, if_false]
  rfl

/-- With no send that is still reading, the block or the fault is disregarded (assumption 8). -/
theorem sendTextRead_nothing (h : ∀ x, s.dispatch.engine = .sending x → x.reader.finished = true) (f : Bool) :
    s.sendTextRead f = s := by
  unfold State.sendTextRead
  split
  · rename_i hx
    exact if_pos (h _ hx)
  · rfl

/-- A frame that goes on with no WAIT hold and none outstanding goes out (R151, R159). -/
theorem goneOn_out (hw : s.link.waitHold = false) (ho : s.link.outstanding = none) (y : SendState) (next : Option Frame) :
    s.goneOn y next = { s with
      dispatch := { s.dispatch with engine := .sending y }, link := frameGoes s.link next } := by
  cases next with
  | none => simp only [State.goneOn, frameGoes, Option.elim, Option.map_none, Option.toList_none, List.append_nil, ← ho]
  | some f => simp [State.goneOn, frameGoes, handFrame_eq, hw]

/-- Settles O50: the block is read, and what follows in the story's text goes out when the engine waits for it. -/
theorem sendReadsTheText : Obligations.SendReadsTheText := by
  refine ⟨fun s e rest x sl rd hq hx hf hsl hrd => ⟨fun hbefore => ?_, fun hstage ho hw y next hfollows => ?_⟩,
    fun s f h => congrArg Host.Outcome.next (sendTextRead_nothing h f)⟩
  · have hread := sendTextRead_read hq hx hf hsl hrd
    rw [if_neg fun h => hbefore.elim (absurd h.1) (absurd h.2)] at hread
    exact congrArg Host.Outcome.next hread
  · have hread := sendTextRead_read hq hx hf hsl hrd
    rw [if_pos ⟨hstage, ho⟩, pumpText_goneOn hfollows, goneOn_out hw ho] at hread
    exact congrArg Host.Outcome.next hread

end Sys2Proof.Machine
end


section
/-! PROOFS. What is handed to the dispatch engine does not look at the measure engine: an event handed over before or after a change of
that engine leaves the same state. -/

namespace Sys2Proof.Machine

open Safety

/-- The state with the measure engine, its font-wait mark and its font-wait timer replaced. -/
def State.engineAs (s : State) (x : Engine) (mark : Bool) (timer : Option Nat) : State :=
  { s with measure := { s.measure with engine := x, fontWait := mark, fontWaitTimer := timer } }

section
variable (s t : State) (x : Engine) (mark : Bool) (timer : Option Nat)

/-! ## What is read of the state -/

@[simp] theorem dispatch_engineAs : (s.engineAs x mark timer).dispatch = s.dispatch := rfl
@[simp] theorem link_engineAs : (s.engineAs x mark timer).link = s.link := rfl
@[simp] theorem story_engineAs (k : StoryId) : (s.engineAs x mark timer).story k = s.story k := rfl
@[simp] theorem page_engineAs (p : PageId) : (s.engineAs x mark timer).page p = s.page p := rfl
@[simp] theorem verdict_engineAs (p : PageId) : (s.engineAs x mark timer).verdict p = s.verdict p := rfl
@[simp] theorem waitingHead_engineAs : (s.engineAs x mark timer).waitingHead = s.waitingHead := rfl
@[simp] theorem failedNotice_engineAs (e : Queued) (f : Failing) :
    (s.engineAs x mark timer).failedNotice e f = s.failedNotice e f := rfl
@[simp] theorem signedOn_engineAs (st : Station) : (s.engineAs x mark timer).signedOn st = s.signedOn st := by cases st <;> rfl

/-! ## Updates in either order -/

theorem ite_engineAs (c : Prop) [Decidable c] :
    (if c then s.engineAs x mark timer else t.engineAs x mark timer) = (if c then s else t).engineAs x mark timer := by
  split <;> rfl

@[simp] theorem setPage_engineAs (p : PageId) (v : Page) :
    (s.engineAs x mark timer).setPage p v = (s.setPage p v).engineAs x mark timer := rfl
@[simp] theorem setPageState_engineAs (p : PageId) (y : PageState) :
    (s.engineAs x mark timer).setPageState p y = (s.setPageState p y).engineAs x mark timer := rfl
@[simp] theorem setLink_engineAs (l : Link) :
    (s.engineAs x mark timer).setLink l = (s.setLink l).engineAs x mark timer := rfl
@[simp] theorem setHoldTimer_engineAs (n : Option Nat) :
    (s.engineAs x mark timer).setHoldTimer n = (s.setHoldTimer n).engineAs x mark timer := rfl
@[simp] theorem setDispatchEngine_engineAs (y : DispatchEngine) :
    (s.engineAs x mark timer).setDispatchEngine y = (s.setDispatchEngine y).engineAs x mark timer := rfl
@[simp] theorem leaveQueue_engineAs (p : PageId) :
    (s.engineAs x mark timer).leaveQueue p = (s.leaveQueue p).engineAs x mark timer := rfl
@[simp] theorem promote_engineAs (p : PageId) :
    (s.engineAs x mark timer).promote p = (s.promote p).engineAs x mark timer := rfl

@[simp] theorem raise_engineAs (st : Station) (n : Notice) :
    (s.engineAs x mark timer).raise st n = (s.raise st n).engineAs x mark timer := by
  cases hon : s.signedOn st with
  | false => rw [raise_off s st n hon, raise_off _ st n ((signedOn_engineAs s x mark timer st).trans hon)]
  | true =>
    have hon' := (signedOn_engineAs s x mark timer st).trans hon
    by_cases hl : s.stations.outgoing.length < 256
    · rw [raise_taken s st n hon hl, raise_taken _ st n hon' hl]
      rfl
    · rw [raise_full s st n hon (not_lt.1 hl), raise_full _ st n hon' (not_lt.1 hl)]
      cases st <;> rfl

/-- What each application of a function leaves to the engine, its application over a list does. -/
theorem foldl_engineAs {α : Type} {op : State → α → State}
    (h : ∀ s a, op (s.engineAs x mark timer) a = (op s a).engineAs x mark timer) (l : List α) :
    l.foldl op (s.engineAs x mark timer) = (l.foldl op s).engineAs x mark timer :=
  List.foldl_hom (fun u : State => u.engineAs x mark timer) fun u a => h u a

@[simp] theorem raiseAll_engineAs (ns : List Outgoing) :
    (s.engineAs x mark timer).raiseAll ns = (s.raiseAll ns).engineAs x mark timer :=
  foldl_engineAs _ _ _ _ (fun _ _ => raise_engineAs _ _ _ _ _ _) _

@[simp] theorem markClosing_engineAs (p : PageId) (b : Bool) :
    (s.engineAs x mark timer).markClosing p b = (s.markClosing p b).engineAs x mark timer :=
  foldl_engineAs s _ _ _ (fun _ _ => rfl) (s.pageStories p)

/-! ## The dispatch engine -/

@[simp] theorem failPage_engineAs (e : Queued) (f : Failing) :
    (s.engineAs x mark timer).failPage e f = (s.failPage e f).engineAs x mark timer := by
  have hrecord : (s.engineAs x mark timer).failRecord e f = (s.failRecord e f).engineAs x mark timer := by
    simp only [State.failRecord, page_engineAs, markClosing_engineAs, setHoldTimer_engineAs, ite_engineAs, setPage_engineAs,
      failedNotice_engineAs, raise_engineAs, leaveQueue_engineAs]
  simp only [State.failPage, State.failEngine, hrecord, dispatch_engineAs, page_engineAs, link_engineAs,
    setDispatchEngine_engineAs, setLink_engineAs, ite_engineAs]
  rfl

@[simp] theorem wantHold_engineAs (e : Queued) (ns : SlotId × Slot) :
    (s.engineAs x mark timer).wantHold e ns = (s.wantHold e ns).engineAs x mark timer := by
  unfold State.wantHold
  rw [story_engineAs]
  split
  · rename_i st _
    rw [← ite_engineAs, ← raise_engineAs]
    rfl
  · rfl

@[simp] theorem enterWaiting_engineAs (e : Queued) :
    (s.engineAs x mark timer).enterWaiting e = (s.enterWaiting e).engineAs x mark timer := by
  simp only [State.enterWaiting, page_engineAs, setPageState_engineAs, setDispatchEngine_engineAs, markClosing_engineAs,
    dispatch_engineAs, setHoldTimer_engineAs, promote_engineAs]
  exact foldl_engineAs _ _ _ _ (fun _ _ => wantHold_engineAs _ _ _ _ _ _) _

@[simp] theorem enterSending_engineAs (e : Queued) :
    (s.engineAs x mark timer).enterSending e = (s.enterSending e).engineAs x mark timer := by
  unfold State.enterSending
  rw [page_engineAs]
  split <;> rfl

theorem advanceUpTo_engineAs (n : Nat) :
    State.advanceUpTo n (s.engineAs x mark timer) = (State.advanceUpTo n s).engineAs x mark timer := by
  induction n generalizing s with
  | zero => rfl
  | succ n ih =>
    unfold State.advanceUpTo
    simp only [dispatch_engineAs, link_engineAs, page_engineAs, enterWaiting_engineAs, verdict_engineAs, failPage_engineAs, ih,
      enterSending_engineAs]
    split
    · split
      · split <;> rfl
      · rfl
    · rfl

/-- An event handed to the dispatch engine, and the measure engine, change in either order. -/
theorem handEvent_engineAs (k : StoryId) :
    (s.engineAs x mark timer).handEvent k = (s.handEvent k).engineAs x mark timer := by
  have hfail : ∀ e f, (s.engineAs x mark timer).fail e f = (s.fail e f).engineAs x mark timer := fun e f => by
    rw [State.fail, failPage_engineAs]
    exact advanceUpTo_engineAs _ _ _ _ _
  simp only [State.handEvent, State.evaluate, story_engineAs, waitingHead_engineAs, verdict_engineAs, hfail, enterSending_engineAs,
    ← ite_engineAs]
  congr 1
  split
  · split <;> rfl
  · rfl

end

/-! ## The engine leaves MEASURING -/

theorem leaveMeasuring_engineAs (s : State) : s.leaveMeasuring =
    s.engineAs (passEnded s).engine s.measure.fontWait (passEnded s).fontWaitTimer := leaveMeasuring_eq s

/-- The end of a pass comes before or after its event is handed to the dispatch engine. -/
theorem handEvent_leaveMeasuring (s : State) (k : StoryId) : (s.handEvent k).leaveMeasuring = s.leaveMeasuring.handEvent k := by
  have hkeeps : s.handEvent k =
      (s.handEvent k).engineAs s.measure.engine s.measure.fontWait s.measure.fontWaitTimer :=
    handEvent_engineAs s s.measure.engine s.measure.fontWait s.measure.fontWaitTimer k
  rw [leaveMeasuring_engineAs s, handEvent_engineAs, leaveMeasuring_engineAs, hkeeps]
  rfl

/-- The state the engine had does not show once it has left MEASURING. -/
theorem leaveMeasuring_setEngine (s : State) (x : Engine) : (s.setEngine x).leaveMeasuring = s.leaveMeasuring := by
  rw [leaveMeasuring_eq, leaveMeasuring_eq]
  rfl

end Sys2Proof.Machine
end


section
/-! PROOFS. The evaluation of a story for overset, and whom it tells (R77, R78, R91). -/

namespace Sys2Proof.Machine

open Safety

variable {s : State} {k : StoryId}

/-! ## The stations told -/

/-- The system station is told, and then a terminal holder (R78, R91). -/
theorem toldOf_map (s : State) (k : StoryId) (n : Notice) :
    (s.toldOf k).map (fun st => ({ recipient := st, notice := n } : Outgoing)) = toldTwice (s.story k) n := by
  unfold State.toldOf toldTwice
  rcases (s.story k).holder with _ | _ | _ <;> rfl

theorem toldTwice_length (v : Story) (n : Notice) : (toldTwice v n).length ≤ 2 := by
  unfold toldTwice
  rcases v.holder with _ | _ | _ <;> simp

/-- The stations told are signed on when the story's holder is. -/
theorem toldTwice_signedOn {v : Story} {n : Notice} (h : ∀ st, v.holder = some st → s.signedOn st = true) :
    ∀ o ∈ toldTwice v n, s.signedOn o.recipient = true := by
  intro o ho
  rcases List.mem_cons.1 ho with rfl | ho
  · rfl
  · obtain ⟨st, hst, rfl⟩ := List.mem_map.1 ho
    exact h st (Option.mem_toList.1 (List.mem_of_mem_filter hst))

/-! ## The evaluation -/

theorem signedOn_setStory (s : State) (k : StoryId) (v : Story) (st : Station) :
    (s.setStory k v).signedOn st = s.signedOn st := by cases st <;> rfl

/-- A story's entry with its overset mark set. -/
def oversetAs (v : Story) (o : Bool) : Story := { v with depth := { v.depth with overset := o } }

/-- The OVERSET notices of a story whose mark takes a value: none when that is the one it has (R78). -/
def State.oversetNotices (s : State) (k : StoryId) (o : Bool) (cause : Option Station) : List Outgoing :=
  if o = (s.story k).depth.overset then []
  else toldTwice (s.story k) { s.storyNotice .overset (if o then 1 else 2) k with cause := cause }

/-- The mark takes the result of R77, and the notices of a change are handed over (R78). -/
theorem evaluateOverset_eq (s : State) (k : StoryId) (cause : Option Station) : s.evaluateOverset k cause =
    (s.setStory k (oversetAs (s.story k) (s.oversetNow k))).raiseAll (s.oversetNotices k (s.oversetNow k) cause) := by
  unfold State.evaluateOverset State.oversetNotices
  by_cases ho : s.oversetNow k = (s.story k).depth.overset
  · rw [if_pos ho]
    exact if_pos ho.symm
  · have hstory : (s.setStory k (oversetAs (s.story k) (s.oversetNow k))).story k = oversetAs (s.story k) (s.oversetNow k) :=
      story_setStory_same s k _
    have hnotice : (s.setStory k (oversetAs (s.story k) (s.oversetNow k))).storyNotice .overset
        (oversetDetail (s.oversetNow k)) k = s.storyNotice .overset (oversetDetail (s.oversetNow k)) k := by
      simp only [State.storyNotice, hstory]
      rfl
    rw [if_neg ho]
    refine (if_neg (Ne.symm ho)).trans (congrArg _ ?_)
    show ((s.setStory k (oversetAs (s.story k) (s.oversetNow k))).toldOf k).map (fun st => ({ recipient := st, notice :=
      { (s.setStory k (oversetAs (s.story k) (s.oversetNow k))).storyNotice .overset (oversetDetail (s.oversetNow k)) k with
        cause := cause } } : Outgoing)) = _
    rw [toldOf_map, hnotice, hstory]
    rfl

theorem oversetNotices_length (s : State) (k : StoryId) (o : Bool) (cause : Option Station) :
    (s.oversetNotices k o cause).length ≤ 2 := by
  unfold State.oversetNotices
  split
  · exact Nat.zero_le _
  · exact toldTwice_length _ _

theorem oversetNotices_signedOn (hon : ∀ st, (s.story k).holder = some st → s.signedOn st = true) (o : Bool)
    (cause : Option Station) : ∀ m ∈ s.oversetNotices k o cause, s.signedOn m.recipient = true := by
  intro m hm
  by_cases ho : o = (s.story k).depth.overset
  · rw [State.oversetNotices, if_pos ho] at hm
    exact nomatch hm
  · rw [State.oversetNotices, if_neg ho] at hm
    exact toldTwice_signedOn hon m hm

/-- An evaluation with room for its notices, of a story whose holder is signed on. -/
theorem evaluateOverset_taken (cause : Option Station) (hon : ∀ st, (s.story k).holder = some st → s.signedOn st = true)
    (hroom : s.stations.outgoing.length + 2 ≤ 256) : s.evaluateOverset k cause =
    { s.setStory k (oversetAs (s.story k) (s.oversetNow k)) with
      stations := { s.stations with
        outgoing := s.stations.outgoing ++ s.oversetNotices k (s.oversetNow k) cause } } := by
  have hlength := oversetNotices_length s k (s.oversetNow k) cause
  rw [evaluateOverset_eq, raiseAll_taken _ (s.setStory k _) (fun m hm => (signedOn_setStory s k _ _).trans
    (oversetNotices_signedOn hon _ _ m hm)) (by rw [setStory_stations]; omega)]
  rfl

end Sys2Proof.Machine
end


section
/-! PROOFS. A pass reads its story's whole text, and posts its values or makes the story FAULTED (R70, R76 to R78, R89 to R91). -/

namespace Sys2Proof.Machine

open Safety

variable {s : State} {p : Pass}

/-! ## Runs over bytes -/

/-- A run stops at the end of text and goes on otherwise. -/
theorem readBytes_append (m : Nat) (fontAt : FontId → Font) (xs ys : List Byte) (r : Breaker) :
    readBytes m fontAt r (xs ++ ys) =
      if xs.contains endOfText then readBytes m fontAt r xs else readBytes m fontAt (readBytes m fontAt r xs).1 ys := by
  induction xs generalizing r with
  | nil => rfl
  | cons x xs ih =>
    by_cases hx : x = endOfText
    · simp [readBytes, hx]
    · have hne : (endOfText == x) = false := by simpa using Ne.symm hx
      simp only [List.cons_append, readBytes, if_neg hx, ih, List.contains_cons, hne, Bool.false_or]

theorem load_append (s : State) (a n m : Nat) : s.load a (n + m) = s.load a n ++ s.load (a + n) m := by
  simp only [State.load, List.range_add, List.map_append, List.map_map]
  congr 1
  exact List.map_congr_left fun i _ => congrArg s.memByte (Nat.add_assoc _ _ _).symm

/-- The run over the last `n` blocks is the run over their bytes (R89). -/
theorem runBlocks_eq (s : State) (k : StoryId) (m : Nat) : ∀ (n i : Nat) (r : Breaker), n + i = textBlocks →
    s.runBlocks k m n i r = (readBytes m s.font r (s.load (s.textAddr k (16 * i)) (16 * n))).1
  | 0, _, _, _ => rfl
  | n + 1, i, r, hi => by
    have hload : s.load (s.textAddr k (16 * i)) (16 * (n + 1)) =
        s.textBlock k i ++ s.load (s.textAddr k (16 * (i + 1))) (16 * n) := by
      have haddr : s.textAddr k (16 * i) + 16 = s.textAddr k (16 * (i + 1)) := by simp only [State.textAddr]; omega
      rw [show 16 * (n + 1) = 16 + 16 * n by omega, load_append, haddr, State.textBlock]
    rw [hload, readBytes_append, State.runBlocks]
    by_cases hc : (s.textBlock k i).contains endOfText = true
    · rw [if_pos hc, if_pos (by rw [State.lastBlock, hc, Bool.or_true])]
    · rw [if_neg hc, State.lastBlock, eq_false_of_ne_true hc, Bool.or_false]
      by_cases hlast : textBlocks ≤ i + 1
      · have hn : n = 0 := by omega
        subst hn
        rw [if_pos (decide_eq_true hlast)]
        rfl
      · rw [if_neg (by simpa using hlast), runBlocks_eq s k m n (i + 1) _ (by omega)]

/-! ## The end of a pass -/

/-- The run over blocks of text does not look at the measure engine. -/
theorem runBlocks_setEngine (s : State) (x : Engine) (k : StoryId) (m n : Nat) : ∀ (i : Nat) (r : Breaker),
    (s.setEngine x).runBlocks k m n i r = s.runBlocks k m n i r := by
  induction n with
  | zero => exact fun _ _ => rfl
  | succ n ih =>
    intro i r
    simp only [State.runBlocks, ih]
    rfl

/-- One more block read does not change where a pass ends. -/
theorem finishPass_step (hl : s.lastBlock p.story p.block = false) (x : Engine) :
    (s.setEngine x).finishPass
        { p with block := p.block + 1, breaker := (readBytes p.measure s.font p.breaker (s.textBlock p.story p.block)).1 } =
      s.finishPass p := by
  have hlt : ¬ textBlocks ≤ p.block + 1 := fun h => by simp [State.lastBlock, h] at hl
  have hblocks : textBlocks - p.block = textBlocks - (p.block + 1) + 1 := by omega
  simp only [State.finishPass, runBlocks_setEngine, hblocks, State.runBlocks, hl, Bool.false_eq_true, if_false]

/-- A pass posted: the story's depth record and its overset mark, before the engine leaves MEASURING (R90). -/
def State.passPosted (s : State) (k : StoryId) (r : Breaker) : State := (s.postDepth k r).evaluateOverset k none

/-- A pass completes: its values are posted, the engine leaves MEASURING, and the event is handed to the dispatch engine. -/
theorem completePass_eq (hp : s.measure.engine = .measuring p) :
    s.completePass = (s.passPosted p.story (s.finishPass p)).leaveMeasuring.handEvent p.story := by
  rw [← handEvent_leaveMeasuring]
  simp only [State.completePass, hp]
  rfl

theorem passPosted_setEngine (s : State) (x : Engine) (k : StoryId) (r : Breaker) :
    (s.setEngine x).passPosted k r = (s.passPosted k r).setEngine x := by
  have hmeasure : (s.passPosted k r).measure = s.measure := by
    have h := butStories_evaluateOverset (s.postDepth k r) k none
    simp only [butStories, Prod.mk.injEq] at h
    exact h.2.2.2.2.1
  have hengine : ∀ t : State, t.setEngine x = t.engineAs x t.measure.fontWait t.measure.fontWaitTimer := fun _ => rfl
  rw [hengine s, hengine (s.passPosted k r), hmeasure]
  simp only [State.passPosted, evaluateOverset_eq]
  exact raiseAll_engineAs ((s.postDepth k r).setStory k _) _ _ _ _

/-- Completing after one more block is completing before it. -/
theorem completePass_measureBlock (s : State) : s.measureBlock.completePass = s.completePass := by
  cases hp : s.measure.engine with
  | idle => rw [measureBlock_nothing fun p h => nomatch hp.symm.trans h]
  | held => rw [measureBlock_nothing fun p h => nomatch hp.symm.trans h]
  | measuring p =>
    cases hl : s.lastBlock p.story p.block with
    | true => rw [measureBlock_last hp hl]
    | false =>
      rw [measureBlock_before hp hl, completePass_eq hp, completePass_eq (s := s.setEngine _) rfl, finishPass_step hl,
        passPosted_setEngine, leaveMeasuring_setEngine]

/-- Settles O22: the blocks of a story's text joined are its bytes, and each block is read once. -/
theorem passesReadTheWholeText : Obligations.PassesReadTheWholeText := by
  refine ⟨fun s t h => ?_, fun s k m => ?_⟩
  · cases h
    exact congrArg Host.Outcome.next (completePass_measureBlock s)
  · show (readEnd m (s.runBlocks k m textBlocks 0 newRun)).1 = _
    rw [runBlocks_eq s k m textBlocks 0 newRun rfl]
    rfl

/-! ## What is posted -/

/-- The overset mark of a completed pass, by the slot its story sits in (R77). -/
theorem oversetNow_postDepth {k : StoryId} {r : Breaker} {o : Bool}
    (h : (s.story k).placement = none ∧ o = false ∨ ∃ pg n sl, (s.story k).placement = some (pg, n) ∧ s.slotOf pg n = some sl ∧
      o = (decide (65535 < r.depth ∨ 4095 < r.lines) || decide (sl.allowance < min r.depth 65535))) :
    (s.postDepth k r).oversetNow k = o := by
  have hstory : (s.postDepth k r).story k = { s.story k with depth := postedDepth r (s.story k).depth.overset } :=
    story_setStory_same s k _
  rcases h with ⟨hpl, rfl⟩ | ⟨pg, n, sl, hpl, hsl, rfl⟩
  · simp only [State.oversetNow, State.allowanceOf, hstory, hpl, Option.bind_none]
  · have hslot : ((s.postDepth k r).page pg).slots[n.val] = some sl := hsl
    simp only [State.oversetNow, State.allowanceOf, hstory, hpl, Option.bind_some, hslot, Option.map_some, postedDepth,
      Bool.decide_or]

/-- What a completed pass leaves before the dispatch engine is told, with room for its notices (R76 to R78, R88, R90). -/
theorem passPosted_leaveMeasuring {k : StoryId} {r : Breaker} {o : Bool}
    (hon : ∀ st, (s.story k).holder = some st → s.signedOn st = true) (hroom : s.stations.outgoing.length + 3 ≤ 256)
    (ho : (s.postDepth k r).oversetNow k = o) {u : State} (hu : u = (s.passPosted k r).leaveMeasuring) :
    u = { s with
      stories := u.stories, measure := passEnded s
      stations := { s.stations with
        outgoing := s.stations.outgoing ++ if o = (s.story k).depth.overset then []
          else toldTwice (s.story k) (u.storyNotice .overset (if o then 1 else 2) k) } } ∧
    ∀ j, u.story j = if j = k then { s.story k with depth := postedDepth r o } else s.story j := by
  have hstory : (s.postDepth k r).story k = { s.story k with depth := postedDepth r (s.story k).depth.overset } :=
    story_setStory_same s k _
  have htaken := evaluateOverset_taken (s := s.postDepth k r) (k := k) none
    (fun st h => (signedOn_setStory s k _ st).trans (hon st (by rwa [hstory] at h)))
    (by show s.stations.outgoing.length + 2 ≤ 256; omega)
  rw [State.passPosted, htaken, leaveMeasuring_eq, ho, hstory] at hu
  have hustory : ∀ j, u.story j = if j = k then { s.story k with depth := postedDepth r o } else s.story j := fun j => by
    rw [hu]
    refine (story_setStory (s.postDepth k r) j k _).trans ?_
    by_cases hj : j = k
    · rw [if_pos hj, if_pos hj]; rfl
    · rw [if_neg hj, if_neg hj]; exact story_setStory_ne s _ hj
  have hnotice : (s.postDepth k r).storyNotice .overset (if o then 1 else 2) k =
      u.storyNotice .overset (if o then 1 else 2) k := by
    have hk := hustory k
    rw [if_pos rfl] at hk
    have hpages : u.pages = s.pages ∧ u.timebase = s.timebase := by rw [hu]; exact ⟨rfl, rfl⟩
    simp only [State.storyNotice, State.plainNotice, hstory, hk, hpages.1, hpages.2]
    rfl
  refine ⟨?_, hustory⟩
  rw [← hnotice, hu, State.oversetNotices, hstory]
  rfl

/-- A pass that met a data fault: the story is FAULTED and MEASURE-FAULT raised, before the engine leaves MEASURING (R91). -/
def State.passFaulted (s : State) (k : StoryId) : State :=
  { s.setStatus k .faulted with stations := { s.stations with
      outgoing := s.stations.outgoing ++ toldTwice (s.story k) (s.storyNotice .measureFault 0 k) } }

/-- The fault of a pass, with room for its notices: the engine leaves MEASURING, and the event is handed to the dispatch engine. -/
theorem faultPass_handed (hp : s.measure.engine = .measuring p)
    (hon : ∀ st, (s.story p.story).holder = some st → s.signedOn st = true)
    (hroom : s.stations.outgoing.length + 2 ≤ 256) :
    s.faultPass = (s.passFaulted p.story).leaveMeasuring.handEvent p.story := by
  have hk : (s.setStatus p.story .faulted).story p.story =
      { s.story p.story with depth := { (s.story p.story).depth with status := .faulted } } := story_setStory_same s _ _
  have hnotice : (s.setStatus p.story .faulted).storyNotice .measureFault 0 p.story = s.storyNotice .measureFault 0 p.story := by
    simp only [State.storyNotice, hk]
    rfl
  have hlength := toldTwice_length (s.story p.story) (s.storyNotice .measureFault 0 p.story)
  have hraise := raiseAll_taken (toldTwice (s.story p.story) (s.storyNotice .measureFault 0 p.story))
    (s.setStatus p.story .faulted) (fun m hm => (signedOn_setStory s _ _ _).trans (toldTwice_signedOn hon m hm))
    (by show s.stations.outgoing.length + _ ≤ 256; omega)
  rw [← handEvent_leaveMeasuring]
  simp only [State.faultPass, hp, toldOf_map, hnotice, hk]
  exact congrArg (fun u : State => (u.handEvent p.story).leaveMeasuring) hraise

/-- Settles O47: both ends of a pass post their values, and what they leave is handed to the dispatch engine. -/
theorem passesPostOrFault : Obligations.PassesPostOrFault := by
  intro s p r o hp hr hon hroom ho
  refine ⟨?_, ?_⟩
  · obtain ⟨hframe, hstory⟩ := passPosted_leaveMeasuring hon hroom (oversetNow_postDepth ho) rfl
    refine ⟨_, (s.passPosted p.story r).leaveMeasuring, congrArg Host.Outcome.next (completePass_eq hp), ?_, ?_, ?_,
      fun j hj => (hstory j).trans (if_neg hj), fun a => ?_, congrArg (fun u : State => u.stations.outgoing) hframe⟩
    · rw [← hr]
      exact handed_handEvent _ _
    · rw [hframe]
    · rw [hstory, if_pos rfl, postedDepth, Bool.decide_or]
    · rw [hframe]
      rfl
  · refine ⟨_, (s.passFaulted p.story).leaveMeasuring, congrArg Host.Outcome.next (faultPass_handed hp hon (by omega)),
      handed_handEvent _ _, ?_, ?_, fun j hj => ?_, fun a => ?_⟩ <;> rw [leaveMeasuring_eq]
    · rfl
    · exact story_setStory_same s _ _
    · exact story_setStory_ne s _ hj
    · rfl

end Sys2Proof.Machine
end


section
/-! PROOFS. The trim: the characters a send puts in TEXT frames are those of the lines sent, with which the set characters begin (R80,
R81, R143). -/

namespace Sys2Proof.Machine

open Safety

variable {m allowance : Nat} {fontAt : FontId → Font} {r : Reader} {t : Trim}

/-! ## Bytes read -/

/-- A reading that has got one byte, before its lines are taken into the trim computation. -/
def readOn (m : Nat) (fontAt : FontId → Font) (r : Reader) (x : Byte) : Reader :=
  { r with breaker := (readByte m fontAt r.breaker x).1, chars := if isSetChar x then r.chars ++ [x] else r.chars }

theorem readSendByte_finished (h : r.finished = true) (x : Byte) : readSendByte m fontAt allowance r x = r := if_pos h

theorem readSendByte_end (h : r.finished = false) :
    readSendByte m fontAt allowance r endOfText = readTextEnd m allowance r := by
  rw [readSendByte, if_neg (by simp [h]), if_pos rfl]

theorem readSendByte_on (h : r.finished = false) {x : Byte} (hx : x ≠ endOfText) : readSendByte m fontAt allowance r x =
    readLines allowance (readOn m fontAt r x) (readByte m fontAt r.breaker x).2 := by
  rw [readSendByte, if_neg (by simp [h]), if_neg hx]
  rfl

/-- A reading that has stopped reads no more. -/
theorem foldl_readSendByte_finished (h : r.finished = true) (xs : List Byte) :
    xs.foldl (readSendByte m fontAt allowance) r = r := by
  induction xs with
  | nil => rfl
  | cons x xs ih => rw [List.foldl_cons, readSendByte_finished h, ih]

/-- The end of text is met where the bytes end, if it was not met before. -/
def readRest (m allowance : Nat) (r : Reader) : Reader := if r.finished then r else readTextEnd m allowance r

theorem readRest_finished (h : r.finished = true) : readRest m allowance r = r := if_pos h

theorem readRest_unfinished (h : r.finished = false) : readRest m allowance r = readTextEnd m allowance r := if_neg (by simp [h])

/-- No set character follows the end of text. -/
theorem setChars_end (xs : List Byte) : setChars (endOfText :: xs) = [] := rfl

theorem setChars_cons {x : Byte} (hx : x ≠ endOfText) (xs : List Byte) :
    setChars (x :: xs) = (if isSetChar x then [x] else []) ++ setChars xs := by
  rw [setChars, List.takeWhile_cons_of_pos (by simpa using hx), List.filter_cons]
  split <;> rfl

theorem readOn_chars (m : Nat) (fontAt : FontId → Font) (r : Reader) {x : Byte} (hx : x ≠ endOfText) (xs : List Byte) :
    (readOn m fontAt r x).chars ++ setChars xs = r.chars ++ setChars (x :: xs) := by
  rw [setChars_cons hx, ← List.append_assoc]
  congr 1
  unfold readOn
  split <;> simp

/-! ## A story not trimmed -/

theorem readLines_untrimmed (h : r.trim = none) (ls : List Line) : readLines allowance r ls = r := by
  rw [readLines, h]

/-- Without trim every set character is sent (R143). -/
theorem readRest_untrimmed (xs : List Byte) : ∀ {r : Reader}, r.finished = false → r.trim = none →
    (readRest m allowance (xs.foldl (readSendByte m fontAt allowance) r)).chars = r.chars ++ setChars xs := by
  have hend : ∀ {r : Reader}, r.trim = none → (readTextEnd m allowance r).chars = r.chars := fun {r} ht => by
    have hlines := readLines_untrimmed (allowance := allowance) (r := { r with breaker := (readEnd m r.breaker).1 }) ht
      (readEnd m r.breaker).2
    rw [readTextEnd, hlines]
  induction xs with
  | nil =>
    intro r hf ht
    rw [List.foldl_nil, readRest_unfinished hf, hend ht]
    exact (List.append_nil _).symm
  | cons x xs ih =>
    intro r hf ht
    rw [List.foldl_cons]
    by_cases hx : x = endOfText
    · subst hx
      rw [readSendByte_end hf, foldl_readSendByte_finished rfl, readRest_finished rfl, hend ht, setChars_end, List.append_nil]
    · rw [readSendByte_on hf hx, readLines_untrimmed (r := readOn m fontAt r x) ht, ih (r := readOn m fontAt r x) hf ht,
        readOn_chars m fontAt r hx]

/-! ## A trimmed story -/

/-- A trim computation keeps within its allowance, unless it has sent just one line (R80, R81). -/
def TrimWithin (allowance : Nat) (t : Trim) : Prop := t.depth ≤ allowance ∨ t.lines = 1

theorem TrimWithin.line (h : TrimWithin allowance t) (l : Line) : TrimWithin allowance (trimLine allowance t l) := by
  unfold trimLine
  split
  · exact h
  · split
    · rename_i hsent
      rcases hsent with hfirst | hfits
      · exact .inr (by rw [hfirst])
      · exact .inl hfits
    · exact h

/-- What a reading that has stopped has to send, where the text's set characters are `total` (R81). -/
def TrimSent (allowance : Nat) (total : List Byte) (r : Reader) : Prop :=
  r.finished = true ∧ ∃ t, r.trim = some t ∧ TrimWithin allowance t ∧ (t.cut = false → r.chars = total) ∧
    ∃ n, r.chars = total.take n ∨ r.chars = total.take n ++ [paragraphEnd]

/-- A reading cut at a line sends the first of the characters it has read, which are the first of all there are. -/
theorem trimSent_cutReader (h : TrimWithin allowance t) (hcut : t.cut = true) (r : Reader) (rest : List Byte) :
    TrimSent allowance (r.chars ++ rest) (cutReader r t) := by
  have htake : (r.chars ++ rest).take (min (t.mark - r.framed) r.chars.length) = r.chars.take (t.mark - r.framed) := by
    rw [List.take_append_of_le_length (min_le_right _ _), ← List.take_take, List.take_length]
  refine ⟨rfl, t, rfl, h, fun hn => Bool.noConfusion (hcut.symm.trans hn), min (t.mark - r.framed) r.chars.length, ?_⟩
  rw [htake, cutReader]
  cases t.paragraph with
  | true => exact .inl (List.append_nil _)
  | false => exact .inr rfl

/-- Lines taken into the trim computation of a reading: it goes on, or is cut at the first line not sent. -/
theorem readLines_trimmed (ht : r.trim = some t) (h : TrimWithin allowance t) (ls : List Line) :
    ∃ t', TrimWithin allowance t' ∧
      (readLines allowance r ls = { r with trim := some t' } ∨ t'.cut = true ∧ readLines allowance r ls = cutReader r t') := by
  refine ⟨ls.foldl (trimLine allowance) t, foldl_invariant (TrimWithin allowance) _ (fun _ l h => h.line l) ls t h, ?_⟩
  rw [readLines, ht]
  dsimp only
  by_cases hcut : (ls.foldl (trimLine allowance) t).cut = true
  · exact .inr ⟨hcut, if_pos hcut⟩
  · exact .inl (if_neg hcut)

theorem trimSent_readTextEnd (ht : r.trim = some t) (h : TrimWithin allowance t) :
    TrimSent allowance r.chars (readTextEnd m allowance r) := by
  obtain ⟨t', h', hlines | ⟨hcut, hlines⟩⟩ :=
    readLines_trimmed (r := { r with breaker := (readEnd m r.breaker).1 }) ht h (readEnd m r.breaker).2
  · rw [readTextEnd, hlines]
    exact ⟨rfl, t', rfl, h', fun _ => rfl, r.chars.length, .inl (List.take_length).symm⟩
  · have hsent := trimSent_cutReader h' hcut { r with breaker := (readEnd m r.breaker).1 } []
    rw [List.append_nil] at hsent
    rw [readTextEnd, hlines]
    exact hsent

/-- Under trim the lines sent keep within the allowance, and the set characters begin with theirs (R81). -/
theorem trimSent_readRest (xs : List Byte) : ∀ {r : Reader} {t : Trim}, r.finished = false → r.trim = some t →
    TrimWithin allowance t → TrimSent allowance (r.chars ++ setChars xs)
      (readRest m allowance (xs.foldl (readSendByte m fontAt allowance) r)) := by
  induction xs with
  | nil =>
    intro r t hf ht h
    rw [List.foldl_nil, readRest_unfinished hf]
    exact (List.append_nil r.chars).symm ▸ trimSent_readTextEnd ht h
  | cons x xs ih =>
    intro r t hf ht h
    rw [List.foldl_cons]
    by_cases hx : x = endOfText
    · subst hx
      rw [readSendByte_end hf, foldl_readSendByte_finished rfl, readRest_finished rfl, setChars_end, List.append_nil]
      exact trimSent_readTextEnd ht h
    · rw [readSendByte_on hf hx, ← readOn_chars m fontAt r hx]
      obtain ⟨t', h', hlines | ⟨hcut, hlines⟩⟩ :=
        readLines_trimmed (r := readOn m fontAt r x) ht h (readByte m fontAt r.breaker x).2
      · rw [hlines]
        exact ih (r := { readOn m fontAt r x with trim := some t' }) hf rfl h'
      · rw [hlines, foldl_readSendByte_finished rfl, readRest_finished rfl]
        exact trimSent_cutReader h' hcut _ _

/-- Settles O23, by induction on the text. -/
theorem trimSendsAPrefix : Obligations.TrimSendsAPrefix := by
  intro m allowance fontAt xs
  obtain ⟨hfinished, t, ht, hwithin, hall, hfirst⟩ :=
    trimSent_readRest (m := m) (allowance := allowance) (fontAt := fontAt) xs
      (r := { block := 0, breaker := newRun, trim := some newTrim, chars := [], framed := 0, finished := false })
      rfl rfl (.inl (Nat.zero_le _))
  exact ⟨readRest_untrimmed xs rfl rfl, hfinished, t, ht, hwithin, hall, hfirst⟩

end Sys2Proof.Machine
end


section
/-! PROOFS. Font writes are taken and stale the stories that use the font, or are refused, or wait (R64 to R67, R94, R95). -/

namespace Sys2Proof.Machine

open Safety

variable {s : State} {code : StationCode} {st : Station} {f : FontId} {sz : Size} {w : FontWrite} {v : Word}

/-! ## The record a font write leaves -/

/-- Entries of a width table once bytes have been written over it (R66). -/
theorem fontWidth_setWidths (bs : List Byte) : ∀ (F : Font) (c j : Nat), fontWidth (setWidths F c bs) j =
    if h : c ≤ j ∧ j - c < bs.length then (bs[j - c]).setWidth 6 else fontWidth F j := by
  induction bs with
  | nil => exact fun F c j => by simp [setWidths]
  | cons b bs ih =>
    intro F c j
    rw [setWidths, ih, fontWidth_setFontWidth]
    rcases Nat.lt_trichotomy j c with hj | rfl | hj
    · rw [dif_neg (by omega), if_neg (by omega), dif_neg (by omega)]
    · rw [dif_neg (by omega), if_pos rfl, dif_pos (by simp)]
      simp
    · obtain ⟨i, rfl⟩ := Nat.exists_eq_add_of_lt hj
      have hsub : c + i + 1 - c = i + 1 := by omega
      have hsub' : c + i + 1 - (c + 1) = i := by omega
      simp only [hsub, hsub', List.length_cons, List.getElem_cons_succ]
      by_cases hi : i < bs.length
      · rw [dif_pos ⟨by omega, hi⟩, dif_pos ⟨by omega, by omega⟩]
      · rw [dif_neg (by omega), if_neg (by omega), dif_neg (by omega)]

theorem setWidths_terms (bs : List Byte) : ∀ (F : Font) (c : Nat),
    (setWidths F c bs).size = F.size ∧ (setWidths F c bs).leading = F.leading := by
  induction bs with
  | nil => exact fun _ _ => ⟨rfl, rfl⟩
  | cons b bs ih => exact fun F c => ih (setFontWidth F c (b.setWidth 6)) (c + 1)

/-- A single write over the width table reaches as many entries as it has bytes (R66). -/
theorem fontWidth_fontAfter (F : Font) (c : Fin 256) (hsz : sz ≠ .burst) (v : Word) (j : Nat) :
    fontWidth (fontAfter F sz (.widths c v)) j =
      if c.val ≤ j ∧ j < c.val + sizeBytes sz then (v.extractLsb' (8 * (j - c.val)) 8).setWidth 6 else fontWidth F j := by
  have hlength : (valueBytes sz v).length = sizeBytes sz := by
    cases sz with
    | burst => exact absurd rfl hsz
    | _ => rfl
  rw [fontAfter, fontWidth_setWidths]
  by_cases hj : c.val ≤ j ∧ j < c.val + sizeBytes sz
  · rw [dif_pos ⟨hj.1, by omega⟩, if_pos hj]
    simp [valueBytes, wordByte]
  · rw [dif_neg (by omega), if_neg hj]

/-! ## A font write that is taken -/

/-- The hold of a HELD engine ends, where no pass is in flight (R95). -/
theorem releaseHeld_eq (h : ∀ p, s.measure.engine ≠ .measuring p) : s.releaseHeld = { s with measure := { s.measure with
    engine := .idle
    fontWait := s.measure.fontWait && decide (s.measure.engine = .idle)
    fontWaitTimer := if s.measure.engine = .held then none else s.measure.fontWaitTimer } } := by
  unfold State.releaseHeld
  cases he : s.measure.engine with
  | idle =>
    rw [if_neg nofun, if_neg nofun]
    simp [← he]
  | held => simp [State.endFontWait]
  | measuring p => exact absurd he (h p)

theorem inPass_false (h : ∀ p, s.measure.engine ≠ .measuring p) (k : StoryId) : s.inPass k = false := by
  unfold State.inPass
  split
  · exact absurd ‹_› (h _)
  · rfl

/-- The record of a font set, with the hold of a HELD engine ended (R64 to R66, R95). -/
def State.fontSet (s : State) (f : FontId) (F : Font) : State := State.setFont { s with measure := { s.measure with
  engine := .idle
  fontWait := s.measure.fontWait && decide (s.measure.engine = .idle)
  fontWaitTimer := if s.measure.engine = .held then none else s.measure.fontWaitTimer } } f F

/-- A font write taken sets the record and stales the stories that use the font, and nothing else changes (R67, R87, R95). -/
theorem fontTaken_written (hc : Canonical s) (hidle : ∀ p, s.measure.engine ≠ .measuring p) :
    fontWritten f s (s.releaseHeld.fontTaken f sz w) ∧
      (s.releaseHeld.fontTaken f sz w).font f = fontAfter (s.font f) sz w := by
  have hnone : ∀ k, (s.fontSet f (fontAfter (s.font f) sz w)).inPass k = false := fun _ => rfl
  obtain ⟨hstaled, hframe⟩ := staledBy_storiesWhere (s := s.fontSet f (fontAfter (s.font f) sz w))
    (p := fun x => x.depth.fonts.getLsbD f.val) hc.stories (by simp [unusedStory, noDepth]) hnone
  have htaken : s.releaseHeld.fontTaken f sz w =
      ((s.fontSet f (fontAfter (s.font f) sz w)).staleFont f).done := by
    rw [releaseHeld_eq hidle]
    rfl
  have hfonts : (s.releaseHeld.fontTaken f sz w).measure.fonts = (s.fontSet f (fontAfter (s.font f) sz w)).measure.fonts := by
    rw [htaken, State.staleFont, hframe]
    rfl
  have hfont : ∀ g, (s.releaseHeld.fontTaken f sz w).font g = (s.fontSet f (fontAfter (s.font f) sz w)).font g := fun g => by
    rw [State.font, hfonts]
    rfl
  refine ⟨⟨fun g hg => ?_, ?_, fun a => ?_, ?_⟩, ?_⟩
  · rw [hfont]
    exact font_setFont_ne _ _ hg
  · rw [htaken]
    exact hstaled
  · rw [htaken, State.staleFont, hframe]
    rfl
  · rw [hfonts, htaken]
    exact congrArg State.done hframe
  · rw [hfont]
    exact font_setFont_same _ _ _

/-! ## The requests -/

/-- A font write of a size its word takes, by the system station (R67). -/
theorem writeFont_system (hsz : fontBadSize sz w = false) : s.writeFont .system f sz w =
    if s.sendingHead.isSome then s.releaseHeld.refuse .system .fontsPinned
    else if s.measuring then s.retryFont
    else s.releaseHeld.fontTaken f sz w := by
  simp [State.writeFont, hsz, isTerminal]

/-- A terminal's font write (R67). -/
theorem writeFont_terminal (hsz : fontBadSize sz w = false) (hst : st ≠ .system) :
    s.writeFont st f sz w = s.refuse st .noRight := by
  simp [State.writeFont, hsz, (isTerminal_iff st).2 hst]

/-- A font write of a size its word does not take (R67). -/
theorem writeFont_badSize (hsz : fontBadSize sz w = true) : s.writeFont st f sz w = s.refuse st .badSize := by
  simp [State.writeFont, hsz]

theorem exec_sizeWrite (hst : stationOf code = some st) (sz : Size) (v : Word) :
    exec (.sizeWrite code f sz v) s = .next (s.writeFont st f sz (.size v)) := by
  show Host.Outcome.next (asStation code s _) = _
  rw [asStation_some hst]

theorem exec_leadingWrite (hst : stationOf code = some st) (sz : Size) (v : Word) :
    exec (.leadingWrite code f sz v) s = .next (s.writeFont st f sz (.leading v)) := by
  show Host.Outcome.next (asStation code s _) = _
  rw [asStation_some hst]

theorem exec_widthTableWrite (hst : stationOf code = some st) {c : Fin 256} (ha : aligned c.val sz = true) (v : Word) :
    exec (.widthTableWrite code f c sz v) s = .next (s.writeFont st f sz (.widths c v)) := by
  show (if aligned c.val sz = true then _ else _) = _
  rw [if_pos ha, asStation_some hst]

/-- A font write by the system station is taken while no page is SENDING and no pass in flight (R67). -/
theorem writeFont_taken (hsz : fontBadSize sz w = false) (hsend : s.sendingHead = none)
    (hidle : ∀ p, s.measure.engine ≠ .measuring p) : s.writeFont .system f sz w = s.releaseHeld.fontTaken f sz w := by
  have hmeasuring : s.measuring = false := by
    unfold State.measuring
    split
    · exact absurd ‹_› (hidle _)
    · rfl
  simp [writeFont_system hsz, hsend, hmeasuring]

theorem fontWritesSetTheFont : Parts.FontWritesSetTheFont := by
  intro s f v hc hsend hidle
  refine ⟨⟨_, exec_sizeWrite stationOf_system .word v, ?_⟩, ⟨_, exec_leadingWrite stationOf_system .word v, ?_⟩,
    fun c sz hsz ha => ⟨_, exec_widthTableWrite stationOf_system ha v, ?_⟩⟩
  · rw [writeFont_taken rfl hsend hidle]
    exact fontTaken_written hc hidle
  · rw [writeFont_taken rfl hsend hidle]
    exact fontTaken_written hc hidle
  · rw [writeFont_taken (by simp [fontBadSize, hsz]) hsend hidle]
    obtain ⟨hwritten, hfont⟩ := fontTaken_written (f := f) (sz := sz) (w := .widths c v) hc hidle
    rw [hfont]
    exact ⟨hwritten, (setWidths_terms _ _ _).1, (setWidths_terms _ _ _).2, fontWidth_fontAfter (s.font f) c hsz v⟩

/-! ## The order of refusals -/

/-- A well-formed font write asks for a size its word takes (R67). -/
theorem exec_fontWrite {c : Instr} (hst : stationOf code = some st)
    (hc : c = .sizeWrite code f .word v ∨ c = .leadingWrite code f .word v ∨
      ∃ (j : Fin 256) (sz : Size), sz ≠ .burst ∧ aligned j.val sz = true ∧ c = .widthTableWrite code f j sz v) :
    ∃ sz w, fontBadSize sz w = false ∧ exec c s = .next (s.writeFont st f sz w) := by
  rcases hc with rfl | rfl | ⟨j, sz, hsz, ha, rfl⟩
  · exact ⟨.word, .size v, rfl, exec_sizeWrite hst .word v⟩
  · exact ⟨.word, .leading v, rfl, exec_leadingWrite hst .word v⟩
  · exact ⟨sz, .widths j v, by simp [fontBadSize, hsz], exec_widthTableWrite hst ha v⟩

theorem fontWritesWaitForPassAndSend : Parts.FontWritesWaitForPassAndSend := by
  intro s f v code st c hst hc
  obtain ⟨sz, w, hsz, hexec⟩ := exec_fontWrite (s := s) hst hc
  have hbad : ∀ {c sz w}, exec c s = .next (s.writeFont st f sz w) → fontBadSize sz w = true →
      exec c s = .next { s.setLastRefusal st .badSize with bus := refuseBus } := fun hx hb => by
    rw [hx, writeFont_badSize hb]
    rfl
  refine ⟨fun hsys hsend hheld => ?_, fun hsys hsend hheld => ?_, fun hsys hsend hpass => ?_, fun hterm => ?_,
    fun sz hsz => ⟨?_, ?_⟩, fun j ha => hbad (exec_widthTableWrite hst ha v) rfl⟩
  · rw [hexec, hsys, writeFont_system hsz, if_pos hsend, State.releaseHeld, if_neg hheld]
    rfl
  · rw [hexec, hsys, writeFont_system hsz, if_pos hsend, State.releaseHeld, if_pos hheld]
    rfl
  · obtain ⟨p, hp⟩ := hpass
    rw [hexec, hsys, writeFont_system hsz, hsend, if_neg (by simp), if_pos (by rw [State.measuring, hp])]
    rfl
  · rw [hexec, writeFont_terminal hsz hterm]
    rfl
  · exact hbad (exec_sizeWrite hst sz v) ((badSize_iff sz).2 hsz)
  · exact hbad (exec_leadingWrite hst sz v) ((badSize_iff sz).2 hsz)

/-- Settles O36: the tests of R67 come in their order, and a write that passes them sets the record and stales its stories. -/
theorem fontWritesAreTakenOrWait : Obligations.FontWritesAreTakenOrWait :=
  ⟨fontWritesSetTheFont, fontWritesWaitForPassAndSend⟩

end Sys2Proof.Machine
end


section
/-! PROOFS. Edits of a page's plan: the tests before them, what they do to the page, and what they hand to the measure unit (R77, R78, R86,
R122, R127, R128). -/

namespace Sys2Proof.Machine

open Safety

variable {s t u : State} {code : StationCode} {st : Station} {p : PageId} {n : Option SlotId} {before : Option StoryId} {k : StoryId}
  {told : List Outgoing}

/-! ## The tests (R122) -/

theorem lacksMakeup_iff (s : State) (st : Station) :
    s.lacksMakeup st = true ↔ ∃ u, st = .terminal u ∧ (s.terminal u).makeup = false := by
  cases st with
  | terminal u => simp [State.lacksMakeup]
  | system => simp [State.lacksMakeup]

theorem committed_iff (y : PageState) : (isWaiting y || isSending y) = true ↔ committed y = true := by
  cases y <;> simp [isWaiting, isSending, committed]

/-- The order of R122. -/
theorem Refuses.planFirst {own : Reason} {sz : Size} (h : Refuses s st own t) :
    Refuses s st (afterPlanTests s st p sz own) (testing st (s.planTests st p sz) s t) :=
  .test (badSize_iff sz) fun _ => .test not_signedOn_iff fun _ => .test (lacksMakeup_iff s st) fun _ =>
    .last (committed_iff _) fun _ => h

/-- A write by a station that may plan passes the tests, on a page at rest or QUEUED. -/
theorem planTests_pass (hmay : mayPlan s st) (he : editable s p) : testing st (s.planTests st p .word) s t = t := by
  obtain ⟨hon, hmakeup⟩ := hmay
  have hright : s.lacksMakeup st = false := by
    cases st with
    | terminal u => simp [State.lacksMakeup, hmakeup u rfl]
    | system => rfl
  have hfree : (isWaiting (s.page p).state || isSending (s.page p).state) = false := by
    rcases he with ⟨r, hr⟩ | ⟨r, hr⟩ <;> rw [hr] <;> rfl
  simp [State.planTests, badSize, hon, hright, hfree]

/-! ## The page (R127, R128) -/

theorem restingAfter_eq (r : Resting) (pg : Page) : restingAfter r pg = editResting r (anyOccupied pg) := by
  cases ho : (occupied pg).isEmpty <;> cases r <;> simp [restingAfter, editResting, anyOccupied, ho]

/-- PAGE-CHANGED of a page that leaves SENT (R127). -/
def State.changedTold (s : State) (p : PageId) (n : Option SlotId) (before : Option StoryId) (st : Station) (r : Resting) :
    List Outgoing :=
  if r = .sent then
    [{ recipient := .system
       notice := { s.maybeStoryNotice .pageChanged 0 before with page := some p, slot := n, cause := some st } }]
  else []

/-- An edit of a page at rest (R127). -/
theorem edited_resting {r : Resting} (hr : (u.page p).state = .resting r) (hroom : u.stations.outgoing.length < 256) :
    u.edited p n before st = { u.setPageState p (.resting (restingAfter r (u.page p))) with
      stations := { u.stations with outgoing := u.stations.outgoing ++ u.changedTold p n before st r } } := by
  have hnotice : (u.setPageState p (.resting (restingAfter r (u.page p)))).maybeStoryNotice .pageChanged 0 before =
      u.maybeStoryNotice .pageChanged 0 before := by cases before <;> rfl
  simp only [State.edited, hr, ← restingAfter_eq, hnotice, State.changedTold]
  split
  · exact raise_taken (u.setPageState p _) _ _ rfl hroom
  · simp [State.setPageState, State.setPage]

/-- An edit of a QUEUED page that leaves a slot occupied (R128). -/
theorem edited_queued {r : Resting} (hr : (u.page p).state = .queued r) (hocc : anyOccupied (u.page p) = true) :
    u.edited p n before st = u.setPageState p (.queued (restingAfter r (u.page p))) := by
  simp only [State.edited, hr, hocc, if_true, restingAfter_eq]

/-- An edit that does not empty a QUEUED page sets the page's state and hands over at most PAGE-CHANGED (R127, R128). -/
theorem edited_eq (he : editable u p) (hocc : ∀ r, (u.page p).state = .queued r → anyOccupied (u.page p) = true)
    (hroom : u.stations.outgoing.length < 256) : ∃ y O, u.edited p n before st = { u.setPageState p y with
      stations := { u.stations with outgoing := u.stations.outgoing ++ O } } ∧
    (∀ r, (u.page p).state = .resting r → y = .resting (restingAfter r (u.page p)) ∧ O = u.changedTold p n before st r) ∧
    ∀ r, (u.page p).state = .queued r → y = .queued (restingAfter r (u.page p)) ∧ O = [] := by
  rcases he with ⟨r, hr⟩ | ⟨r, hr⟩
  · refine ⟨_, _, edited_resting hr hroom, fun r' hr' => ?_, fun r' hr' => (nomatch hr.symm.trans hr')⟩
    cases hr.symm.trans hr'
    exact ⟨rfl, rfl⟩
  · refine ⟨.queued (restingAfter r (u.page p)), [], (edited_queued hr (hocc r hr)).trans ?_,
      fun r' hr' => (nomatch hr.symm.trans hr'), fun r' hr' => ?_⟩
    · rw [List.append_nil]
      rfl
    · cases hr.symm.trans hr'
      exact ⟨rfl, rfl⟩

/-- An edit but for the page's state leaves the state `u`: what the whole edit leaves. -/
theorem pageEdit_edited
    (hframe : u = { s with
      stories := u.stories, measure := u.measure, pages := { s.pages with pages := u.pages.pages }
      stations := { s.stations with outgoing := s.stations.outgoing ++ told } })
    (hbut : SamePagesBut p s u) (hstate : (u.page p).state = (s.page p).state) (he : editable s p)
    (hocc : ∀ r, (s.page p).state = .queued r → anyOccupied (u.page p) = true)
    (hroom : s.stations.outgoing.length + told.length < 256) {v : State} (hv : v = (u.edited p n before st).done) :
    pageEdit p n before st told s v ∧ v.page p = { u.page p with state := (v.page p).state } ∧
      v.stories = u.stories ∧ v.measure = u.measure := by
  have hroom' : u.stations.outgoing.length < 256 := by
    rw [hframe]
    simpa using hroom
  rw [editable, ← hstate] at he
  rw [← hstate] at hocc
  obtain ⟨y, O, hedited, hy, hO⟩ := edited_eq (n := n) (before := before) (st := st) he hocc hroom'
  rw [hstate] at hy hO
  have hpage : ∀ q, v.page q = if q = p then { u.page p with state := y } else u.page q := fun q => by
    rw [hv, hedited]
    exact page_setPage u q p _
  have hpp := (hpage p).trans (if_pos rfl)
  have hout : v.stations.outgoing = s.stations.outgoing ++ told ++ O := by
    rw [hv, hedited, hframe]
    rfl
  have hafter : ∀ r, restingAfter r (v.page p) = restingAfter r (u.page p) := fun r => by
    rw [hpp]
    rfl
  have hchanged : ∀ r, v.changedTold p n before st r = u.changedTold p n before st r := fun r => by
    rw [hv, hedited]
    cases before <;> rfl
  refine ⟨⟨fun r hr => ⟨?_, ?_⟩, fun r hr => ⟨?_, ?_⟩, fun q hq => ?_, fun a => ?_, ?_⟩, ?_, ?_, ?_⟩
  · rw [hafter, hpp, (hy r hr).1]
  · rw [hout, (hy r hr).2, ← hchanged]
    rfl
  · rw [hafter, hpp, (hO r hr).1]
  · rw [hout, (hO r hr).2, List.append_nil]
  · rw [hpage, if_neg hq, hbut q hq]
  · rw [hv, hedited, hframe]
    rfl
  · rw [hv, hedited, hframe]
    rfl
  · rw [hpp]
  · rw [hv, hedited]
    rfl
  · rw [hv, hedited]
    rfl

/-! ## The measure unit -/

theorem signedOn_setPage (s : State) (p : PageId) (v : Page) (st : Station) : (s.setPage p v).signedOn st = s.signedOn st := by
  cases st <;> rfl

/-- A staling cause on one story that is in no pass (R86). -/
theorem stale_outOfPass (h : s.inPass k = false) :
    (∀ j, (s.stale k).story j = if j = k then staledEntry (s.story k) else s.story j) ∧
    s.stale k = { s with
      stories := (s.stale k).stories
      measure := { s.measure with queue := s.measure.queue ++
        if (s.story k).depth.status = .none ∨ (s.story k).depth.status = .stale then [] else [k] } } := by
  obtain ⟨hstory, hframe⟩ := staleAll_story [k] s (List.nodup_singleton k) fun j hj => by rwa [List.mem_singleton.1 hj]
  have hqueue : [k].filter (fun j => stales (s.story j).depth.status) =
      if (s.story k).depth.status = .none ∨ (s.story k).depth.status = .stale then [] else [k] := by
    cases hs : (s.story k).depth.status <;> simp [stales, hs]
  refine ⟨fun j => (hstory j).trans ?_, hqueue ▸ hframe⟩
  by_cases hj : j = k
  · subst hj
    by_cases hs : (s.story j).depth.status = .none
    · have hsame : staledEntry (s.story j) = s.story j := by rw [staledEntry, if_pos hs, ← hs]
      simp [hs, hsame]
    · simp [staledEntry, hs]
  · simp [hj]

theorem oversetTold_length (s : State) (k : StoryId) (a : Nat) (w : Station) : (oversetTold s k a w).length ≤ 2 :=
  oversetNotices_length s k (allowanceMark (s.story k) a) (some w)

/-- An allowance change handed to the measure unit, with room for its notices (R77, R78). -/
theorem allowanceChanged_taken {a : Nat} {w : Station} (ha : s.allowanceOf k = some a)
    (hon : ∀ st, (s.story k).holder = some st → s.signedOn st = true) (hroom : s.stations.outgoing.length + 2 ≤ 256) :
    (∀ j, (s.allowanceChanged k w).story j =
      if j = k then oversetAs (s.story k) (allowanceMark (s.story k) a) else s.story j) ∧
    s.allowanceChanged k w = { s with
      stories := (s.allowanceChanged k w).stories
      stations := { s.stations with outgoing := s.stations.outgoing ++ oversetTold s k a w } } := by
  unfold State.allowanceChanged
  by_cases hfresh : (s.story k).depth.status = .fresh
  · have hnow : s.oversetNow k = allowanceMark (s.story k) a := by
      simp only [State.oversetNow, ha, allowanceMark, hfresh, if_true]
    rw [if_pos hfresh, evaluateOverset_taken (some w) hon hroom, hnow]
    exact ⟨fun j => story_setStory s j k _, rfl⟩
  · have hmark : allowanceMark (s.story k) a = (s.story k).depth.overset := if_neg hfresh
    have htold : oversetTold s k a w = [] := if_pos hmark
    rw [if_neg hfresh, htold, List.append_nil, hmark]
    refine ⟨fun j => ?_, rfl⟩
    split
    · rename_i hj
      rw [hj]
      rfl
    · rfl

end Sys2Proof.Machine
end


section
/-! PROOFS. SPAN, ALLOWANCE and POLICY of a slot are set, and their refusals (R122, R126 to R128). -/

namespace Sys2Proof.Machine

open Safety

variable {s u : State} {code : StationCode} {st : Station} {p : PageId} {n : SlotId} {sl : Slot} {before : Option StoryId}
  {told : List Outgoing}

/-! ## An edit of one slot -/

/-- An edit that gives a slot new terms: what it leaves (R126 to R128). -/
theorem slotEdit_edited {new : Slot}
    (hframe : u = { s.putSlot p n (some new) with
      stories := u.stories, measure := u.measure
      stations := { s.stations with outgoing := s.stations.outgoing ++ told } })
    (he : editable s p) (hroom : s.stations.outgoing.length + told.length < 256) {v : State}
    (hv : v = (u.edited p (some n) before st).done) :
    slotEdit p n before st told s v ∧ (∀ m, v.slotOf p m = if m = n then some new else s.slotOf p m) ∧
      (∀ k, v.story k = u.story k) ∧ v.measure = u.measure := by
  have hpage : ∀ q, u.page q = (s.putSlot p n (some new)).page q := fun q => by
    rw [hframe]
    rfl
  have hpp : u.page p = setSlot (s.page p) n (some new) := (hpage p).trans (page_setPage_same s p _)
  have hocc : anyOccupied (u.page p) = true := by
    refine Bool.of_not_eq_false fun hnone => ?_
    have hn := (anyOccupied_eq_false u p).1 hnone n
    rw [State.slotOf, hpp] at hn
    simp [setSlot] at hn
  obtain ⟨hedit, hvp, hstories, hmeasure⟩ := pageEdit_edited (n := some n) (before := before) (st := st)
    (by rw [hframe]; rfl) (fun q hq => (hpage q).trans (page_setPage_ne s _ hq)) (by rw [hpp]; rfl) he (fun _ _ => hocc)
    hroom hv
  have hslots : (v.page p).slots = (setSlot (s.page p) n (some new)).slots := by rw [hvp, hpp]
  refine ⟨⟨hedit, ?_⟩, fun m => ?_, fun k => congrArg (fun S => tableGet (fun _ => unusedStory) S k.val) hstories, hmeasure⟩
  · rw [hslots, hvp, hpp]
    rfl
  · have hm := slotOf_putSlot s p n (some new) p m
    simp only [State.slotOf, State.putSlot, page_setPage_same, Prod.mk.injEq, true_and] at hm
    rw [State.slotOf, hslots, hm]
    rfl

/-! ## The requests -/

theorem exec_spanWrite (hst : stationOf code = some st) (sz : Size) (v : Word) :
    exec (.spanWrite code p n sz v) s = .next (s.writeSpan st p n sz v) := by
  show Host.Outcome.next (asStation code s _) = _
  rw [asStation_some hst]

theorem exec_allowanceWrite (hst : stationOf code = some st) (sz : Size) (v : Word) :
    exec (.allowanceWrite code p n sz v) s = .next (s.writeAllowance st p n sz v) := by
  show Host.Outcome.next (asStation code s _) = _
  rw [asStation_some hst]

theorem exec_policyWrite (hst : stationOf code = some st) (sz : Size) (v : Word) :
    exec (.policyWrite code p n sz v) s = .next (s.writePolicy st p n sz v) := by
  show Host.Outcome.next (asStation code s _) = _
  rw [asStation_some hst]

theorem writeSpan_request (hmay : mayPlan s st) (he : editable s p) (hsl : s.slotOf p n = some sl) (v : Word) :
    s.writeSpan st p n .word v = if max 1 (min 8 v.toNat) = sl.span then s.done
      else (((s.putSlot p n (some { sl with span := max 1 (min 8 v.toNat) })).stale sl.story).edited p (some n)
        (some sl.story) st).done := by
  rw [State.writeSpan, planTests_pass hmay he, hsl]
  rfl

theorem writeAllowance_request (hmay : mayPlan s st) (he : editable s p) (hsl : s.slotOf p n = some sl) (v : Word) :
    s.writeAllowance st p n .word v = if max 1 (min (s.page p).depth v.toNat) = sl.allowance then s.done
      else (((s.putSlot p n (some { sl with allowance := max 1 (min (s.page p).depth v.toNat) })).allowanceChanged sl.story
        st).edited p (some n) (some sl.story) st).done := by
  rw [State.writeAllowance, planTests_pass hmay he, hsl]
  rfl

theorem policyOf_code (pol : Policy) : policyOf (if pol = .trim then 1#32 else 0#32) = some pol := by
  cases pol <;> rfl

theorem writePolicy_request (hmay : mayPlan s st) (he : editable s p) (hsl : s.slotOf p n = some sl) {pol : Policy} {v : Word}
    (hv : v = if pol = .trim then 1#32 else 0#32) :
    s.writePolicy st p n .word v = if pol = sl.policy then s.done
      else ((s.putSlot p n (some { sl with policy := pol })).edited p (some n) (some sl.story) st).done := by
  rw [State.writePolicy, planTests_pass hmay he, hv, policyOf_code, hsl]

/-! ## What is taken -/

theorem slotTermsAreSet_taken : Parts.SlotTermsAreSet := by
  intro s code st p n sl v a hst hmay he hplan hon hroom hsl ha
  rw [exec_spanWrite hst, exec_allowanceWrite hst, writeSpan_request hmay he hsl, writeAllowance_request hmay he hsl, ← ha]
  refine ⟨fun hne hpass => ⟨_, rfl, ?_⟩, fun hne => ⟨_, rfl, ?_⟩, fun pol hne hv => ⟨_, exec_policyWrite hst .word v, ?_⟩,
    fun h => ?_, fun h => ?_, fun hv => ?_⟩
  · obtain ⟨hstory, hframe⟩ := stale_outOfPass
      (s := s.putSlot p n (some { sl with span := max 1 (min 8 v.toNat) })) (k := sl.story) hpass
    rw [if_neg hne]
    obtain ⟨hedit, hslots, hsame, hmeasure⟩ := slotEdit_edited (told := []) (before := some sl.story) (st := st)
      (hframe.trans (by rw [hframe, List.append_nil]; rfl)) he (by simp; omega) rfl
    refine ⟨hedit, hslots, (hsame _).trans ((hstory _).trans (if_pos rfl)),
      fun j hj => (hsame j).trans ((hstory j).trans (if_neg hj)), hmeasure.trans (by rw [hframe]; rfl)⟩
  · have hallow : (s.putSlot p n (some { sl with allowance := a })).allowanceOf sl.story = some a := by
      have hplaced : ((s.putSlot p n (some { sl with allowance := a })).story sl.story).placement = some (p, n) :=
        hplan.slot p n sl hsl
      have hslot := slotOf_putSlot s p n (some { sl with allowance := a }) p n
      rw [if_pos rfl] at hslot
      rw [State.allowanceOf, hplaced, Option.bind_some]
      exact congrArg (Option.map Slot.allowance) hslot
    obtain ⟨hstory, hframe⟩ := allowanceChanged_taken (w := st) hallow
      (fun w hw => (signedOn_setPage s p _ w).trans (hon n sl w hsl hw))
      (by show s.stations.outgoing.length + 2 ≤ 256; omega)
    have hlength := oversetTold_length s sl.story a st
    rw [if_neg hne]
    obtain ⟨hedit, hslots, hsame, hmeasure⟩ := slotEdit_edited (told := oversetTold s sl.story a st) (before := some sl.story)
      (st := st) (hframe.trans (by rw [hframe]; rfl)) he (by omega) rfl
    refine ⟨hedit, hslots, (hsame _).trans ((hstory _).trans (if_pos rfl)),
      fun j hj => (hsame j).trans ((hstory j).trans (if_neg hj)), hmeasure.trans (by rw [hframe]; rfl)⟩
  · rw [writePolicy_request hmay he hsl hv, if_neg hne]
    obtain ⟨hedit, hslots, hsame, hmeasure⟩ := slotEdit_edited (told := []) (before := some sl.story) (st := st)
      (u := s.putSlot p n (some { sl with policy := pol })) (by rw [List.append_nil]; rfl) he (by simp; omega) rfl
    exact ⟨hedit, hslots, hsame, hmeasure⟩
  · rw [if_pos h]
    rfl
  · rw [if_pos h]
    rfl
  · rw [exec_policyWrite hst, writePolicy_request hmay he hsl hv, if_pos rfl]
    rfl

/-! ## What is refused -/

theorem policyOf_none (v : Word) : policyOf v = none ↔ v ≠ 0#32 ∧ v ≠ 1#32 := by
  unfold policyOf
  split
  · simp [*]
  · split <;> simp [*]

/-- A write to a slot that holds no story is refused (R126). -/
theorem badState_refuses {taken : Slot → State} : Refuses s st (if s.slotOf p n = none then .badState else .none)
    (match s.slotOf p n with
    | none => s.refuse st .badState
    | some sl => taken sl) := by
  cases s.slotOf p n with
  | none => exact .refuse
  | some sl => exact .none

theorem slotTermsRefuseInOrder : Parts.SlotTermsRefuseInOrder := by
  intro s code st p n sz v hst
  refine ⟨refusedFor_of_exec (exec_spanWrite hst sz v) (.planFirst badState_refuses),
    refusedFor_of_exec (exec_allowanceWrite hst sz v) (.planFirst badState_refuses),
    refusedFor_of_exec (exec_policyWrite hst sz v) (.planFirst ?_)⟩
  cases hp : policyOf v with
  | none =>
    rw [if_pos ((policyOf_none v).1 hp)]
    exact .refuse
  | some pol =>
    rw [if_neg fun h => nomatch hp.symm.trans ((policyOf_none v).2 h)]
    exact badState_refuses

/-- Settles O44: a term set stales or evaluates the slot's story, and the edit of the page follows. -/
theorem slotTermsAreSet : Obligations.SlotTermsAreSet := ⟨slotTermsAreSet_taken, slotTermsRefuseInOrder⟩

end Sys2Proof.Machine
end


section
/-! PROOFS. Writes of a page's geometry: the stories whose measure moves are staled, and allowances above a new column depth are lowered
and evaluated (R68, R77, R78, R85, R122, R123). -/

namespace Sys2Proof.Machine

open Safety

variable {s u : State} {code : StationCode} {st : Station} {p : PageId} {new : Page} {d : Nat}

/-! ## The requests -/

theorem exec_columnWidthWrite (hst : stationOf code = some st) (sz : Size) (v : Word) :
    exec (.columnWidthWrite code p sz v) s = .next (s.writeWidth st p sz v) := by
  show Host.Outcome.next (asStation code s _) = _
  rw [asStation_some hst]

theorem exec_gutterWrite (hst : stationOf code = some st) (sz : Size) (v : Word) :
    exec (.gutterWrite code p sz v) s = .next (s.writeGutter st p sz v) := by
  show Host.Outcome.next (asStation code s _) = _
  rw [asStation_some hst]

theorem exec_columnDepthWrite (hst : stationOf code = some st) (sz : Size) (v : Word) :
    exec (.columnDepthWrite code p sz v) s = .next (s.writeColumnDepth st p sz v) := by
  show Host.Outcome.next (asStation code s _) = _
  rw [asStation_some hst]

/-- A QUEUED page has an occupied slot (R120, R128). -/
theorem anyOccupied_of_queued (hf : FrozenLaw s) (hd : DispatchLaw s) {r : Resting} (hr : (s.page p).state = .queued r) :
    anyOccupied (s.page p) = true := by
  refine Bool.of_not_eq_false fun hnone => ?_
  have hmem : p ∈ s.dispatch.queue.map Queued.page := (hd.queued p).2 (by simp [atRest, hr, restingField])
  obtain ⟨e, he, rfl⟩ := List.mem_map.1 hmem
  exact hf.queued e he ((hf.empty e.page).2 ((anyOccupied_eq_false s e.page).1 hnone))

/-! ## Stories whose measure moves (R85) -/

/-- Whether the slot measure of a story on page `p` differs between two plans of the page. -/
def measureDiffers (p : PageId) (old new : Page) (v : Story) : Bool :=
  match v.placement with
  | some (q, n) => q == p && decide ((old.slots[n.val]).map (slotMeasure old) ≠ (new.slots[n.val]).map (slotMeasure new))
  | none => false

theorem remeasured_eq (t : State) (p : PageId) (old : Page) :
    t.remeasured p old = t.storiesWhere (measureDiffers p old (t.page p)) := rfl

/-- With the slots as they were, the measures that differ are those of the page's occupied slots. -/
theorem measureDiffers_story (hp : PlanLaw s) (hslots : new.slots = (s.page p).slots) (k : StoryId) :
    measureDiffers p (s.page p) new (s.story k) = measureMoved s p new k := by
  have hplaced : ∀ {n sl}, s.slotOf p n = some sl → sl.story = k → measureDiffers p (s.page p) new (s.story k) =
      decide (slotMeasure (s.page p) sl ≠ slotMeasure new sl) := fun {n sl} hn hk => by
    have hpl := hp.slot p n sl hn
    rw [hk] at hpl
    have hn : (s.page p).slots[n.val] = some sl := hn
    simp [measureDiffers, hpl, hslots, hn]
  rw [Bool.eq_iff_iff]
  constructor
  · intro h
    cases hpl : (s.story k).placement with
    | none => simp [measureDiffers, hpl] at h
    | some qn =>
      obtain ⟨q, n⟩ := qn
      have hq : q = p := by
        simp only [measureDiffers, hpl, Bool.and_eq_true, beq_iff_eq] at h
        exact h.1
      subst hq
      obtain ⟨sl, hn, hk⟩ := hp.placement k q n hpl
      rw [hplaced hn hk] at h
      exact List.any_eq_true.2 ⟨(n, sl), (mem_occupied _ _ _).2 hn, by simpa [hk] using h⟩
  · intro h
    obtain ⟨⟨n, sl⟩, hmem, hmoved⟩ := List.any_eq_true.1 h
    simp only [Bool.and_eq_true, beq_iff_eq] at hmoved
    rw [hplaced ((mem_occupied _ _ _).1 hmem) hmoved.1]
    exact hmoved.2

/-- New geometry of a page: what it leaves, while no pass is in flight (R123). -/
theorem regeometry_taken (hc : Canonical s) (hp : PlanLaw s) (hf : FrozenLaw s) (hd : DispatchLaw s) (he : editable s p)
    (hidle : ∀ q, s.measure.engine ≠ .measuring q) (hroom : s.stations.outgoing.length < 256)
    (hslots : new.slots = (s.page p).slots) (hstate : new.state = (s.page p).state) (hne : new ≠ s.page p) {t : State}
    (ht : t = s.regeometry st p new) :
    pageEdit p none none st [] s t ∧ t.page p = { new with state := (t.page p).state } ∧
      staledBy (measureMoved s p new) s t ∧ t.measure = { s.measure with queue := t.measure.queue } := by
  have hpage : (s.setPage p new).page p = new := page_setPage_same s p new
  obtain ⟨hstaled, hframe⟩ := staledBy_storiesWhere (s := s.setPage p new) (p := measureDiffers p (s.page p) new) hc.stories rfl
    (inPass_false hidle)
  obtain ⟨u, hu⟩ : ∃ u, u = (s.setPage p new).staleAll ((s.setPage p new).remeasured p (s.page p)) := ⟨_, rfl⟩
  have ht : t = (u.edited p none none st).done := by
    rw [ht, State.regeometry, if_neg hne, hu]
  rw [remeasured_eq, hpage] at hu
  rw [← hu] at hstaled hframe
  have hupage : ∀ q, u.page q = (s.setPage p new).page q := fun q => by
    rw [hframe]
    rfl
  have hup := (hupage p).trans hpage
  have hocc : ∀ r, (s.page p).state = .queued r → anyOccupied (u.page p) = true := fun r hr =>
    (anyOccupied_congr fun n => by rw [State.slotOf, hup, hslots, State.slotOf]).trans (anyOccupied_of_queued hf hd hr)
  obtain ⟨hedit, htp, hstories, hmeasure⟩ := pageEdit_edited (told := []) (n := none) (before := none) (st := st)
    (by rw [hframe, List.append_nil]; rfl) (fun q hq => (hupage q).trans (page_setPage_ne s _ hq)) (by rw [hup, hstate]) he hocc
    (by simpa using hroom) ht
  have hmoved : (fun k => measureDiffers p (s.page p) new ((s.setPage p new).story k)) = measureMoved s p new :=
    funext (measureDiffers_story hp hslots)
  rw [hmoved] at hstaled
  refine ⟨hedit, ?_, ⟨fun k => ?_, ?_⟩, ?_⟩
  · rw [htp, hup]
  · have hsame : t.story k = u.story k := congrArg (fun S => tableGet (fun _ => unusedStory) S k.val) hstories
    exact hsame.trans (hstaled.1 k)
  · rw [hmeasure]
    exact hstaled.2
  · rw [hmeasure, hframe]
    rfl

theorem geometryWritesStaleTheMeasure : Parts.GeometryWritesStaleTheMeasure := by
  intro s code st p v hst hmay he hc hp hf hd hidle hroom
  have hgutter : clamp 0 36 v.toNat = min 36 v.toNat := Nat.zero_max _
  have hsame : ∀ {new : Page}, new = s.page p → s.regeometry st p new = s.done := fun h => if_pos h
  rw [exec_columnWidthWrite hst, exec_gutterWrite hst, State.writeWidth, State.writeGutter, planTests_pass hmay he,
    planTests_pass hmay he, hgutter]
  refine ⟨fun h => ?_, fun h => ⟨_, rfl, ?_⟩, fun h => ?_, fun h => ⟨_, rfl, ?_⟩⟩
  · exact congrArg Host.Outcome.next (hsame (congrArg (fun w => { s.page p with width := w }) h))
  · exact regeometry_taken (new := { s.page p with width := max 60 (min 480 v.toNat) }) hc hp hf hd he hidle hroom rfl rfl
      (fun hnew => h (congrArg Page.width hnew)) rfl
  · exact congrArg Host.Outcome.next (hsame (congrArg (fun w => { s.page p with gutter := w }) h))
  · exact regeometry_taken (new := { s.page p with gutter := min 36 v.toNat }) hc hp hf hd he hidle hroom rfl rfl
      (fun hnew => h (congrArg Page.gutter hnew)) rfl

/-! ## Allowances lowered to a column depth -/

/-- Allowance changes of several stories, each named once, in their order (R77, R78). -/
theorem foldl_allowanceChanged {a : Nat} {w : Station} : ∀ (ks : List StoryId) (s : State), ks.Nodup →
    (∀ k ∈ ks, s.allowanceOf k = some a) →
    (∀ k ∈ ks, ∀ st, (s.story k).holder = some st → s.signedOn st = true) →
    s.stations.outgoing.length + 2 * ks.length ≤ 256 → ∀ u, u = ks.foldl (fun t k => t.allowanceChanged k w) s →
    (∀ j, u.story j = if j ∈ ks then oversetAs (s.story j) (allowanceMark (s.story j) a) else s.story j) ∧
    u = { s with
      stories := u.stories
      stations := { s.stations with outgoing := s.stations.outgoing ++ ks.flatMap fun k => oversetTold s k a w } }
  | [], s, _, _, _, _, u, hu => by
    subst hu
    simp
  | k :: ks, s, hnd, ha, hon, hroom, u, hu => by
    obtain ⟨hk, hnd⟩ := List.nodup_cons.1 hnd
    rw [List.length_cons] at hroom
    obtain ⟨hstory, hframe⟩ := allowanceChanged_taken (w := w) (ha k (.head _)) (hon k (.head _)) (by omega)
    have hlength := oversetTold_length s k a w
    have hsame : ∀ j ∈ ks, (s.allowanceChanged k w).story j = s.story j := fun j hj =>
      (hstory j).trans (if_neg fun h : j = k => hk (h ▸ hj))
    have hpages : (s.allowanceChanged k w).pages = s.pages ∧ (s.allowanceChanged k w).timebase = s.timebase := by
      rw [hframe]
      exact ⟨rfl, rfl⟩
    have htold : ∀ j ∈ ks, oversetTold (s.allowanceChanged k w) j a w = oversetTold s j a w := fun j hj => by
      simp only [oversetTold, State.storyNotice, State.plainNotice, hsame j hj, hpages.1, hpages.2]
    have hallowance : ∀ j ∈ ks, (s.allowanceChanged k w).allowanceOf j = some a := fun j hj => by
      rw [State.allowanceOf, hsame j hj, ← ha j (.tail _ hj), State.allowanceOf]
      simp only [State.page, hpages.1]
    have hsigned : ∀ st, (s.allowanceChanged k w).signedOn st = s.signedOn st := fun st => by
      rw [hframe]
      cases st <;> rfl
    have hroom' : (s.allowanceChanged k w).stations.outgoing.length + 2 * ks.length ≤ 256 := by
      rw [hframe]
      simp only [List.length_append]
      omega
    obtain ⟨ih, ihframe⟩ := foldl_allowanceChanged ks (s.allowanceChanged k w) hnd hallowance
      (fun j hj st h => (hsigned st).trans (hon j (.tail _ hj) st (hsame j hj ▸ h))) hroom' u hu
    refine ⟨fun j => ?_, ?_⟩
    · rw [ih]
      by_cases hj : j ∈ ks
      · rw [if_pos hj, if_pos (.tail _ hj), hsame j hj]
      · rw [if_neg hj, hstory]
        simp only [List.mem_cons, hj, or_false]
        split
        · rename_i hjk
          rw [hjk]
        · rfl
    · have htolds : ks.flatMap (fun j => oversetTold (s.allowanceChanged k w) j a w) =
          ks.flatMap fun j => oversetTold s j a w := List.flatMap_congr htold
      rw [htolds] at ihframe
      rw [ihframe, hframe, List.flatMap_cons, ← List.append_assoc]

/-- The slots of a page whose allowances are lowered (R123). -/
theorem slotOf_lowerPage (s : State) (p : PageId) (d : Nat) (n : SlotId) :
    (s.setPage p (lowerPage (s.page p) d)).slotOf p n = (s.slotOf p n).map (lowerSlot d) := by
  rw [State.slotOf, page_setPage_same, State.slotOf]
  simp [lowerPage]

theorem mem_loweredStories (s : State) (p : PageId) (d : Nat) (k : StoryId) :
    k ∈ loweredStories (s.page p) d ↔ ∃ n sl, s.slotOf p n = some sl ∧ d < sl.allowance ∧ sl.story = k := by
  simp only [loweredStories, List.mem_map, List.mem_filter, decide_eq_true_eq]
  constructor
  · rintro ⟨⟨n, sl⟩, ⟨hmem, hlt⟩, rfl⟩
    exact ⟨n, sl, (mem_occupied _ _ _).1 hmem, hlt, rfl⟩
  · rintro ⟨n, sl, hn, hlt, rfl⟩
    exact ⟨(n, sl), ⟨(mem_occupied _ _ _).2 hn, hlt⟩, rfl⟩

/-- A story whose allowance is lowered has the column depth as its allowance (R123). -/
theorem allowanceOf_lowered (hp : PlanLaw s) {k : StoryId} (hk : k ∈ loweredStories (s.page p) d) :
    (s.setPage p (lowerPage (s.page p) d)).allowanceOf k = some d := by
  obtain ⟨n, sl, hn, hlt, rfl⟩ := (mem_loweredStories s p d k).1 hk
  have hplaced : ((s.setPage p (lowerPage (s.page p) d)).story sl.story).placement = some (p, n) := hp.slot p n sl hn
  have hslot := slotOf_lowerPage s p d n
  rw [hn] at hslot
  rw [State.allowanceOf, hplaced, Option.bind_some]
  refine (congrArg (Option.map Slot.allowance) hslot).trans ?_
  simp [lowerSlot, hlt.le]

theorem loweredStories_sublist (pg : Page) (d : Nat) :
    (loweredStories pg d).Sublist ((occupied pg).map fun e => e.2.story) := List.filter_sublist.map _

theorem loweredStories_length (pg : Page) (d : Nat) : (loweredStories pg d).length ≤ 12 := by
  refine (loweredStories_sublist pg d).length_le.trans ?_
  rw [List.length_map]
  exact (List.length_filterMap_le _ allSlots).trans (by simp [allSlots])

/-- The OVERSET notices of the stories of lowered slots, in slot order (R78, R123). -/
theorem loweredTold_eq (s : State) (p : PageId) (d : Nat) (st : Station) :
    ((occupied (s.page p)).filter fun e => decide (d < e.2.allowance)).flatMap (fun e => oversetTold s e.2.story d st) =
      (loweredStories (s.page p) d).flatMap fun k => oversetTold s k d st := by
  rw [loweredStories, List.flatMap_map]

theorem loweredTold_length (s : State) (p : PageId) (d : Nat) (st : Station) :
    ((loweredStories (s.page p) d).flatMap fun k => oversetTold s k d st).length ≤ 24 := by
  have hsum := List.sum_le_card_nsmul ((loweredStories (s.page p) d).map fun k => (oversetTold s k d st).length) 2
    (List.forall_mem_map.2 fun k _ => oversetTold_length s k d st)
  rw [List.length_map, smul_eq_mul] at hsum
  have hlength := loweredStories_length (s.page p) d
  rw [List.length_flatMap]
  omega

theorem columnDepthLowersAllowances : Parts.ColumnDepthLowersAllowances := by
  intro s code st p v d hst hmay he hp hf hd hon hroom hd'
  have hwrite : s.writeColumnDepth st p .word v = if d = (s.page p).depth then s.done else
      (((loweredStories (s.page p) d).foldl (fun u k => u.allowanceChanged k st)
        (s.setPage p (lowerPage (s.page p) d))).edited p none none st).done := by
    rw [State.writeColumnDepth, planTests_pass hmay he, hd']
    rfl
  rw [exec_columnDepthWrite hst, hwrite]
  refine ⟨fun h => congrArg Host.Outcome.next (if_pos h), fun hne => ⟨_, congrArg Host.Outcome.next (if_neg hne), ?_⟩⟩
  obtain ⟨u, hu⟩ : ∃ u, u = (loweredStories (s.page p) d).foldl (fun u k => u.allowanceChanged k st)
    (s.setPage p (lowerPage (s.page p) d)) := ⟨_, rfl⟩
  have hlength := loweredStories_length (s.page p) d
  have hholder : ∀ k ∈ loweredStories (s.page p) d, ∀ w, (s.story k).holder = some w →
      (s.setPage p (lowerPage (s.page p) d)).signedOn w = true := fun k hk w hw => by
    obtain ⟨n, sl, hn, -, rfl⟩ := (mem_loweredStories s p d k).1 hk
    exact (signedOn_setPage s p _ w).trans (hon n sl w hn hw)
  obtain ⟨hstory, hframe⟩ := foldl_allowanceChanged (a := d) (w := st) (loweredStories (s.page p) d)
    (s.setPage p (lowerPage (s.page p) d)) ((loweredStories_sublist _ d).nodup (pageStories_nodup hp p)) (fun _ => allowanceOf_lowered hp) hholder
    (by show s.stations.outgoing.length + _ ≤ 256; omega) u hu
  have hupage : ∀ q, u.page q = (s.setPage p (lowerPage (s.page p) d)).page q := fun q => by
    rw [hframe]
    rfl
  have hup : u.page p = lowerPage (s.page p) d := (hupage p).trans (page_setPage_same s p _)
  have huslot : ∀ n, u.slotOf p n = (s.slotOf p n).map (lowerSlot d) := fun n => by
    rw [State.slotOf, hupage]
    exact slotOf_lowerPage s p d n
  have hocc : ∀ r, (s.page p).state = .queued r → anyOccupied (u.page p) = true := fun r hr =>
    (anyOccupied_congr fun n => by rw [huslot, Option.map_map]; rfl).trans (anyOccupied_of_queued hf hd hr)
  have htold := loweredTold_length s p d st
  rw [loweredTold_eq, ← hu]
  obtain ⟨hedit, htp, hstories, hmeasure⟩ := pageEdit_edited (n := none) (before := none) (st := st)
    (told := (loweredStories (s.page p) d).flatMap fun k => oversetTold s k d st) (by rw [hframe]; rfl)
    (fun q hq => (hupage q).trans (page_setPage_ne s _ hq)) (by rw [hup]; rfl) he hocc (by omega) rfl
  have htstory : ∀ k, ((u.edited p none none st).done).story k = u.story k := fun k =>
    congrArg (fun S => tableGet (fun _ => unusedStory) S k.val) hstories
  refine ⟨hedit, ?_, fun n => ?_, fun n sl hn hlt => ?_, fun k hk => ?_, ?_⟩
  · rw [htp, hup]
    rfl
  · rw [State.slotOf, htp]
    exact huslot n
  · rw [htstory, hstory, if_pos ((mem_loweredStories s p d _).2 ⟨n, sl, hn, hlt, rfl⟩)]
    rfl
  · rw [htstory, hstory, if_neg fun h => ?_]
    · rfl
    · obtain ⟨n, sl, hn, hlt, hkk⟩ := (mem_loweredStories s p d k).1 h
      exact hk n sl hn hlt hkk
  · rw [hmeasure, hframe]
    rfl

theorem geometryWritesRefuseInOrder : Parts.GeometryWritesRefuseInOrder := fun _ _ _ _ sz v hst =>
  ⟨refusedFor_of_exec (exec_columnWidthWrite hst sz v) (.planFirst .none),
    refusedFor_of_exec (exec_gutterWrite hst sz v) (.planFirst .none),
    refusedFor_of_exec (exec_columnDepthWrite hst sz v) (.planFirst .none)⟩

/-- Settles O42: new geometry stales or evaluates the stories it concerns, and the edit of the page follows. -/
theorem geometryWritesRefitThePage : Obligations.GeometryWritesRefitThePage :=
  ⟨geometryWritesStaleTheMeasure, columnDepthLowersAllowances, geometryWritesRefuseInOrder⟩

end Sys2Proof.Machine
end

section
/-! PROOFS. The timers of the waits expire: the font-wait timer ends the hold of the measure engine, and the hold-wait timer fails the
WAITING page (R95, R140, R146). -/

namespace Sys2Proof.Machine

open Safety

variable {s : State} {e : Queued} {r : Resting}

/-! ## The failure of a WAITING page -/

/-- The PAGE-FAILED notice of a failure (R146). -/
def State.failedTold (s : State) (e : Queued) (f : Failing) : Outgoing :=
  { recipient := .system, notice := s.failedNotice e f }

/-- The only page queued fails while WAITING, whatever the failure names. -/
theorem waitingFails_failing (f : Failing) (hst : (s.page e.page).state = .waiting r) (hq : s.dispatch.queue = [e])
    (he : s.dispatch.engine = .waiting) (hroom : s.stations.outgoing.length < 256) :
    waitingFails e r f.cause (s.failedTold e f) s (s.fail e f) := by
  rw [fail_waiting _ hst hq he, failRecord_eq s e _ hroom]
  simp only [hst, hq, isWaiting, restingOf, Bool.true_or, if_true]
  refine ⟨⟨rfl, page_setPage_same s e.page _, fun q hq => page_setPage_ne s _ hq, fun j => ?_, fun _ => rfl⟩, rfl, ?_⟩
  · refine (markClosing_story s e.page false j).trans ?_
    by_cases hj : j ∈ s.pageStories e.page <;> simp [hj]
  · simp [State.setDispatchEngine, noneWanted]

/-! ## The hold-wait timer (R140) -/

/-- A search over the occupied slots that asks for a condition finds the lowest slot that meets it. -/
theorem find?_occupied {p : Page} {f : SlotId × Slot → Bool} {n : SlotId} {sl : Slot} (hn : p.slots[n.val] = some sl)
    (hf : f (n, sl) = true) (hlt : ∀ (m : SlotId) (sm : Slot), m < n → p.slots[m.val] = some sm → f (m, sm) = false) :
    (occupied p).find? f = some (n, sl) := by
  rw [← List.findSome?_guard]
  exact findSome?_occupied hn (by simp [Option.guard, hf]) fun m sm hm hsm => by simp [Option.guard, hlt m sm hm hsm]

theorem find?_occupied_none {p : Page} {f : SlotId × Slot → Bool}
    (h : ∀ (m : SlotId) (sm : Slot), p.slots[m.val] = some sm → f (m, sm) = false) : (occupied p).find? f = none :=
  List.find?_eq_none.2 fun ⟨m, sm⟩ hmem => by simp [h m sm ((mem_occupied p m sm).1 hmem)]

/-- The lowest slot whose story is held is named with HELD. -/
theorem expiryFailure_held {p : PageId} {m : SlotId} {sl : Slot} (hm : s.slotOf p m = some sl)
    (hheld : (s.story sl.story).holder ≠ none)
    (hlt : ∀ j sj, j < m → s.slotOf p j = some sj → (s.story sj.story).holder = none) :
    s.expiryFailure p = evaluationFailure .held m sl.story := by
  rw [State.expiryFailure, find?_occupied hm (Option.isSome_iff_ne_none.2 hheld) fun j sj hj hsj => by simp [hlt j sj hj hsj]]
  rfl

/-- Whether a slot's story has its depth still to come, so that TIMEOUT may name it (R140). -/
def State.unmeasured (s : State) (e : SlotId × Slot) : Bool :=
  (s.story e.2.story).depth.status == .stale || (s.story e.2.story).depth.status == .measuring

theorem unmeasured_iff (s : State) (e : SlotId × Slot) : s.unmeasured e = true ↔
    (s.story e.2.story).depth.status = .stale ∨ (s.story e.2.story).depth.status = .measuring := by
  simp [State.unmeasured]

/-- With no story held the cause is TIMEOUT. -/
theorem expiryFailure_timeout {p : PageId} (hfree : ∀ j sj, s.slotOf p j = some sj → (s.story sj.story).holder = none) :
    s.expiryFailure p = { cause := .timeout, station := none, named :=
      ((occupied (s.page p)).find? s.unmeasured).map fun e => (e.1, e.2.story) } := by
  rw [State.expiryFailure, find?_occupied_none fun m sm hm => by simp [hfree m sm hm]]
  rfl

theorem exec_holdWaitExpiry (ht : s.dispatch.holdWaitTimer ≠ none) (hq : s.dispatch.queue = [e])
    (hst : (s.page e.page).state = .waiting r) :
    exec .holdWaitExpiry s = .next (s.fail e (s.expiryFailure e.page)) := by
  obtain ⟨n, hn⟩ := Option.ne_none_iff_exists'.1 ht
  show Host.Outcome.next s.holdWaitExpiry = _
  simp only [State.holdWaitExpiry, hn, State.waitingHead, hq, hst, isWaiting, if_true]

/-- Settles O49: each expiry does its one thing, and a stopped timer's nothing. -/
theorem waitTimersExpire : Obligations.WaitTimersExpire := by
  intro s
  refine ⟨fun ht => ?_, fun ht => ?_, fun ht => ?_, fun e r ht hq hst he hroom => ?_⟩
  · show Host.Outcome.next s.fontWaitExpiry = _
    rw [State.fontWaitExpiry, ht]
  · obtain ⟨n, hn⟩ := Option.ne_none_iff_exists'.1 ht
    show Host.Outcome.next s.fontWaitExpiry = _
    rw [State.fontWaitExpiry, hn]
    rfl
  · show Host.Outcome.next s.holdWaitExpiry = _
    rw [State.holdWaitExpiry, ht]
  · have hfails := waitingFails_failing (s.expiryFailure e.page) hst hq he hroom
    rw [exec_holdWaitExpiry ht hq hst]
    refine ⟨fun m sl hm hheld hlt => ⟨_, rfl, ?_⟩, fun hfree => ⟨fun m sl hm hslow hlt => ⟨_, rfl, ?_⟩, fun hdone => ⟨_, rfl, ?_⟩⟩⟩
    · rw [expiryFailure_held hm hheld hlt] at hfails ⊢
      exact hfails
    · have hfirst : (occupied (s.page e.page)).find? s.unmeasured = some (m, sl) :=
        find?_occupied hm ((unmeasured_iff s (m, sl)).2 hslow) fun j sj hj hsj =>
          Bool.eq_false_iff.2 fun h => ((unmeasured_iff s (j, sj)).1 h).elim (hlt j sj hj hsj).1 (hlt j sj hj hsj).2
      rw [expiryFailure_timeout hfree, hfirst] at hfails ⊢
      exact hfails
    · have hnone : (occupied (s.page e.page)).find? s.unmeasured = none :=
        find?_occupied_none fun j sj hsj =>
          Bool.eq_false_iff.2 fun h => ((unmeasured_iff s (j, sj)).1 h).elim (hdone j sj hsj).1 (hdone j sj hsj).2
      rw [expiryFailure_timeout hfree, hnone] at hfails ⊢
      exact hfails

end Sys2Proof.Machine
end

section
/-! PROOFS. The strap, the timebase, the queue of commands and the font store through the shared operations, the measure engine and the
dispatch engine: `anchored` gathers them, and one equation per operation says that the operation leaves them (R94, R106, R165). -/

namespace Sys2Proof.Machine

variable {s t : State}

/-- What only POWER_ON, TIMEBASE_TICK and font writes change. -/
def anchored (s : State) := (s.strap, s.timebase, s.pending, s.measure.fonts)

theorem anchored_of_butStories (h : butStories t = butStories s) : anchored t = anchored s := by
  simp only [butStories, Prod.mk.injEq] at h
  simp [anchored, h]

theorem anchored_of_butStations (h : butStations t = butStations s) : anchored t = anchored s :=
  anchored_of_butStories (butStories_of_butStations h)

theorem anchored_foldl {α : Type} {f : State → α → State} (h : ∀ t a, anchored (f t a) = anchored t) (l : List α) (s : State) :
    anchored (l.foldl f s) = anchored s := foldl_keeps anchored f h l s

theorem anchored_testing {st : Station} {ts : List (Bool × Reason)} (h : anchored t = anchored s) :
    anchored (testing st ts s t) = anchored s := by
  rcases testing_cases st ts s t with ⟨ht, -⟩ | ⟨c, -, -, ht⟩ <;> rw [ht]
  · exact h
  · cases st <;> rfl

section Updates

variable (s : State) (k : StoryId) (p : PageId) (st : Station)

/-! ## Updates of records -/

@[simp] theorem anchored_answer (a : Answer) (d : Option Data) : anchored (s.answer a d) = anchored s := rfl
@[simp] theorem anchored_done : anchored s.done = anchored s := rfl
@[simp] theorem anchored_doneRead (d : Data) : anchored (s.doneRead d) = anchored s := rfl
@[simp] theorem anchored_refuseUnknown : anchored s.refuseUnknown = anchored s := rfl
@[simp] theorem anchored_setPage (v : Page) : anchored (s.setPage p v) = anchored s := rfl
@[simp] theorem anchored_setPageState (x : PageState) : anchored (s.setPageState p x) = anchored s := rfl
@[simp] theorem anchored_putSlot (n : SlotId) (v : Option Slot) : anchored (s.putSlot p n v) = anchored s := rfl
@[simp] theorem anchored_setQueue (q : List StoryId) : anchored (s.setQueue q) = anchored s := rfl
@[simp] theorem anchored_setEngine (e : Engine) : anchored (s.setEngine e) = anchored s := rfl
@[simp] theorem anchored_setLink (l : Link) : anchored (s.setLink l) = anchored s := rfl
@[simp] theorem anchored_setDispatchEngine (e : DispatchEngine) : anchored (s.setDispatchEngine e) = anchored s := rfl
@[simp] theorem anchored_setSend (x : SendState) : anchored (s.setSend x) = anchored s := rfl
@[simp] theorem anchored_setHoldTimer (x : Option Nat) : anchored (s.setHoldTimer x) = anchored s := rfl
@[simp] theorem anchored_handOver (f : Frame) : anchored (s.handOver f) = anchored s := rfl
@[simp] theorem anchored_leaveQueue : anchored (s.leaveQueue p) = anchored s := rfl
@[simp] theorem anchored_promote : anchored (s.promote p) = anchored s := rfl
@[simp] theorem anchored_setTerminal (u : TerminalId) (v : Terminal) : anchored (s.setTerminal u v) = anchored s := rfl
@[simp] theorem anchored_refreshLines : anchored s.refreshLines = anchored s := rfl
@[simp] theorem anchored_discardNotices : anchored (s.discardNotices st) = anchored s := rfl
@[simp] theorem anchored_setRingWrite (w : Option RingWrite) : anchored (s.setRingWrite w) = anchored s := rfl
@[simp] theorem anchored_dropHead : anchored s.dropHead = anchored s := rfl
@[simp] theorem anchored_setStory (v : Story) : anchored (s.setStory k v) = anchored s := rfl
@[simp] theorem anchored_setBasket (b : BasketId) (v : Basket) : anchored (s.setBasket b v) = anchored s := rfl
@[simp] theorem anchored_setStatus (x : DepthStatus) : anchored (s.setStatus k x) = anchored s := rfl
@[simp] theorem anchored_freeze : anchored (s.freeze k) = anchored s := rfl
@[simp] theorem anchored_postDepth (r : Breaker) : anchored (s.postDepth k r) = anchored s := rfl
@[simp] theorem anchored_placeIn (n : SlotId) : anchored (s.placeIn k p n) = anchored s := rfl
@[simp] theorem anchored_endFontWait : anchored s.endFontWait = anchored s := rfl

@[simp] theorem anchored_refuse (r : Reason) : anchored (s.refuse st r) = anchored s := by cases st <;> rfl

/-! ## Stations and stories -/

@[simp] theorem anchored_setRing (r : Ring) : anchored (s.setRing st r) = anchored s := by cases st <;> rfl

@[simp] theorem anchored_setOverrun : anchored (s.setOverrun st) = anchored s := anchored_setRing s st _

@[simp] theorem anchored_advanceRing : anchored (s.advanceRing st) = anchored s := anchored_setRing s st _

@[simp] theorem anchored_raise (n : Notice) : anchored (s.raise st n) = anchored s :=
  anchored_of_butStations (butStations_raise s st n)

@[simp] theorem anchored_raiseAll (ns : List Outgoing) : anchored (s.raiseAll ns) = anchored s :=
  anchored_of_butStations (butStations_raiseAll s ns)

@[simp] theorem anchored_noteContested (off n : Nat) : anchored (s.noteContested st off n) = anchored s :=
  anchored_of_butStations (butStations_noteContested s st off n)

@[simp] theorem anchored_setReadIndex (v : Word) : anchored (s.setReadIndex st v) = anchored s :=
  anchored_of_butStations (butStations_setReadIndex s st v)

@[simp] theorem anchored_markClosing (b : Bool) : anchored (s.markClosing p b) = anchored s :=
  anchored_of_butStories (butStories_markClosing s p b)

@[simp] theorem anchored_gainHold : anchored (s.gainHold k st) = anchored s := anchored_of_butStories (butStories_gainHold s k st)

@[simp] theorem anchored_loseHold : anchored (s.loseHold k) = anchored s := anchored_of_butStories (butStories_loseHold s k)

@[simp] theorem anchored_dropViewer (u : TerminalId) : anchored (s.dropViewer k u) = anchored s := rfl

@[simp] theorem anchored_dropViewerOf : anchored (s.dropViewerOf k st) = anchored s := by cases st <;> rfl

@[simp] theorem anchored_viewBy : anchored (s.viewBy st k) = anchored s := anchored_of_butStories (butStories_viewBy s st k)

@[simp] theorem anchored_markViewers : anchored (s.markViewers k st) = anchored s :=
  anchored_of_butStories (butStories_markViewers s k st)

@[simp] theorem anchored_unfreeze : anchored (s.unfreeze k) = anchored s := anchored_of_butStories (butStories_unfreeze s k)

@[simp] theorem anchored_unplace : anchored (s.unplace k) = anchored s := anchored_unfreeze s k

@[simp] theorem anchored_evaluateOverset (c : Option Station) : anchored (s.evaluateOverset k c) = anchored s :=
  anchored_of_butStories (butStories_evaluateOverset s k c)

@[simp] theorem anchored_allowanceChanged : anchored (s.allowanceChanged k st) = anchored s :=
  anchored_of_butStories (butStories_allowanceChanged s k st)

@[simp] theorem anchored_file (b : BasketId) (x : Priority) : anchored (s.file k b x) = anchored s := rfl

@[simp] theorem anchored_unfile : anchored (s.unfile k) = anchored s := by
  unfold State.unfile
  split <;> rfl

@[simp] theorem anchored_raiseArrivals (b : BasketId) (old : Option BasketId) :
    anchored (s.raiseArrivals k b old st) = anchored s := anchored_raiseAll s _

/-! ## Memory -/

@[simp] theorem anchored_storeFaulted (a n : Nat) : anchored (s.storeFaulted a n) = anchored s := rfl

@[simp] theorem anchored_plainStore (a n : Nat) (data : Data) (f : Bool) : anchored (s.plainStore a n data f) = anchored s := by
  unfold State.plainStore
  split <;> rfl

@[simp] theorem anchored_plainAnswer (f : Bool) : anchored (s.plainAnswer st f) = anchored s := by
  unfold State.plainAnswer
  split <;> simp

@[simp] theorem anchored_ringWriteStored (w : RingWrite) (f : Bool) : anchored (s.ringWriteStored w f) = anchored s := by
  cases f with
  | true => exact anchored_storeFaulted s _ _
  | false =>
    generalize hb : s.ringWriteBytes w = bs
    simp only [State.ringWriteStored, hb, Bool.false_eq_true, if_false]
    rfl

@[simp] theorem anchored_ringWriteComplete (f : Bool) : anchored (s.ringWriteComplete f) = anchored s := by
  unfold State.ringWriteComplete
  split
  · rfl
  · split
    · simp
    · split <;> simp

/-! ## Measuring -/

@[simp] theorem anchored_leaveMeasuring : anchored s.leaveMeasuring = anchored s := by
  unfold State.leaveMeasuring
  split <;> rfl

@[simp] theorem anchored_abandonPass : anchored (s.abandonPass k) = anchored s := by
  unfold State.abandonPass
  split <;> simp

@[simp] theorem anchored_queueStale : anchored (s.queueStale k) = anchored s := rfl

@[simp] theorem anchored_stale : anchored (s.stale k) = anchored s := by
  unfold State.stale
  split <;> simp

@[simp] theorem anchored_staleAll (ks : List StoryId) : anchored (s.staleAll ks) = anchored s := anchored_foldl anchored_stale ks s

@[simp] theorem anchored_takePass : anchored s.takePass = anchored s := by
  unfold State.takePass
  split
  · simp
  · rfl

@[simp] theorem anchored_measureBlock : anchored s.measureBlock = anchored s := by
  unfold State.measureBlock
  split
  · split <;> simp
  · rfl

@[simp] theorem anchored_fontWaitExpiry : anchored s.fontWaitExpiry = anchored s := by
  unfold State.fontWaitExpiry
  split <;> rfl

@[simp] theorem anchored_releaseHeld : anchored s.releaseHeld = anchored s := by
  unfold State.releaseHeld
  split <;> rfl

/-! ## The dispatch engine -/

@[simp] theorem anchored_pumpText (x : SendState) : anchored (s.pumpText x) = anchored s := by
  unfold State.pumpText
  split
  · rfl
  · split
    · split <;> rfl
    · rfl

@[simp] theorem anchored_handSlot (x : SendState) (n : SlotId) : anchored (s.handSlot p x n) = anchored s := by
  unfold State.handSlot
  split <;> rfl

@[simp] theorem anchored_completePage (e : Queued) : anchored (s.completePage e) = anchored s := by
  simp [State.completePage, anchored_foldl anchored_freeze]

@[simp] theorem anchored_failRecord (e : Queued) (f : Failing) : anchored (s.failRecord e f) = anchored s := by
  simp only [State.failRecord, anchored_leaveQueue, anchored_raise, anchored_setPage]
  split <;> split <;> simp

@[simp] theorem anchored_failEngine (a b : Bool) : anchored (s.failEngine p a b) = anchored s := by
  unfold State.failEngine
  split
  · rfl
  · split <;> rfl

@[simp] theorem anchored_failPage (e : Queued) (f : Failing) : anchored (s.failPage e f) = anchored s := by
  simp [State.failPage]

@[simp] theorem anchored_wantHold (e : Queued) (ns : SlotId × Slot) : anchored (s.wantHold e ns) = anchored s := by
  unfold State.wantHold
  split
  · split
    · rfl
    · exact anchored_raise _ _ _
  · rfl

@[simp] theorem anchored_enterWaiting (e : Queued) : anchored (s.enterWaiting e) = anchored s := by
  unfold State.enterWaiting
  dsimp only
  rw [anchored_foldl fun t ns => anchored_wantHold t e ns]
  simp

@[simp] theorem anchored_enterSending (e : Queued) : anchored (s.enterSending e) = anchored s := by
  unfold State.enterSending
  split <;> rfl

@[simp] theorem anchored_advanceUpTo (n : Nat) (s : State) : anchored (State.advanceUpTo n s) = anchored s := by
  induction n generalizing s with
  | zero => rfl
  | succ n ih =>
    unfold State.advanceUpTo
    split
    · split
      · dsimp only
        split
        · rw [ih]; simp
        · simp
        · simp
      · rfl
    · rfl

@[simp] theorem anchored_advance : anchored s.advance = anchored s := anchored_advanceUpTo _ s

@[simp] theorem anchored_fail (e : Queued) (f : Failing) : anchored (s.fail e f) = anchored s := by simp [State.fail]

@[simp] theorem anchored_evaluate : anchored s.evaluate = anchored s := by
  unfold State.evaluate
  split
  · split <;> simp
  · rfl

@[simp] theorem anchored_handEvent : anchored (s.handEvent k) = anchored s := by
  unfold State.handEvent
  split <;> simp

@[simp] theorem anchored_complete (e : Queued) : anchored (s.complete e) = anchored s := by simp [State.complete]

@[simp] theorem anchored_nextFrame : anchored s.nextFrame = anchored s := by
  unfold State.nextFrame
  split
  · split
    · simp
    · simp
    · simp
    · split <;> simp
    · simp
  · rfl

@[simp] theorem anchored_failSend (c : Cause) : anchored (s.failSend c) = anchored s := by
  unfold State.failSend
  split <;> simp

@[simp] theorem anchored_abortEnd : anchored s.abortEnd = anchored s := by
  unfold State.abortEnd
  split <;> simp

@[simp] theorem anchored_returnToQueued : anchored s.returnToQueued = anchored s := by
  unfold State.returnToQueued
  split <;> simp

@[simp] theorem anchored_linkLost : anchored s.linkLost = anchored s := by
  unfold State.linkLost
  split <;> simp

@[simp] theorem anchored_holdWaitExpiry : anchored s.holdWaitExpiry = anchored s := by
  unfold State.holdWaitExpiry
  split <;> simp

@[simp] theorem anchored_sendTextRead (f : Bool) : anchored (s.sendTextRead f) = anchored s := by
  unfold State.sendTextRead
  split
  · split
    · rfl
    · split
      · split
        · simp
        · dsimp only
          split <;> simp
      · rfl
  · rfl

@[simp] theorem anchored_cancelPage : anchored (s.cancelPage p st) = anchored s := by
  unfold State.cancelPage
  split <;> simp

@[simp] theorem anchored_queuePage (r : Resting) : anchored (s.queuePage p r) = anchored s := anchored_advance _

/-! ## The end of a pass, and of a hold -/

@[simp] theorem anchored_completePass : anchored s.completePass = anchored s := by
  unfold State.completePass
  split <;> simp

@[simp] theorem anchored_faultPass : anchored s.faultPass = anchored s := by
  unfold State.faultPass
  split <;> simp

@[simp] theorem anchored_releaseHold : anchored (s.releaseHold k) = anchored s := by simp [State.releaseHold]

@[simp] theorem anchored_endHoldByRoute : anchored (s.endHoldByRoute st k) = anchored s := by
  unfold State.endHoldByRoute
  split <;> simp

@[simp] theorem anchored_forgetMeasure : anchored (s.forgetMeasure k) = anchored s := anchored_abandonPass s k

end Updates

end Sys2Proof.Machine
end

section
/-! PROOFS. The strap, the timebase, the queue of commands and the font store over every command (R94, R106, R165). -/

namespace Sys2Proof.Machine

open Safety

variable {s t : State}

section Operations

variable (s : State) (k : StoryId) (p : PageId) (st : Station)

/-! ## The link -/

@[simp] theorem anchored_leaveUp (b : Bool) : anchored (s.leaveUp b) = anchored s := by simp [State.leaveUp, State.raiseLink]

@[simp] theorem anchored_presentHigh : anchored s.presentHigh = anchored s := by
  unfold State.presentHigh
  dsimp only
  split <;> rfl

@[simp] theorem anchored_presentLow : anchored s.presentLow = anchored s := by
  unfold State.presentLow
  dsimp only
  split <;> simp

@[simp] theorem anchored_trainingExpiry : anchored s.trainingExpiry = anchored s := by
  unfold State.trainingExpiry
  split <;> rfl

@[simp] theorem anchored_takeAbility (m l : Byte) : anchored (s.takeAbility m l) = anchored s := by
  unfold State.takeAbility
  split
  · rfl
  · simp [State.trained, State.raiseLink]
  · unfold State.retrained
    dsimp only
    split <;> simp

@[simp] theorem anchored_failedTry (o : Outstanding) : anchored (s.failedTry o) = anchored s := by
  unfold State.failedTry
  split <;> simp

@[simp] theorem anchored_settled : anchored s.settled = anchored s := rfl

@[simp] theorem anchored_waitSet : anchored s.waitSet = anchored s := rfl

@[simp] theorem anchored_frameDone (f : Frame) : anchored (s.frameDone f) = anchored s := by
  unfold State.frameDone
  split <;> simp

@[simp] theorem anchored_frameEnded (f : Frame) (c : Cause) : anchored (s.frameEnded f c) = anchored s := by
  unfold State.frameEnded
  split <;> simp

@[simp] theorem anchored_takeAck : anchored s.takeAck = anchored s := by
  unfold State.takeAck
  split <;> simp

@[simp] theorem anchored_takeWait : anchored s.takeWait = anchored s := by
  unfold State.takeWait
  split <;> simp

@[simp] theorem anchored_takeNak (r : NakReason) : anchored (s.takeNak r) = anchored s := by
  unfold State.takeNak
  split
  · split
    · simp
    · split <;> simp
    · simp
  · rfl

@[simp] theorem anchored_takeReady : anchored s.takeReady = anchored s := by
  unfold State.takeReady
  split
  · split <;> rfl
  · rfl

@[simp] theorem anchored_waitExpiry : anchored s.waitExpiry = anchored s := by
  unfold State.waitExpiry
  split <;> simp

@[simp] theorem anchored_replyExpiry : anchored s.replyExpiry = anchored s := by
  unfold State.replyExpiry
  split <;> simp

@[simp] theorem anchored_tryEnd : anchored s.tryEnd = anchored s := by
  unfold State.tryEnd
  split <;> rfl

@[simp] theorem anchored_abilityEnd : anchored s.abilityEnd = anchored s := by
  unfold State.abilityEnd
  split <;> rfl

@[simp] theorem anchored_gapExpiry : anchored s.gapExpiry = anchored s := by
  unfold State.gapExpiry
  split <;> rfl

@[simp] theorem anchored_takeIncoming (f : Incoming) : anchored (s.takeIncoming f) = anchored s := by
  cases f <;> simp [State.takeIncoming]

@[simp] theorem anchored_frameArrives (f : Incoming) : anchored (s.frameArrives f) = anchored s := by
  unfold State.frameArrives
  split <;> simp

@[simp] theorem anchored_byteArrives (b : Byte) : anchored (s.byteArrives b) = anchored s := by
  unfold State.byteArrives
  split
  · rfl
  · split <;> rfl
  · unfold State.byteWithin
    split
    · rfl
    · split
      · split <;> simp
      · rfl

/-! ## Edits of a plan -/

@[simp] theorem anchored_edited (n : Option SlotId) (before : Option StoryId) :
    anchored (s.edited p n before st) = anchored s := by
  unfold State.edited
  dsimp only
  split
  · split <;> simp
  · split <;> simp
  · rfl

@[simp] theorem anchored_regeometry (new : Page) : anchored (s.regeometry st p new) = anchored s := by
  unfold State.regeometry
  split <;> simp

variable (sz : Size) (v : Word) (n : SlotId)

theorem anchored_writeColumnDepth : anchored (s.writeColumnDepth st p sz v) = anchored s := by
  refine anchored_testing ?_
  dsimp only
  split
  · rfl
  · simp [anchored_foldl fun (u : State) (k : StoryId) => anchored_allowanceChanged u k st]

theorem anchored_writeStory : anchored (s.writeStory st p n sz v) = anchored s := by
  refine anchored_testing ?_
  split
  · unfold State.removeRequest
    split <;> simp [State.removeTaken]
  · split
    · unfold State.placeRequest
      split
      · rfl
      · refine anchored_testing ?_
        split <;> simp [State.placeTaken, State.replaceTaken]
    · simp

theorem anchored_writeSpan : anchored (s.writeSpan st p n sz v) = anchored s := by
  refine anchored_testing ?_
  split
  · simp
  · dsimp only
    split <;> simp

theorem anchored_writeAllowance : anchored (s.writeAllowance st p n sz v) = anchored s := by
  refine anchored_testing ?_
  split
  · simp
  · dsimp only
    split <;> simp

theorem anchored_writePolicy : anchored (s.writePolicy st p n sz v) = anchored s := by
  refine anchored_testing ?_
  split
  · simp
  · split
    · simp
    · split <;> simp

theorem anchored_writeCommand : anchored (s.writeCommand st p sz v) = anchored s := by
  refine anchored_testing ?_
  split
  · unfold State.dispatchRequest
    split <;> simp
  · split
    · unfold State.cancelRequest
      split <;> simp
    · simp

/-! ## Holds, routes and stations -/

theorem anchored_writeHold : anchored (s.writeHold st k sz v) = anchored s := by
  refine anchored_testing ?_
  split
  · unfold State.claimRequest
    split
    · exact anchored_testing (by simp [State.createByClaim])
    · refine anchored_testing ?_
      split
      · simp
      · exact anchored_testing (by simp [State.grantClaim])
  · split
    · unfold State.releaseRequest
      split <;> simp
    · split
      · refine anchored_testing ?_
        split <;> simp [State.breakTaken]
      · simp

theorem anchored_writeState : anchored (s.writeState st k sz v) = anchored s := by
  have hpage : ∀ t : State, anchored (t.reopenPage k) = anchored t := fun t => by
    unfold State.reopenPage
    split
    · split <;> simp
    · rfl
  refine anchored_testing ?_
  split <;> simp [hpage]

theorem anchored_writeRoute (q : RouteRequest) : anchored (s.writeRoute st k sz q) = anchored s := by
  refine anchored_testing ?_
  unfold State.routeRequest
  split
  · simp
  · exact anchored_testing (by simp [State.purgeTaken, State.raiseGone])
  · split
    · simp
    · exact anchored_testing (by simp)
  · split
    · exact anchored_testing (by simp [State.createByRoute])
    · refine anchored_testing ?_
      unfold State.routeIn
      split
      · split <;> simp
      · simp

theorem anchored_signOffTaken (u : TerminalId) : anchored (s.signOffTaken u) = anchored s := by
  have hviews : ∀ t : State, anchored (t.dropViews u) = anchored t := fun t =>
    anchored_foldl (fun v k => anchored_dropViewer v k u) _ t
  have hholds : anchored (s.releaseAll (.terminal u)) = anchored s := anchored_foldl anchored_releaseHold _ s
  simp [State.signOffTaken, hviews, hholds]

theorem anchored_writeControl (owner : Station) : anchored (s.writeControl st owner sz v) = anchored s := by
  have hsign : ∀ u b, anchored (s.signTaken u b) = anchored s := fun u b => by
    unfold State.signTaken
    split
    · rfl
    · split
      · rfl
      · exact anchored_signOffTaken s u
  refine anchored_testing ?_
  split
  · simp
  · split
    · exact hsign _ _
    · split
      · exact hsign _ _
      · simp

theorem anchored_writeRights (owner : Station) : anchored (s.writeRights st owner sz v) = anchored s := by
  refine anchored_testing ?_
  split
  · simp
  · split <;> simp

theorem anchored_busReset : anchored s.busReset = anchored s := by
  have hunit : ∀ (t : State) (v : StationUnit), anchored { t with stations := v } = anchored t := fun _ _ => rfl
  have hterminals : anchored (allTerminals.foldl State.resetTerminal s) = anchored s :=
    anchored_foldl (fun t u => anchored_setTerminal t u _) _ s
  have hstations : anchored s.resetStations = anchored s := (hunit _ _).trans ((anchored_setRing _ _ _).trans hterminals)
  have hviews : ∀ t : State, anchored t.emptyAllViewers = anchored t := fun t =>
    anchored_foldl (fun u k => anchored_setStory u k _) _ t
  have hfont : ∀ t : State, anchored t.resetFontWait = anchored t := fun _ => rfl
  have hholds : ∀ t : State, anchored t.releaseEvery = anchored t := fun t => anchored_foldl anchored_releaseHold _ t
  simp [State.busReset, hstations, hviews, hfont, hholds]

theorem anchored_writeStandard : anchored (s.writeStandard st sz v) = anchored s := by
  refine anchored_testing ?_
  dsimp only
  split
  · rfl
  · exact anchored_staleAll _ _

/-! ## Reads, and writes of plain words -/

theorem anchored_readText (pos : Nat) (f : Bool) : anchored (s.readText st k pos sz f) = anchored s := by
  unfold State.readText
  split <;> simp

theorem anchored_readWords (off : Nat) (f : Bool) : anchored (s.readWords st off sz f) = anchored s := by
  have hlatch : anchored (s.clearLatch st off sz) = anchored s := by
    unfold State.clearLatch
    split <;> rfl
  have hfree : ∀ t : State, anchored (t.readFree off sz) = anchored t := fun t => by
    unfold State.readFree
    split <;> rfl
  unfold State.readWords
  dsimp only
  split
  · simp [hlatch]
  · simp [hlatch, hfree]

theorem anchored_readWindow (off : Nat) (f : Bool) : anchored (s.readWindow st off sz f) = anchored s := by
  unfold State.readWindow
  split
  · exact anchored_readText s _ st sz _ f
  · exact anchored_readWords s st sz off f

theorem anchored_outside (w : Bool) (a : Nat) (data : Data) (f : Bool) : anchored (s.outside w a sz data f) = anchored s := by
  unfold State.outside
  split <;> split <;> simp

theorem anchored_writeText (pos : Nat) (data : Data) (f : Bool) : anchored (s.writeText st k pos sz data f) = anchored s :=
  anchored_testing (by simp [State.textAdmitted])

theorem anchored_writeHeaderPlain (off : Nat) (data : Data) (f : Bool) :
    anchored (s.writeHeaderPlain st k off sz data f) = anchored s := anchored_testing (by simp)

theorem anchored_writeRing (owner : Station) (off : Nat) (data : Data) (f : Bool) :
    anchored (s.writeRing st owner off sz data f) = anchored s := anchored_testing (by simp)

theorem anchored_writePlain (a : Nat) (data : Data) (f : Bool) : anchored (s.writePlain st a sz data f) = anchored s := by
  simp [State.writePlain]

end Operations

/-! ## Font writes (R94) -/

/-- Whether fonts may not change: a send or a pass is in progress (R94). -/
def FontsFixed (s : State) : Prop := s.sendingHead.isSome = true ∨ ∃ p, s.measure.engine = .measuring p

/-- The strap, the timebase and the commands still waiting are the same, and so are fonts during a pass or a send. -/
structure Fixed (s t : State) : Prop where
  strap : t.strap = s.strap
  timebase : t.timebase = s.timebase
  pending : t.pending = s.pending
  fonts : FontsFixed s → t.measure.fonts = s.measure.fonts

theorem Fixed.of_anchored (h : anchored t = anchored s) : Fixed s t := by
  simp only [anchored, Prod.mk.injEq] at h
  obtain ⟨hstrap, htime, hpending, hfonts⟩ := h
  exact ⟨hstrap, htime, hpending, fun _ => hfonts⟩

theorem measuring_iff (s : State) : s.measuring = true ↔ ∃ p, s.measure.engine = .measuring p := by
  cases h : s.measure.engine <;> simp [State.measuring, h]

/-- A font write is refused during a send and answered RETRY during a pass, so it sets fonts only outside both (R67, R94). -/
theorem fixed_writeFont (s : State) (st : Station) (f : FontId) (sz : Size) (w : FontWrite) :
    Fixed s (s.writeFont st f sz w) := by
  rcases testing_cases st [(fontBadSize sz w, .badSize), (isTerminal st, .noRight)] s _ with ⟨ht, -⟩ | ⟨c, -, -, ht⟩ <;>
    rw [State.writeFont, ht]
  · by_cases hsend : s.sendingHead.isSome = true
    · rw [if_pos hsend]
      exact .of_anchored (by simp)
    · by_cases hpass : s.measuring = true
      · rw [if_neg hsend, if_pos hpass]
        exact .of_anchored rfl
      · rw [if_neg hsend, if_neg hpass]
        have hset : anchored (s.releaseHeld.fontTaken f sz w) =
            anchored (s.releaseHeld.setFont f (fontAfter (s.releaseHeld.font f) sz w)) := anchored_staleAll _ _
        have hheld := anchored_releaseHeld s
        simp only [anchored, Prod.mk.injEq] at hset hheld
        obtain ⟨hstrap, htime, hpending, -⟩ := hset
        obtain ⟨hstrap', htime', hpending', -⟩ := hheld
        exact ⟨hstrap.trans hstrap', htime.trans htime', hpending.trans hpending', fun hfixed =>
          (hfixed.elim hsend fun hp => hpass ((measuring_iff s).2 hp)).elim⟩
  · exact .of_anchored (anchored_refuse s st c.2)

/-! ## Every command -/

theorem fixed_writeLive (s : State) (st : Station) (sz : Size) (v : Word) (w : LiveWord) : Fixed s (s.writeLive st sz v w) := by
  cases w with
  | hold k => exact .of_anchored (anchored_writeHold s k st sz v)
  | route k => exact .of_anchored (anchored_writeRoute s k st sz _)
  | state k => exact .of_anchored (anchored_writeState s k st sz v)
  | slotStory p n => exact .of_anchored (anchored_writeStory s p st sz v n)
  | control o => exact .of_anchored (anchored_writeControl s st sz v o)
  | rights o => exact .of_anchored (anchored_writeRights s st sz v o)
  | readIndex o => exact .of_anchored (anchored_testing (anchored_setReadIndex s o v))
  | limit b => exact .of_anchored (anchored_testing rfl)
  | watchers b k => exact .of_anchored (anchored_testing rfl)
  | columnWidth p => exact .of_anchored (anchored_testing (anchored_regeometry s p st _))
  | gutter p => exact .of_anchored (anchored_testing (anchored_regeometry s p st _))
  | columnDepth p => exact .of_anchored (anchored_writeColumnDepth s p st sz v)
  | pageCommand p => exact .of_anchored (anchored_writeCommand s p st sz v)
  | span p n => exact .of_anchored (anchored_writeSpan s p st sz v n)
  | allowance p n => exact .of_anchored (anchored_writeAllowance s p st sz v n)
  | policy p n => exact .of_anchored (anchored_writePolicy s p st sz v n)
  | fontSize f => exact fixed_writeFont s st f sz _
  | fontLeading f => exact fixed_writeFont s st f sz _
  | widths f c => exact fixed_writeFont s st f sz _
  | edition => exact .of_anchored (anchored_testing rfl)
  | standardMeasure => exact .of_anchored (anchored_writeStandard s st sz v)
  | holdWait => exact .of_anchored (anchored_testing rfl)
  | attentionEnable => exact .of_anchored (anchored_testing rfl)
  | _ => exact .of_anchored (anchored_testing (anchored_refuse s st _))

theorem fixed_writeWindow (s : State) (st : Station) (off : Nat) (sz : Size) (data : Data) (f : Bool) :
    Fixed s (s.writeWindow st off sz data f) := by
  unfold State.writeWindow
  split
  · exact .of_anchored (anchored_refuse s st _)
  · split
    · exact .of_anchored (anchored_writeText s _ st sz _ data f)
    · exact .of_anchored (anchored_writeHeaderPlain s _ st sz _ data f)
    · exact .of_anchored (anchored_writeRing s st sz _ _ data f)
    · exact .of_anchored (anchored_writePlain s st sz _ data f)
    · exact fixed_writeLive s st sz _ _

theorem Fixed.asStation {code : StationCode} {op : Station → State} (h : ∀ st, Fixed s (op st)) :
    Fixed s (asStation code s op) := by
  unfold Machine.asStation
  split
  · exact h _
  · exact .of_anchored rfl

theorem fixed_access (s : State) (code : StationCode) (w : Bool) (addr : Word) (sz : Size) (data : Data) (f : Bool) :
    Fixed s (s.access code w addr sz data f) := by
  unfold State.access
  split
  · refine .asStation fun st => ?_
    split
    · exact fixed_writeWindow s st _ sz data f
    · exact .of_anchored (anchored_readWindow s st sz _ f)
  · exact .of_anchored (anchored_outside s sz w _ data f)

/-- Every command but TIMEBASE_TICK and POWER_ON keeps what it may not change. -/
theorem exec_fixed (c : Instr) (h : exec c s = .next t) (hc : ∀ strap present, c ≠ .powerOn strap present)
    (ht : c ≠ .timebaseTick) : Fixed s t := by
  have word : ∀ (code : StationCode) (sz : Size) (v : Word) (w : LiveWord),
      Fixed s (asStation code s fun st => s.writeLive st sz v w) := fun code sz v w =>
    .asStation fun st => fixed_writeLive s st sz v w
  have event : ∀ {u : State}, anchored u = anchored s → Fixed s u := .of_anchored
  cases c with
  | powerOn strap present => exact absurd rfl (hc strap present)
  | timebaseTick => exact absurd rfl ht
  | textRead code k pos sz f => cases next_of_aligned h; exact .asStation fun st => event (anchored_readText s k st sz _ f)
  | textWrite code k pos sz data f =>
    cases next_of_aligned h; exact .asStation fun st => event (anchored_writeText s k st sz _ data f)
  | headerPlainWrite code k off sz data f =>
    cases next_of_aligned h; exact .asStation fun st => fixed_writeWindow s st _ sz data f
  | plainPassThrough code w addr sz data f => cases next_of_aligned h; exact fixed_access s code w addr sz data f
  | accessOutsideWindow code w addr sz data f => cases next_of_aligned h; exact fixed_access s code w addr sz data f
  | liveWordWrite code addr sz data f => cases next_of_aligned h; exact fixed_access s code true addr sz data f
  | ringSlotWrite code owner off sz data f =>
    cases next_of_aligned h; exact .asStation fun st => event (anchored_writeRing s st sz owner _ data f)
  | claim code k sz => cases next_inj h; exact .asStation fun st => event (anchored_writeHold s k st sz _)
  | release code k sz => cases next_inj h; exact word code sz noneCode (.hold k)
  | breakHold code k sz => cases next_inj h; exact word code sz breakCode (.hold k)
  | routeToBasket code k sz b p => cases next_inj h; exact .asStation fun st => event (anchored_writeRoute s k st sz _)
  | routeToNone code k sz => cases next_inj h; exact .asStation fun st => event (anchored_writeRoute s k st sz _)
  | purge code k sz => cases next_inj h; exact .asStation fun st => event (anchored_writeRoute s k st sz _)
  | reopen code k sz => cases next_inj h; exact word code sz reopenCode (.state k)
  | limitWrite code b sz v => cases next_inj h; exact word code sz v (.limit b)
  | watchersWrite code b k sz v => cases next_inj h; exact word code sz v (.watchers b k)
  | sizeWrite code f sz v => cases next_inj h; exact word code sz v (.fontSize f)
  | leadingWrite code f sz v => cases next_inj h; exact word code sz v (.fontLeading f)
  | widthTableWrite code f c sz v => cases next_of_aligned h; exact word code sz v (.widths f c)
  | standardMeasureWrite code sz v => cases next_inj h; exact word code sz v .standardMeasure
  | editionWrite code sz v => cases next_inj h; exact word code sz v .edition
  | holdWaitWrite code sz v => cases next_inj h; exact word code sz v .holdWait
  | attentionEnableWrite code sz v => cases next_inj h; exact word code sz v .attentionEnable
  | noticeReadIndexWrite code o sz v => cases next_inj h; exact word code sz v (.readIndex o)
  | signOn code o sz => cases next_inj h; exact word code sz signOnCode (.control o)
  | signOff code o sz => cases next_inj h; exact word code sz signOffCode (.control o)
  | rightsWrite code o sz v => cases next_inj h; exact word code sz v (.rights o)
  | columnWidthWrite code p sz v => cases next_inj h; exact word code sz v (.columnWidth p)
  | gutterWrite code p sz v => cases next_inj h; exact word code sz v (.gutter p)
  | columnDepthWrite code p sz v => cases next_inj h; exact word code sz v (.columnDepth p)
  | place code p n sz k => cases next_inj h; exact word code sz (BitVec.ofNat 32 k.val) (.slotStory p n)
  | remove code p n sz => cases next_inj h; exact word code sz emptyCode (.slotStory p n)
  | spanWrite code p n sz v => cases next_inj h; exact word code sz v (.span p n)
  | allowanceWrite code p n sz v => cases next_inj h; exact word code sz v (.allowance p n)
  | policyWrite code p n sz v => cases next_inj h; exact word code sz v (.policy p n)
  | dispatch code p sz => cases next_inj h; exact word code sz dispatchWord (.pageCommand p)
  | cancel code p sz => cases next_inj h; exact word code sz cancelWord (.pageCommand p)
  | linkStatusRead code off sz f => cases next_of_aligned h; exact .asStation fun st => event (anchored_readWords s st sz _ f)
  | measurePassTaken => cases next_inj h; exact event (anchored_takePass s)
  | measurePassCompletion => cases next_inj h; exact event (anchored_completePass s)
  | measureFault => cases next_inj h; exact event (anchored_faultPass s)
  | fontWaitExpiry => cases next_inj h; exact event (anchored_fontWaitExpiry s)
  | holdWaitExpiry => cases next_inj h; exact event (anchored_holdWaitExpiry s)
  | sendTextRead f => cases next_inj h; exact event (anchored_sendTextRead s f)
  | ringWriteStart => cases next_inj h; exact event (anchored_of_butStations (butStations_ringWriteStart s))
  | ringWriteComplete f => cases next_inj h; exact event (anchored_ringWriteComplete s f)
  | typesetterPresentHigh => cases next_inj h; exact event (anchored_presentHigh s)
  | typesetterPresentLow => cases next_inj h; exact event (anchored_presentLow s)
  | trainingTimerExpiry => cases next_inj h; exact event (anchored_trainingExpiry s)
  | typesetterAbility m l => cases next_inj h; exact event (anchored_frameArrives s _)
  | ack => cases next_inj h; exact event (anchored_frameArrives s _)
  | nak r => cases next_inj h; exact event (anchored_frameArrives s _)
  | wait => cases next_inj h; exact event (anchored_frameArrives s _)
  | ready => cases next_inj h; exact event (anchored_frameArrives s _)
  | waitTimerExpiry => cases next_inj h; exact event (anchored_waitExpiry s)
  | replyTimerExpiry => cases next_inj h; exact event (anchored_replyExpiry s)
  | tryEnd => cases next_inj h; exact event (anchored_tryEnd s)
  | receiverGapExpiry => cases next_inj h; exact event (anchored_gapExpiry s)
  | busReset => cases next_inj h; exact event (anchored_busReset s)
  | incomingByte b => cases next_inj h; exact event (anchored_byteArrives s b)
  | measureTextRead => cases next_inj h; exact event (anchored_measureBlock s)
  | partAbilityEnd => cases next_inj h; exact event (anchored_abilityEnd s)

theorem commandsKeepStrapAndTime : Parts.CommandsKeepStrapAndTime := by
  intro c s t h
  by_cases hpower : ∃ strap present, c = .powerOn strap present
  · obtain ⟨strap, present, rfl⟩ := hpower
    cases next_inj h
    exact ⟨rfl, fun hc => absurd rfl (hc strap present)⟩
  · have hc : ∀ strap present, c ≠ .powerOn strap present := fun strap present h => hpower ⟨strap, present, h⟩
    by_cases ht : c = .timebaseTick
    · subst ht
      cases next_inj h
      exact ⟨rfl, fun _ => ⟨rfl, fun hne => absurd rfl hne⟩⟩
    · obtain ⟨hstrap, htime, hpending, -⟩ := exec_fixed c h hc ht
      exact ⟨hpending, fun _ => ⟨hstrap, fun _ => htime⟩⟩

theorem fontsStayDuringPassesAndSends : Parts.FontsStayDuringPassesAndSends := by
  intro c s t h hc hfixed
  by_cases ht : c = .timebaseTick
  · subst ht
    cases next_inj h
    rfl
  · exact (exec_fixed c h hc ht).fonts hfixed

/-- Settles O18: no operation but those of POWER_ON, TIMEBASE_TICK and font writes touches any of these, and a font write sets no font
during a pass or a send. -/
theorem commandsKeepWhatIsFixed : Obligations.CommandsKeepWhatIsFixed :=
  ⟨commandsKeepStrapAndTime, fontsStayDuringPassesAndSends⟩

end Sys2Proof.Machine
end

section
/-! PROOFS. Every access inside the window is answered: it is refused with its reason recorded and no other effect, or taken (R95, R166,
R167, R170). -/

namespace Sys2Proof.Machine

open Safety

variable {s t : State} {code : StationCode} {st : Station}

/-! ## Answers -/

/-- What an access by a station leaves: a refusal with its reason and nothing else, a refusal that has ended the hold of a HELD engine
(R95), or an answer that is no refusal. -/
inductive Answered (s : State) (st : Station) : State → Prop
  | refuse {r : Reason} (hr : r ≠ .none) : Answered s st (s.refuse st r)
  | pinned (h : s.measure.engine = .held) : Answered s st (s.endFontWait.refuse st .fontsPinned)
  | taken {t : State} (h : t.bus.answer ≠ .refuse) : Answered s st t

theorem Answered.done : Answered s st t.done := .taken nofun

theorem Answered.doneRead {d : Data} : Answered s st (t.doneRead d) := .taken nofun

/-- The tests of a word refuse with the reasons of its table, none of which is `.none`. -/
theorem Answered.testing {ts : List (Bool × Reason)} (hts : ∀ c ∈ ts, c.2 ≠ .none) (h : Answered s st t) :
    Answered s st (testing st ts s t) := by
  rcases testing_cases st ts s t with ⟨ht, -⟩ | ⟨c, hc, -, ht⟩ <;> rw [ht]
  · exact h
  · exact .refuse (hts c hc)

theorem lastRefusal_refuse (s : State) (st : Station) (r : Reason) : (s.refuse st r).lastRefusal st = r := by
  cases st with
  | terminal u => exact congrArg Terminal.lastRefusal (terminal_setTerminal_same s u _)
  | system => rfl

/-- What a refusal changes. -/
theorem Answered.refused (h : Answered s st t) (ht : t.bus.answer = .refuse) :
    ∃ r : Reason, r ≠ .none ∧ t.lastRefusal st = r ∧
      { t with measure := s.measure } = { s.setLastRefusal st r with bus := refuseBus } ∧
      (t.measure ≠ s.measure → r = .fontsPinned ∧ s.measure.engine = .held) := by
  cases h with
  | refuse hr => exact ⟨_, hr, lastRefusal_refuse s st _, by cases st <;> rfl, fun hne => absurd (by cases st <;> rfl) hne⟩
  | pinned hheld => exact ⟨.fontsPinned, nofun, lastRefusal_refuse s.endFontWait st _, by cases st <;> rfl, fun _ => ⟨rfl, hheld⟩⟩
  | taken h => exact absurd ht h

/-! ## Writes to live words -/

section Writes

variable (s : State) (st : Station) (sz : Size) (v : Word)

theorem answered_writeHold (k : StoryId) : Answered s st (s.writeHold st k sz v) := by
  refine .testing (by simp) ?_
  split
  · unfold State.claimRequest
    split
    · exact .testing (by simp) .done
    · refine .testing (by simp) ?_
      split
      · exact .done
      · exact .testing (by simp) .done
  · split
    · unfold State.releaseRequest
      split
      · exact .done
      · exact .refuse nofun
    · split
      · refine .testing (by simp) ?_
        split <;> exact .done
      · exact .refuse nofun

theorem answered_writeState (k : StoryId) : Answered s st (s.writeState st k sz v) := by
  refine .testing (by simp) ?_
  split <;> exact .done

theorem answered_writeRoute (k : StoryId) (q : RouteRequest) : Answered s st (s.writeRoute st k sz q) := by
  refine .testing (by simp) ?_
  unfold State.routeRequest
  split
  · exact .refuse nofun
  · exact .testing (by simp) .done
  · split
    · exact .refuse nofun
    · exact .testing (by simp [State.routeRight]) .done
  · split
    · exact .testing (by simp) .done
    · exact .testing (by simp [State.routeRight]) .done

theorem answered_writeControl (owner : Station) : Answered s st (s.writeControl st owner sz v) := by
  have hsign : ∀ u b, Answered s st (s.signTaken u b) := fun u b => by
    unfold State.signTaken
    split
    · exact .done
    · split <;> exact .done
  refine .testing (by simp) ?_
  split
  · exact .refuse nofun
  · split
    · exact hsign _ _
    · split
      · exact hsign _ _
      · exact .refuse nofun

theorem answered_writeRights (owner : Station) : Answered s st (s.writeRights st owner sz v) := by
  refine .testing (by simp) ?_
  split
  · exact .refuse nofun
  · split
    · exact .refuse nofun
    · exact .done

theorem answered_regeometry (p : PageId) (new : Page) : Answered s st (s.regeometry st p new) := by
  unfold State.regeometry
  split <;> exact .done

theorem planTests_reasons (p : PageId) : ∀ c ∈ s.planTests st p sz, c.2 ≠ .none := by simp [State.planTests]

theorem answered_writeColumnDepth (p : PageId) : Answered s st (s.writeColumnDepth st p sz v) := by
  refine .testing (planTests_reasons s st sz p) ?_
  dsimp only
  split <;> exact .done

theorem answered_writeStory (p : PageId) (n : SlotId) : Answered s st (s.writeStory st p n sz v) := by
  refine .testing (planTests_reasons s st sz p) ?_
  split
  · unfold State.removeRequest
    split <;> exact .done
  · split
    · unfold State.placeRequest
      split
      · exact .done
      · refine .testing (by simp) ?_
        split <;> exact .done
    · exact .refuse nofun

theorem answered_writeSpan (p : PageId) (n : SlotId) : Answered s st (s.writeSpan st p n sz v) := by
  refine .testing (planTests_reasons s st sz p) ?_
  split
  · exact .refuse nofun
  · dsimp only
    split <;> exact .done

theorem answered_writeAllowance (p : PageId) (n : SlotId) : Answered s st (s.writeAllowance st p n sz v) := by
  refine .testing (planTests_reasons s st sz p) ?_
  split
  · exact .refuse nofun
  · dsimp only
    split <;> exact .done

theorem answered_writePolicy (p : PageId) (n : SlotId) : Answered s st (s.writePolicy st p n sz v) := by
  refine .testing (planTests_reasons s st sz p) ?_
  split
  · exact .refuse nofun
  · split
    · exact .refuse nofun
    · split <;> exact .done

theorem answered_writeCommand (p : PageId) : Answered s st (s.writeCommand st p sz v) := by
  refine .testing (by simp) ?_
  split
  · unfold State.dispatchRequest
    split
    · exact .refuse nofun
    · exact .done
    · exact .done
  · split
    · unfold State.cancelRequest
      split <;> exact .done
    · exact .refuse nofun

/-- A font write during a send is refused, and ends the hold of a HELD engine (R67, R95). -/
theorem answered_writeFont (f : FontId) (w : FontWrite) : Answered s st (s.writeFont st f sz w) := by
  refine .testing (by simp) ?_
  split
  · unfold State.releaseHeld
    split
    · rename_i hheld
      exact .pinned hheld
    · exact .refuse nofun
  · split
    · exact .taken nofun
    · exact .done

theorem answered_writeStandard : Answered s st (s.writeStandard st sz v) := by
  refine .testing (by simp) ?_
  dsimp only
  split <;> exact .done

theorem answered_writeLive (w : LiveWord) : Answered s st (s.writeLive st sz v w) := by
  cases w with
  | hold k => exact answered_writeHold s st sz v k
  | route k => exact answered_writeRoute s st sz k _
  | state k => exact answered_writeState s st sz v k
  | slotStory p n => exact answered_writeStory s st sz v p n
  | control o => exact answered_writeControl s st sz v o
  | rights o => exact answered_writeRights s st sz v o
  | readIndex o => exact .testing (by simp) .done
  | limit b => exact .testing (by simp) .done
  | watchers b k => exact .testing (by simp) .done
  | columnWidth p => exact .testing (planTests_reasons s st sz p) (answered_regeometry s st p _)
  | gutter p => exact .testing (planTests_reasons s st sz p) (answered_regeometry s st p _)
  | columnDepth p => exact answered_writeColumnDepth s st sz v p
  | pageCommand p => exact answered_writeCommand s st sz v p
  | span p n => exact answered_writeSpan s st sz v p n
  | allowance p n => exact answered_writeAllowance s st sz v p n
  | policy p n => exact answered_writePolicy s st sz v p n
  | fontSize f => exact answered_writeFont s st sz f _
  | fontLeading f => exact answered_writeFont s st sz f _
  | widths f c => exact answered_writeFont s st sz f _
  | edition => exact .testing (by simp) .done
  | standardMeasure => exact answered_writeStandard s st sz v
  | holdWait => exact .testing (by simp) .done
  | attentionEnable => exact .testing (by simp) .done
  | _ => exact .testing (by simp) (.refuse nofun)

/-! ## Plain words, and reads -/

theorem admission_reasons (k : StoryId) : ∀ c ∈ s.admission st k, c.2 ≠ .none := by simp [State.admission]

theorem answered_writeText (k : StoryId) (pos : Nat) (data : Data) : Answered s st (s.writeText st k pos sz data false) :=
  .testing (admission_reasons s st k) .done

theorem answered_writeRing (owner : Station) (off : Nat) (data : Data) :
    Answered s st (s.writeRing st owner off sz data false) := .testing (by simp) .done

theorem answered_writeWindow (off : Nat) (data : Data) : Answered s st (s.writeWindow st off sz data false) := by
  unfold State.writeWindow
  split
  · exact .refuse nofun
  · split
    · exact answered_writeText s st sz _ _ data
    · exact .testing (admission_reasons s st _) .done
    · exact answered_writeRing s st sz _ _ data
    · exact .done
    · exact answered_writeLive s st sz _ _

theorem answered_readText (k : StoryId) (pos : Nat) : Answered s st (s.readText st k pos sz false) := .doneRead

theorem answered_readWords (off : Nat) : Answered s st (s.readWords st off sz false) := .doneRead

theorem answered_readWindow (off : Nat) : Answered s st (s.readWindow st off sz false) := by
  unfold State.readWindow
  split
  · exact answered_readText s st sz _ _
  · exact answered_readWords s st sz off

end Writes

/-! ## Every access -/

/-- A command is an access by a code: it does what `op` says for the code's station, unless the copy bus carries no such access. -/
def AccessBy (c : Instr) (code : StationCode) (s : State) (op : Station → State) : Prop :=
  exec c s = .next (asStation code s op) ∨ (exec c s = .refused .misaligned ∧ c.wellFormed = false)

theorem accessBy_of_aligned {c : Instr} {b : Bool} {op : Station → State} {u : State} (hu : u = asStation code s op)
    (h : exec c s = if b then .next u else .refused .misaligned) (hb : c.wellFormed = true → b = true) :
    AccessBy c code s op := by
  cases b with
  | true => exact .inl (by rw [h, hu]; rfl)
  | false => exact .inr ⟨h, Bool.eq_false_iff.2 fun hw => nomatch hb hw⟩

/-- LINK STATUS is as aligned as its offset is. -/
theorem aligned_linkStatus {off : Nat} {sz : Size} (h : aligned off sz = true) : aligned (linkStatusOffset + off) sz = true := by
  cases sz <;> simp only [aligned, sizeBytes, linkStatusOffset, beq_iff_eq] at h ⊢ <;> omega

/-- An access by bus address inside the window. -/
theorem access_inWindow {addr : Word} (hin : s.inWindow addr.toNat = true) (w : Bool) (sz : Size) (data : Data) (f : Bool) :
    s.access code w addr sz data f = asStation code s fun st =>
      if w then s.writeWindow st (addr.toNat - s.base) sz data f else s.readWindow st (addr.toNat - s.base) sz f := if_pos hin

theorem answered_access (addr : Word) (w : Bool) (sz : Size) (data : Data) (st : Station) :
    Answered s st (if w then s.writeWindow st (addr.toNat - s.base) sz data false
      else s.readWindow st (addr.toNat - s.base) sz false) := by
  split
  · exact answered_writeWindow s st sz _ data
  · exact answered_readWindow s st sz _

theorem windowCode_byAddress {addr : Word} {code' : StationCode}
    (h : (if s.inWindow addr.toNat then some code' else none) = some code) : s.inWindow addr.toNat = true ∧ code' = code := by
  simpa using h

/-- Every access inside the window is made by its station code, and answered. -/
theorem exec_access (c : Instr) (h : windowCode s c = some code) :
    ∃ op, AccessBy c code s op ∧ (faulted c = false → ∀ st, Answered s st (op st)) := by
  cases c with
  | textRead code' k pos sz f =>
    cases h
    exact ⟨_, accessBy_of_aligned rfl rfl id, fun hf st => by cases hf; exact answered_readText s st sz k _⟩
  | textWrite code' k pos sz data f =>
    cases h
    exact ⟨_, accessBy_of_aligned rfl rfl id, fun hf st => by cases hf; exact answered_writeText s st sz k _ data⟩
  | headerPlainWrite code' k off sz data f =>
    cases h
    exact ⟨_, accessBy_of_aligned rfl rfl fun hw => (Bool.and_eq_true_iff.1 hw).1,
      fun hf st => by cases hf; exact answered_writeWindow s st sz _ data⟩
  | ringSlotWrite code' owner off sz data f =>
    cases h
    exact ⟨_, accessBy_of_aligned rfl rfl id, fun hf st => by cases hf; exact answered_writeRing s st sz owner _ data⟩
  | plainPassThrough code' w addr sz data f =>
    obtain ⟨hin, rfl⟩ := windowCode_byAddress h
    exact ⟨_, accessBy_of_aligned (access_inWindow hin w sz data f) rfl id,
      fun hf st => by cases hf; exact answered_access addr w sz data st⟩
  | accessOutsideWindow code' w addr sz data f =>
    obtain ⟨hin, rfl⟩ := windowCode_byAddress h
    exact ⟨_, accessBy_of_aligned (access_inWindow hin w sz data f) rfl id,
      fun hf st => by cases hf; exact answered_access addr w sz data st⟩
  | liveWordWrite code' addr sz data f =>
    obtain ⟨hin, rfl⟩ := windowCode_byAddress h
    exact ⟨_, accessBy_of_aligned (access_inWindow hin true sz data f) rfl id,
      fun hf st => by cases hf; exact answered_access addr true sz data st⟩
  | widthTableWrite code' f c sz v =>
    cases h
    exact ⟨_, accessBy_of_aligned rfl rfl id, fun _ st => answered_writeFont s st sz f _⟩
  | linkStatusRead code' off sz f =>
    cases h
    exact ⟨_, accessBy_of_aligned rfl rfl aligned_linkStatus, fun hf st => by cases hf; exact answered_readWords s st sz _⟩
  | claim code' k sz => cases h; exact ⟨_, .inl rfl, fun _ st => answered_writeHold s st sz _ k⟩
  | release code' k sz => cases h; exact ⟨_, .inl rfl, fun _ st => answered_writeHold s st sz _ k⟩
  | breakHold code' k sz => cases h; exact ⟨_, .inl rfl, fun _ st => answered_writeHold s st sz _ k⟩
  | routeToBasket code' k sz b p => cases h; exact ⟨_, .inl rfl, fun _ st => answered_writeRoute s st sz k _⟩
  | routeToNone code' k sz => cases h; exact ⟨_, .inl rfl, fun _ st => answered_writeRoute s st sz k _⟩
  | purge code' k sz => cases h; exact ⟨_, .inl rfl, fun _ st => answered_writeRoute s st sz k _⟩
  | reopen code' k sz => cases h; exact ⟨_, .inl rfl, fun _ st => answered_writeState s st sz _ k⟩
  | limitWrite code' b sz v => cases h; exact ⟨_, .inl rfl, fun _ st => answered_writeLive s st sz v (.limit b)⟩
  | watchersWrite code' b k sz v => cases h; exact ⟨_, .inl rfl, fun _ st => answered_writeLive s st sz v (.watchers b k)⟩
  | sizeWrite code' f sz v => cases h; exact ⟨_, .inl rfl, fun _ st => answered_writeFont s st sz f _⟩
  | leadingWrite code' f sz v => cases h; exact ⟨_, .inl rfl, fun _ st => answered_writeFont s st sz f _⟩
  | standardMeasureWrite code' sz v => cases h; exact ⟨_, .inl rfl, fun _ st => answered_writeStandard s st sz v⟩
  | editionWrite code' sz v => cases h; exact ⟨_, .inl rfl, fun _ st => answered_writeLive s st sz v .edition⟩
  | holdWaitWrite code' sz v => cases h; exact ⟨_, .inl rfl, fun _ st => answered_writeLive s st sz v .holdWait⟩
  | attentionEnableWrite code' sz v => cases h; exact ⟨_, .inl rfl, fun _ st => answered_writeLive s st sz v .attentionEnable⟩
  | noticeReadIndexWrite code' o sz v => cases h; exact ⟨_, .inl rfl, fun _ st => answered_writeLive s st sz v (.readIndex o)⟩
  | signOn code' o sz => cases h; exact ⟨_, .inl rfl, fun _ st => answered_writeControl s st sz _ o⟩
  | signOff code' o sz => cases h; exact ⟨_, .inl rfl, fun _ st => answered_writeControl s st sz _ o⟩
  | rightsWrite code' o sz v => cases h; exact ⟨_, .inl rfl, fun _ st => answered_writeRights s st sz v o⟩
  | columnWidthWrite code' p sz v => cases h; exact ⟨_, .inl rfl, fun _ st => answered_writeLive s st sz v (.columnWidth p)⟩
  | gutterWrite code' p sz v => cases h; exact ⟨_, .inl rfl, fun _ st => answered_writeLive s st sz v (.gutter p)⟩
  | columnDepthWrite code' p sz v => cases h; exact ⟨_, .inl rfl, fun _ st => answered_writeColumnDepth s st sz v p⟩
  | place code' p n sz k => cases h; exact ⟨_, .inl rfl, fun _ st => answered_writeStory s st sz _ p n⟩
  | remove code' p n sz => cases h; exact ⟨_, .inl rfl, fun _ st => answered_writeStory s st sz _ p n⟩
  | spanWrite code' p n sz v => cases h; exact ⟨_, .inl rfl, fun _ st => answered_writeSpan s st sz v p n⟩
  | allowanceWrite code' p n sz v => cases h; exact ⟨_, .inl rfl, fun _ st => answered_writeAllowance s st sz v p n⟩
  | policyWrite code' p n sz v => cases h; exact ⟨_, .inl rfl, fun _ st => answered_writePolicy s st sz v p n⟩
  | dispatch code' p sz => cases h; exact ⟨_, .inl rfl, fun _ st => answered_writeCommand s st sz _ p⟩
  | cancel code' p sz => cases h; exact ⟨_, .inl rfl, fun _ st => answered_writeCommand s st sz _ p⟩
  | _ => cases h

theorem unknownStationsChangeNothing : Parts.UnknownStationsChangeNothing := by
  intro c code s hcode hlo hhi hwf
  obtain ⟨op, hop | ⟨-, hbad⟩, -⟩ := exec_access c hcode
  · have hnone : stationOf code = none := by
      have hne : code ≠ 127#7 := fun h => by subst h; revert hhi; decide
      simp [stationOf, Nat.not_lt.2 hlo, hne]
    rw [hop, asStation_none hnone]
    rfl
  · cases hwf.symm.trans hbad

theorem refusedAccessesRecordTheReason : Parts.RefusedAccessesRecordTheReason := by
  intro c code st s t hcode hst hf hnext hrefuse
  obtain ⟨op, hop | ⟨hstop, -⟩, hanswered⟩ := exec_access c hcode
  · have ht : op st = t := by
      rw [← asStation_some hst s op]
      exact next_inj (hop.symm.trans hnext)
    exact (ht ▸ hanswered hf st).refused hrefuse
  · cases hstop.symm.trans hnext

/-- Settles O16: an access is refused for its unknown code, refused by a test of its word, or taken; and only a font write that finds
fonts pinned ends a hold as it is refused. -/
theorem refusalsChangeOnlyTheReason : Obligations.RefusalsChangeOnlyTheReason :=
  ⟨unknownStationsChangeNothing, refusedAccessesRecordTheReason⟩

end Sys2Proof.Machine
end

section
/-! PROOFS. A QUEUED page is cancelled: it leaves the queue for its resting state, FAILED with CANCELLED (R134, R146; assumption 21). -/

namespace Sys2Proof.Machine

open Safety

variable {s u : State} {st : Station} {e : Queued} {r : Resting}

/-! ## The queue -/

/-- A page stands once in the dispatch queue, so its entry is the one found there. -/
theorem eq_of_queued_page (hd : DispatchLaw s) {e' : Queued} (he : e ∈ s.dispatch.queue) (he' : e' ∈ s.dispatch.queue)
    (hp : e'.page = e.page) : e' = e := List.inj_on_of_nodup_map hd.once he' he hp

theorem queueEntry_of_mem (hd : DispatchLaw s) (he : e ∈ s.dispatch.queue) : s.queueEntry e.page = some e := by
  cases hf : s.queueEntry e.page with
  | none => simpa using List.find?_eq_none.1 hf e he
  | some e' => rw [eq_of_queued_page hd he (List.mem_of_find?_eq_some hf) (by simpa using List.find?_some hf)]

/-- Where the head of the queue is the page of an entry, it is that entry. -/
theorem head_page_iff (hd : DispatchLaw s) (he : e ∈ s.dispatch.queue) :
    s.dispatch.queue.head?.map Queued.page = some e.page ↔ s.dispatch.queue.head? = some e := by
  refine ⟨fun h => ?_, fun h => by rw [h]; rfl⟩
  obtain ⟨e', hhead, hp⟩ := Option.map_eq_some_iff.1 h
  rw [hhead, eq_of_queued_page hd he (List.mem_of_mem_head? hhead) hp]

/-- Nothing advances while a page stands in the queue and the engine is IDLE (R135). -/
theorem linkDown_of_queued (hd : DispatchLaw s) (he : e ∈ s.dispatch.queue) (hidle : s.dispatch.engine = .idle) :
    s.link.state ≠ .up := fun hup => by
  rw [hd.advanced hidle hup] at he
  exact List.not_mem_nil he

/-- The engine is IDLE or ABORTING while the head of the queue is QUEUED. -/
theorem engine_of_head_queued (hd : DispatchLaw s) (hhead : s.dispatch.queue.head? = some e)
    (hq : (s.page e.page).state = .queued r) : s.dispatch.engine = .idle ∨ s.dispatch.engine = .aborting := by
  cases heng : s.dispatch.engine with
  | idle => exact .inl rfl
  | aborting => exact .inr rfl
  | waiting =>
    obtain ⟨e', he'⟩ := Option.isSome_iff_exists.1 (hd.waiting.1 heng)
    obtain ⟨hhead', hkind⟩ := (waitingHead_eq_some s e').1 he'
    cases hhead.symm.trans hhead'
    simp [hq, pageKind] at hkind
  | sending x =>
    obtain ⟨e', he'⟩ := Option.isSome_iff_exists.1 (hd.sending.1 ⟨x, heng⟩)
    obtain ⟨hhead', hkind⟩ := (sendingHead_eq_some s e').1 he'
    cases hhead.symm.trans hhead'
    simp [hq, pageKind] at hkind

/-! ## The failure -/

/-- What a CANCEL of a QUEUED page names (R134). -/
def cancelFailing (st : Station) : Failing := { cause := .cancelled, named := none, station := some st }

/-- The failure of a QUEUED page leaves the engine as it is, and nothing advances. -/
theorem fail_queued (hq : (u.page e.page).state = .queued r) (f : Failing)
    (hidle : u.dispatch.engine = .idle → u.link.state ≠ .up)
    (hhead : u.dispatch.queue.head?.map Queued.page = some e.page → u.dispatch.engine = .idle ∨ u.dispatch.engine = .aborting) :
    u.fail e f = u.failRecord e f := by
  have heng : (u.failRecord e f).dispatch.engine = u.dispatch.engine := by rw [failRecord_dispatch]
  have hpage : u.failPage e f = u.failRecord e f := by
    simp only [State.failPage, State.failEngine, hq, isSending, Bool.false_and, Bool.false_eq_true, if_false, heng]
    split
    · rename_i hwas
      simp only [Bool.and_eq_true, decide_eq_true_eq, bne_iff_ne] at hwas
      have hi := (hhead hwas.1).resolve_right hwas.2
      rw [← hi, ← heng]
      rfl
    · rfl
  rw [State.fail, hpage]
  by_cases hi : u.dispatch.engine = .idle
  · exact advance_linkDown _ (by rw [failRecord_link]; exact hidle hi)
  · exact advance_busy _ (by rw [heng]; exact hi)

/-- A QUEUED page cancelled in a state `u` whose dispatch unit and link are those of a lawful state `s`. -/
theorem cancelPage_queued (hd : DispatchLaw s) (hdisp : u.dispatch = s.dispatch) (hlink : u.link = s.link)
    (he : e ∈ s.dispatch.queue) {r' : Resting} (hq : (s.page e.page).state = .queued r') (hu : (u.page e.page).state = .queued r)
    (hroom : u.stations.outgoing.length < 256) :
    u.cancelPage e.page st = { u with
      pages := (u.setPage e.page { u.page e.page with state := .resting r, lastResult := .failed .cancelled }).pages
      dispatch := { s.dispatch with
        queue := s.dispatch.queue.filter fun q => decide (q.page ≠ e.page)
        wanted := if s.dispatch.queue.head? = some e then Vector.replicate 12 none else s.dispatch.wanted }
      stations := { u.stations with
        outgoing := u.stations.outgoing ++ [failedOutgoing u e 10 (some st)] } } := by
  have hentry : u.queueEntry e.page = some e := by
    rw [State.queueEntry, hdisp]
    exact queueEntry_of_mem hd he
  have hfail := fail_queued hu (cancelFailing st) (fun hi => by rw [hlink]; exact linkDown_of_queued hd he (hdisp ▸ hi))
    fun hh => by
      rw [hdisp] at hh ⊢
      exact engine_of_head_queued hd ((head_page_iff hd he).1 hh) hq
  have hout : (fun q : Queued => q.page != e.page) = fun q => decide (q.page ≠ e.page) :=
    funext fun q => Bool.eq_iff_iff.2 (by simp)
  simp only [State.cancelPage, hentry]
  rw [← cancelFailing, hfail, failRecord_eq u e _ hroom, hu, hdisp]
  simp only [isWaiting, isSending, restingOf, Bool.or_self, Bool.false_eq_true, if_false, head_page_iff hd he, hout,
    noneWanted]
  rfl

end Sys2Proof.Machine
end

section
/-! PROOFS. DISPATCH queues a page or takes it into WAITING, CANCEL takes it out of the queue, and PAGE COMMAND refuses in the order of
R132 (R93, R132 to R138). -/

namespace Sys2Proof.Machine

open Safety

variable {s u : State} {code : StationCode} {st : Station} {p : PageId} {e : Queued} {r : Resting}

/-! ## The requests -/

theorem exec_dispatch (hst : stationOf code = some st) (sz : Size) :
    exec (.dispatch code p sz) s = .next (s.writeCommand st p sz dispatchWord) := by
  show Host.Outcome.next (asStation code s _) = _
  rw [asStation_some hst]

theorem exec_cancel (hst : stationOf code = some st) (sz : Size) :
    exec (.cancel code p sz) s = .next (s.writeCommand st p sz cancelWord) := by
  show Host.Outcome.next (asStation code s _) = _
  rw [asStation_some hst]

theorem exec_dispatch_system : exec (.dispatch 127#7 p .word) s = .next (s.dispatchRequest .system p) := by
  rw [exec_dispatch stationOf_system, State.writeCommand, if_pos rfl]
  rfl

theorem exec_cancel_system : exec (.cancel 127#7 p .word) s = .next (s.cancelRequest .system p) := by
  rw [exec_cancel stationOf_system, State.writeCommand, if_neg (by decide), if_pos rfl]
  rfl

/-- A page at rest that has joined the tail of the queue (R133). -/
def State.joined (s : State) (p : PageId) (r : Resting) : State :=
  { s.setPageState p (.queued r) with
    dispatch := { s.dispatch with queue := s.dispatch.queue ++ [{ page := p, stamp := s.pages.edition }] } }

theorem queuePage_eq (s : State) (p : PageId) (r : Resting) : s.queuePage p r = (s.joined p r).advance := rfl

theorem dispatchRequest_resting (hr : (s.page p).state = .resting r) (hne : r ≠ .empty) :
    s.dispatchRequest .system p = ((s.joined p r).advance).done := by
  simp only [State.dispatchRequest, hr]
  cases r with
  | empty => exact absurd rfl hne
  | made => rfl
  | sent => rfl
  | changed => rfl

/-- The head does not advance while the engine is at work or the link is not UP (R135). -/
theorem advance_joined (h : s.link.state ≠ .up ∨ s.dispatch.engine ≠ .idle) : (s.joined p r).advance = s.joined p r :=
  h.elim (advance_linkDown (s.joined p r)) (advance_busy (s.joined p r))

/-! ## Pages that stay QUEUED, and CANCEL -/

theorem dispatchQueuesAndCancelRemoves : Parts.DispatchQueuesAndCancelRemoves := by
  intro s p r
  refine ⟨fun hempty => ?_, fun hr hne hstay => ⟨?_, _, exec_dispatch_system, ?_⟩, fun e hq he hp hd hroom => ?_⟩
  · rw [exec_dispatch_system, State.dispatchRequest, hempty]
    rfl
  · rw [exec_cancel_system, State.cancelRequest, hr]
    rfl
  · rw [dispatchRequest_resting hr hne, advance_joined hstay]
    exact ⟨rfl, page_setPage_same s p _, fun q hq => page_setPage_ne s _ hq, fun _ => rfl⟩
  · subst hp
    have hmem := List.mem_of_mem_tail he
    have hcancel := cancelPage_queued (st := .system) hd rfl rfl hmem hq hq hroom
    have hbehind : s.dispatch.queue.head? ≠ some e := fun hhead => by
      obtain ⟨rest, hqueue⟩ := List.head?_eq_some_iff.1 hhead
      have honce := hd.once
      rw [hqueue, List.map_cons, List.nodup_cons] at honce
      exact honce.1 (List.mem_map_of_mem (by rwa [hqueue] at he))
    rw [exec_dispatch_system, State.dispatchRequest, hq, exec_cancel_system, State.cancelRequest, hq]
    dsimp only
    rw [hcancel, if_neg hbehind]
    exact ⟨rfl, _, rfl, rfl, page_setPage_same s e.page _, fun q hq => page_setPage_ne s _ hq, fun _ => rfl⟩

/-! ## HOLD-WANTED (R137) -/

/-- The HOLD-WANTED notice of an occupied slot, if its story is held (R137). -/
def State.wantedTold (s : State) (e : Queued) (ns : SlotId × Slot) : Option Outgoing :=
  (s.story ns.2.story).holder.map fun st =>
    { recipient := st
      notice := { s.storyNotice .holdWanted 0 ns.2.story with
        page := some e.page, slot := some ns.1, cause := some .system, edition := e.stamp, urgent := true } }

/-- The state with the wanted record replaced and notices queued. -/
def State.wantedAs (s : State) (W : Vector (Option Station) 12) (O : List Outgoing) : State :=
  { s with
    dispatch := { s.dispatch with wanted := W }
    stations := { s.stations with outgoing := s.stations.outgoing ++ O } }

/-- A slot the wanted record does not name yet takes its story's holder, who is told with room in the queue. -/
theorem wantHold_taken {ns : SlotId × Slot} (hnone : s.dispatch.wanted[ns.1.val] = none)
    (hon : ∀ st, (s.story ns.2.story).holder = some st → s.signedOn st = true) (hroom : s.stations.outgoing.length < 256) :
    s.wantHold e ns = s.wantedAs (s.dispatch.wanted.set ns.1.val (s.story ns.2.story).holder) (s.wantedTold e ns).toList := by
  unfold State.wantHold State.wantedTold
  cases hh : (s.story ns.2.story).holder with
  | none =>
    have hsame : s.dispatch.wanted.set ns.1.val none = s.dispatch.wanted := by
      rw [← hnone]
      exact Vector.set_getElem_self _
    simp [State.wantedAs, hsame]
  | some st =>
    have hw : s.dispatch.wanted[ns.1.val] ≠ some st := by simp [hnone]
    dsimp only
    rw [if_neg hw]
    exact raise_taken _ st _ (by cases st <;> exact hon _ hh) hroom

/-- Slots the wanted record does not name yet, each once: it takes their stories' holders, who are told in slot order. -/
theorem foldl_wantHold : ∀ (l : List (SlotId × Slot)) (s : State), (l.map Prod.fst).Nodup →
    (∀ ns ∈ l, s.dispatch.wanted[ns.1.val] = none) →
    (∀ ns ∈ l, ∀ st, (s.story ns.2.story).holder = some st → s.signedOn st = true) →
    s.stations.outgoing.length + l.length ≤ 256 →
    ∃ W, l.foldl (fun t ns => t.wantHold e ns) s = s.wantedAs W (l.filterMap (s.wantedTold e)) ∧
      (∀ ns ∈ l, W[ns.1.val] = (s.story ns.2.story).holder) ∧
      ∀ n : SlotId, n ∉ l.map Prod.fst → W[n.val] = s.dispatch.wanted[n.val]
  | [], s, _, _, _, _ => ⟨s.dispatch.wanted, by simp [State.wantedAs], nofun, fun _ _ => rfl⟩
  | ns :: l, s, hnodup, hnone, hon, hroom => by
    obtain ⟨hnew, hnodup'⟩ := List.nodup_cons.1 hnodup
    have hlen : s.stations.outgoing.length + (l.length + 1) ≤ 256 := hroom
    have hfirst := wantHold_taken (e := e) (hnone ns List.mem_cons_self) (hon ns List.mem_cons_self) (by omega)
    have htold : (s.wantedTold e ns).toList.length ≤ 1 := by cases s.wantedTold e ns <;> simp
    have hwanted : ∀ n : SlotId, n ≠ ns.1 →
        (s.dispatch.wanted.set ns.1.val (s.story ns.2.story).holder)[n.val] = s.dispatch.wanted[n.val] := fun n hn =>
      Vector.getElem_set_ne _ _ fun h => hn (Fin.ext h).symm
    have hslot : ∀ ms ∈ l, ms.1 ≠ ns.1 := fun ms hms h => hnew (h ▸ List.mem_map_of_mem hms)
    obtain ⟨W, hfold, hin, hout⟩ := foldl_wantHold l (s.wantHold e ns) hnodup' (by
        rw [hfirst]
        exact fun ms hms => (hwanted ms.1 (hslot ms hms)).trans (hnone ms (List.mem_cons_of_mem _ hms)))
      (by
        rw [hfirst]
        exact fun ms hms st hst => by cases st <;> exact hon ms (List.mem_cons_of_mem _ hms) _ hst)
      (by
        rw [hfirst]
        simp only [State.wantedAs, List.length_append]
        omega)
    rw [hfirst] at hfold hin hout
    refine ⟨W, ?_, fun ms hms => ?_, fun n hn => ?_⟩
    · rw [List.foldl_cons, hfirst, hfold, List.filterMap_cons]
      have hsame : (s.wantedAs (s.dispatch.wanted.set ns.1.val (s.story ns.2.story).holder)
          (s.wantedTold e ns).toList).wantedTold e = s.wantedTold e := rfl
      rw [hsame]
      cases s.wantedTold e ns <;> simp [State.wantedAs]
    · rcases List.mem_cons.1 hms with rfl | hms
      · rw [hout _ hnew]
        exact Vector.getElem_set_self _
      · exact hin ms hms
    · obtain ⟨hn1, hn2⟩ := not_or.1 (mt List.mem_cons.2 hn)
      rw [hout n hn2]
      exact hwanted n hn1

/-! ## The entry into WAITING (R136) -/

/-- The head page once it has entered WAITING: its stories close and the hold-wait timer starts (R136, steps 1 to 3). -/
def State.closedIn (s : State) (e : Queued) : State :=
  (((s.setPageState e.page (.waiting (restingOf (s.page e.page).state))).setDispatchEngine .waiting).markClosing e.page
    true).setHoldTimer (some (s.dispatch.holdWait * 1000))

/-- The same once its STALE stories are promoted, before anyone is told (R136, step 4). -/
def State.awaiting (s : State) (e : Queued) : State := (s.closedIn e).promote e.page

theorem closedIn_page (s : State) (e : Queued) (q : PageId) : (s.closedIn e).page q =
    if q = e.page then { s.page e.page with state := .waiting (restingOf (s.page e.page).state) } else s.page q := by
  simp only [State.closedIn, page_setHoldTimer, page_markClosing, page_setDispatchEngine, page_setPageState]

theorem closedIn_occupied (s : State) (e : Queued) : occupied ((s.closedIn e).page e.page) = occupied (s.page e.page) := by
  rw [closedIn_page, if_pos rfl]
  rfl

theorem closedIn_story (s : State) (e : Queued) (k : StoryId) : (s.closedIn e).story k =
    { s.story k with closing := (s.story k).closing || decide (k ∈ s.pageStories e.page) } := by
  have hstories : ((s.setPageState e.page (.waiting (restingOf (s.page e.page).state))).setDispatchEngine
      .waiting).pageStories e.page = s.pageStories e.page := by
    simp [State.pageStories, page_setPageState, occupied]
  simp only [State.closedIn, markClosing_story, hstories, story_setHoldTimer, story_setDispatchEngine, story_setPageState]
  by_cases hk : k ∈ s.pageStories e.page <;> simp [hk]

theorem closedIn_eq (s : State) (e : Queued) : s.closedIn e = { s with
    stories := (s.closedIn e).stories
    pages := (s.setPageState e.page (.waiting (restingOf (s.page e.page).state))).pages
    dispatch := { s.dispatch with engine := .waiting, holdWaitTimer := some (s.dispatch.holdWait * 1000) } } := by
  rw [State.closedIn, markClosing_frame]
  rfl

/-- What a promotion puts in front reads only the page's plan and the depth statuses (R93). -/
theorem promote_eq (hslots : occupied (u.page p) = occupied (s.page p))
    (hstatus : ∀ k, (u.story k).depth.status = (s.story k).depth.status) :
    u.promote p = u.setQueue (staleOnPage s p ++ u.measure.queue.filter fun k => decide (k ∉ staleOnPage s p)) := by
  have hfront : ((occupied (u.page p)).map fun e => e.2.story).filter (fun k => (u.story k).depth.status == .stale) =
      staleOnPage s p := by
    simp only [hslots, hstatus, staleOnPage, State.pageStories, beq_eq_decide]
  have hout : (fun k => !(staleOnPage s p).contains k) = fun k => decide (k ∉ staleOnPage s p) :=
    funext fun k => by simp
  simp only [State.promote, hfront, hout]

theorem awaiting_eq (s : State) (e : Queued) : ∃ S P, s.awaiting e = { s with
    stories := S
    pages := { s.pages with pages := P }
    measure := { s.measure with
      queue := staleOnPage s e.page ++ s.measure.queue.filter fun k => decide (k ∉ staleOnPage s e.page) }
    dispatch := { s.dispatch with engine := .waiting, holdWaitTimer := some (s.dispatch.holdWait * 1000) } } := by
  have hpromote := promote_eq (s := s) (u := s.closedIn e) (closedIn_occupied s e) fun k => by rw [closedIn_story]
  refine ⟨(s.closedIn e).stories,
    (s.setPageState e.page (.waiting (restingOf (s.page e.page).state))).pages.pages, ?_⟩
  rw [State.awaiting, hpromote, closedIn_eq]
  rfl

theorem awaiting_occupied (s : State) (e : Queued) : occupied ((s.awaiting e).page e.page) = occupied (s.page e.page) := by
  rw [State.awaiting, page_promote, closedIn_occupied]

theorem awaiting_story (s : State) (e : Queued) (k : StoryId) : (s.awaiting e).story k =
    { s.story k with closing := (s.story k).closing || decide (k ∈ s.pageStories e.page) } := by
  rw [State.awaiting, story_promote, closedIn_story]

theorem awaiting_signedOn (s : State) (e : Queued) (st : Station) : (s.awaiting e).signedOn st = s.signedOn st := by
  obtain ⟨S, P, h⟩ := awaiting_eq s e
  rw [h]
  cases st <;> rfl

theorem awaiting_storyNotice (s : State) (e : Queued) (kind : NoticeKind) (d : Byte) (k : StoryId) :
    (s.awaiting e).storyNotice kind d k = s.storyNotice kind d k := by
  have hplain : (s.awaiting e).plainNotice kind d = s.plainNotice kind d := by
    obtain ⟨S, P, h⟩ := awaiting_eq s e
    rw [h]
    rfl
  simp only [State.storyNotice, awaiting_story, hplain]

theorem enterWaiting_eq (s : State) (e : Queued) : s.enterWaiting e =
    (occupied ((s.awaiting e).page e.page)).foldl (fun t ns => t.wantHold e ns) (s.awaiting e) := by
  unfold State.enterWaiting
  dsimp only
  rw [markClosing_dispatch]
  rfl

theorem occupied_length (v : Page) : (occupied v).length ≤ 12 :=
  (List.length_filterMap_le _ _).trans (List.length_finRange (n := 12)).le

theorem occupied_slots_nodup (v : Page) : ((occupied v).map Prod.fst).Nodup :=
  (List.pairwise_map.2 ((occupied_sorted v).imp fun h => ne_of_lt h))

/-- The holder of a slot's story. -/
def State.holderAt (s : State) (p : PageId) (n : SlotId) : Option Station :=
  (s.slotOf p n).bind fun sl => (s.story sl.story).holder

/-- The head page enters WAITING with an empty wanted record: every holder of its stories is told, in slot order (R136, R137). -/
theorem enterWaiting_taken (hnone : s.dispatch.wanted = Vector.replicate 12 none) (hon : holdersOn s e.page)
    (hroom : s.stations.outgoing.length + 12 ≤ 256) :
    ∃ W, s.enterWaiting e = (s.awaiting e).wantedAs W (holdWanted s e) ∧ ∀ n : SlotId, W[n.val] = s.holderAt e.page n := by
  have hwanted : (s.awaiting e).dispatch.wanted = Vector.replicate 12 none := by
    obtain ⟨S, P, h⟩ := awaiting_eq s e
    rw [h]
    exact hnone
  have hout : (s.awaiting e).stations = s.stations := by
    obtain ⟨S, P, h⟩ := awaiting_eq s e
    rw [h]
  have hslots := awaiting_occupied s e
  have hlen := occupied_length (s.page e.page)
  obtain ⟨W, hfold, hin, hout⟩ := foldl_wantHold (e := e) (occupied ((s.awaiting e).page e.page)) (s.awaiting e)
    (occupied_slots_nodup _) (fun ns _ => by simp [hwanted])
    (fun ns hns st hst => by
      rw [hslots, mem_occupied] at hns
      rw [awaiting_story] at hst
      rw [awaiting_signedOn]
      exact hon ns.1 ns.2 st hns hst)
    (by rw [hslots, hout]; omega)
  have htold : (s.awaiting e).wantedTold e = s.wantedTold e := funext fun ns => by
    simp only [State.wantedTold, awaiting_story, awaiting_storyNotice]
  rw [hslots] at hin hout
  refine ⟨W, ((enterWaiting_eq s e).trans hfold).trans ?_, fun n => ?_⟩
  · rw [htold, hslots]
    rfl
  · cases hsl : s.slotOf e.page n with
    | none =>
      have hn : n ∉ (occupied (s.page e.page)).map Prod.fst := fun hmem => by
        obtain ⟨ns, hns, rfl⟩ := List.mem_map.1 hmem
        cases hsl.symm.trans ((mem_occupied _ ns.1 ns.2).1 hns)
      rw [hout n hn, hwanted, State.holderAt, hsl]
      simp
    | some sl =>
      rw [hin (n, sl) ((mem_occupied _ n sl).2 hsl), awaiting_story, State.holderAt, hsl]
      rfl

/-! ## The head page that waits -/

theorem enterWaiting_depth (s : State) (e : Queued) (k : StoryId) : ((s.enterWaiting e).story k).depth = (s.story k).depth ∧
    ((s.enterWaiting e).story k).holder = (s.story k).holder := by
  rw [enterWaiting_story]
  split <;> exact ⟨rfl, rfl⟩

theorem enterWaiting_slotOf (s : State) (e : Queued) (n : SlotId) : (s.enterWaiting e).slotOf e.page n = s.slotOf e.page n := by
  rw [State.slotOf, enterWaiting_page, if_pos rfl]
  rfl

/-- A page that has entered WAITING waits when a story of it is held and none has failed (R138). -/
theorem enterWaiting_waits {n : SlotId} {sl : Slot} (hn : s.slotOf e.page n = some sl) (hheld : (s.story sl.story).holder ≠ none)
    (hnofail : ∀ n sl c, s.slotOf e.page n = some sl → ¬ slotFails s sl c) : (s.enterWaiting e).verdict e.page = .waits := by
  have hfails : ∀ sm c, slotFails (s.enterWaiting e) sm c ↔ slotFails s sm c := fun sm c => by
    simp only [slotFails, (enterWaiting_depth s e sm.story).1, enterWaiting_link]
  refine verdict_waits (fun m sm c hm hc => hnofail m sm c ?_ ((hfails sm c).1 hc)) ((enterWaiting_slotOf s e n).trans hn) (.inl ?_)
  · rwa [enterWaiting_slotOf] at hm
  · rwa [(enterWaiting_depth s e sl.story).2]

/-- The only page queued, with the engine IDLE and the link UP, enters WAITING and stays there when its evaluation waits (R135). -/
theorem advance_joined_waits {e : Queued} (he : e = { page := p, stamp := s.pages.edition }) (hup : s.link.state = .up)
    (hidle : s.dispatch.engine = .idle) (hq : s.dispatch.queue = [])
    (hv : ((s.joined p r).enterWaiting e).verdict e.page = .waits) :
    (s.joined p r).advance = (s.joined p r).enterWaiting e := by
  have hqueue : (s.joined p r).dispatch.queue = [e] := by
    show s.dispatch.queue ++ _ = _
    rw [hq, he]
    rfl
  have hengine : (s.joined p r).dispatch.engine = .idle := hidle
  have hlink : (s.joined p r).link.state = .up := hup
  have hqueued : isQueued ((s.joined p r).page e.page).state = true := by
    rw [he]
    exact congrArg (fun v : Page => isQueued v.state) (page_setPage_same s p _)
  simp only [State.advance, hqueue, List.length_singleton, State.advanceUpTo, hengine, hlink, hqueued, if_true, hv]

theorem joined_page (s : State) (p : PageId) (r : Resting) : (s.joined p r).page p = { s.page p with state := .queued r } :=
  page_setPage_same s p _

theorem joined_slotOf (s : State) (p : PageId) (r : Resting) (n : SlotId) : (s.joined p r).slotOf p n = s.slotOf p n := by
  rw [State.slotOf, joined_page]
  rfl

theorem joined_occupied (s : State) (p : PageId) (r : Resting) :
    occupied ((s.joined p r).page p) = occupied (s.page p) := by
  rw [joined_page]
  rfl

/-- What the page dispatched leaves when it has entered WAITING at once (R133, R136, R137). -/
theorem enterWaiting_joined {e : Queued} (he : e = { page := p, stamp := s.pages.edition }) (hq : s.dispatch.queue = [])
    (hwanted : s.dispatch.wanted = Vector.replicate 12 none) (hon : holdersOn s p)
    (hroom : s.stations.outgoing.length + 12 ≤ 256) :
    ∃ S P W, (s.joined p r).enterWaiting e = { s with
      stories := S
      pages := { s.pages with pages := P }
      measure := { s.measure with
        queue := staleOnPage s p ++ s.measure.queue.filter fun k => decide (k ∉ staleOnPage s p) }
      dispatch := { s.dispatch with
        queue := [e], engine := .waiting, holdWaitTimer := some (s.dispatch.holdWait * 1000), wanted := W }
      stations := { s.stations with outgoing := s.stations.outgoing ++ holdWanted s e } } ∧
    ∀ n : SlotId, W[n.val] = s.holderAt p n := by
  have hep : e.page = p := by rw [he]
  subst hep
  have hslot := joined_slotOf s e.page r
  have hocc := joined_occupied s e.page r
  obtain ⟨W, hentered, hW⟩ := enterWaiting_taken (s := s.joined e.page r) (e := e) hwanted
    (fun m sm st hm hst => by
      rw [hslot] at hm
      have hst' := hon m sm st hm hst
      cases st <;> exact hst') hroom
  have htold : holdWanted (s.joined e.page r) e = holdWanted s e := by
    rw [holdWanted, hocc]
    rfl
  have hstale : staleOnPage (s.joined e.page r) e.page = staleOnPage s e.page := by
    rw [staleOnPage, State.pageStories, hocc]
    rfl
  have hqueue : (s.joined e.page r).dispatch = { s.dispatch with queue := [e] } := by
    rw [State.joined, hq, ← he]
    rfl
  obtain ⟨S, P, hawait⟩ := awaiting_eq (s.joined e.page r) e
  refine ⟨S, P, W, ?_, fun m => (hW m).trans ?_⟩
  · rw [hentered, hawait, htold, hstale, hqueue]
    rfl
  · rw [State.holderAt, hslot]
    rfl

theorem dispatchedHeadPageWaits : Parts.DispatchedHeadPageWaits := by
  intro s p r hr hne hup hidle hq hwanted ⟨n, sl, hn, hheld⟩ hon hok hroom
  obtain ⟨e, he⟩ : ∃ e : Queued, e = { page := p, stamp := s.pages.edition } := ⟨_, rfl⟩
  have hep : e.page = p := by rw [he]
  rw [exec_dispatch_system, dispatchRequest_resting hr hne, ← he]
  subst hep
  have hslot := joined_slotOf s e.page r
  have hnofail : ∀ m sm c, (s.joined e.page r).slotOf e.page m = some sm → ¬ slotFails (s.joined e.page r) sm c := by
    intro m sm c hm hc
    obtain ⟨hfault, hfresh⟩ := hok m sm ((hslot m).symm.trans hm)
    rcases hc with ⟨hs, -⟩ | ⟨hs, hfont, -⟩ | ⟨hs, -, hpolicy, hover, -⟩
    · exact hfault hs
    · exact hfont (hfresh hs).1
    · rcases (hfresh hs).2 with htrim | hfits
      · cases hpolicy.symm.trans htrim
      · cases hover.symm.trans hfits
  have hwaits := enterWaiting_waits ((hslot n).trans hn) hheld hnofail
  obtain ⟨S, P, W, hframe, hW⟩ := enterWaiting_joined (r := r) he hq hwanted hon hroom
  have hpage := enterWaiting_page (s.joined e.page r) e
  have hstory := enterWaiting_story (s.joined e.page r) e
  rw [advance_joined_waits he hup hidle hq hwaits]
  rw [hframe] at hpage hstory ⊢
  refine ⟨_, rfl, rfl, (hpage e.page).trans ?_, fun q hqe => (hpage q).trans ?_, fun k => (hstory k).trans ?_, hW, fun _ => rfl⟩
  · rw [if_pos rfl, joined_page]
    rfl
  · rw [if_neg hqe]
    exact page_setPage_ne s _ hqe
  · rw [State.pageStories, joined_occupied]
    show (if k ∈ s.pageStories e.page then { s.story k with closing := true } else s.story k) = _
    by_cases hk : k ∈ s.pageStories e.page <;> simp [hk]

/-! ## Refusals (R132, R133) -/

theorem pageCommandsRefuseInOrder : Parts.PageCommandsRefuseInOrder := by
  intro s code st p sz v hst
  have hoff : 0x10C0010 + 256 * p.val = 0x10C0000 + 256 * p.val + 16 := by omega
  rw [hoff]
  refine ⟨refusedFor_of_exec (exec_dispatch hst sz) (.systemFirst ?_), refusedFor_of_exec (exec_cancel hst sz) (.systemFirst .none),
    fun hdispatch hcancel => valueRefused_of_live (liveAt_pageCommand p) hst (.systemFirst ?_)⟩
  · rw [testing_nil, if_pos rfl]
    by_cases hempty : (s.page p).state = .resting .empty
    · rw [if_pos hempty, State.dispatchRequest, hempty]
      exact .refuse
    · rw [if_neg hempty]
      exact .none
  · rw [testing_nil, if_neg (show v ≠ dispatchWord from hdispatch), if_neg (show v ≠ cancelWord from hcancel)]
    exact .refuse

/-- Settles O45: the page joins the queue and stays or enters WAITING, and a CANCEL fails it. -/
theorem dispatchQueuesOrWaits : Obligations.DispatchQueuesOrWaits :=
  ⟨dispatchQueuesAndCancelRemoves, dispatchedHeadPageWaits, pageCommandsRefuseInOrder⟩

end Sys2Proof.Machine
end

section
/-! PROOFS. Writes of a slot's story: PLACE, replace and REMOVE edit the page's plan, the REMOVE that empties a QUEUED page cancels it, and
each is refused in order (R119, R122, R124, R125, R127, R128). -/

namespace Sys2Proof.Machine

open Safety

variable {s u : State} {code : StationCode} {st : Station} {p : PageId} {n : SlotId} {k : StoryId} {sl : Slot}
  {before : Option StoryId}

/-! ## The requests -/

theorem exec_place (hst : stationOf code = some st) (sz : Size) :
    exec (.place code p n sz k) s = .next (s.writeStory st p n sz (BitVec.ofNat 32 k.val)) := by
  show Host.Outcome.next (asStation code s _) = _
  rw [asStation_some hst]

theorem exec_remove (hst : stationOf code = some st) (sz : Size) :
    exec (.remove code p n sz) s = .next (s.writeStory st p n sz emptyCode) := by
  show Host.Outcome.next (asStation code s _) = _
  rw [asStation_some hst]

theorem writeStory_empty (sz : Size) :
    s.writeStory st p n sz emptyCode = testing st (s.planTests st p sz) s (s.removeRequest st p n) := by
  rw [State.writeStory, if_pos rfl]

/-- A story number written to STORY names that story. -/
theorem writeStory_number (sz : Size) : s.writeStory st p n sz (BitVec.ofNat 32 k.val) =
    testing st (s.planTests st p sz) s (s.placeRequest st p n k) := by
  have hk := k.isLt
  have hnat : (BitVec.ofNat 32 k.val).toNat = k.val := by
    rw [BitVec.toNat_ofNat]
    omega
  have hne : BitVec.ofNat 32 k.val ≠ emptyCode := fun h => by
    have h' := congrArg BitVec.toNat h
    rw [hnat] at h'
    simp [emptyCode] at h'
    omega
  have hnamed : storyOf (BitVec.ofNat 32 k.val) = some k := by
    simp [storyOf, hnat]
  rw [State.writeStory, if_neg hne, hnamed]

theorem exec_place_request (hst : stationOf code = some st) (hmay : mayPlan s st) (he : editable s p) :
    exec (.place code p n .word k) s = .next (s.placeRequest st p n k) := by
  rw [exec_place hst, writeStory_number, planTests_pass hmay he]

theorem exec_remove_taken (hst : stationOf code = some st) (hmay : mayPlan s st) (he : editable s p)
    (hsl : s.slotOf p n = some sl) : exec (.remove code p n .word) s = .next (s.removeTaken st p n sl) := by
  rw [exec_remove hst, writeStory_empty, planTests_pass hmay he, State.removeRequest, hsl]

/-- A PLACE of a story in no slot passes R124's own tests: the slot is filled if it is empty. -/
theorem placeRequest_empty (hused : (s.story k).phase ≠ .unused) (hplaced : (s.story k).placement = none)
    (hsl : s.slotOf p n = none) : s.placeRequest st p n k = s.placeTaken st p n k := by
  rw [State.placeRequest, if_neg (by simp [hsl]), hsl]
  simp [hused, hplaced]

/-- The same in a slot that holds another story. -/
theorem placeRequest_occupied (hused : (s.story k).phase ≠ .unused) (hplaced : (s.story k).placement = none)
    (hsl : s.slotOf p n = some sl) (hne : k ≠ sl.story) : s.placeRequest st p n k = s.replaceTaken st p n sl k := by
  rw [State.placeRequest, if_neg (by simp [hsl, hne.symm]), hsl]
  simp [hused, hplaced]

/-! ## The stories (R124, R125) -/

theorem unplace_eq (s : State) (k j : StoryId) :
    (s.unplace k).story j = if j = k then leftSlot (s.story k) else s.story j := by
  rw [story_unplace]
  split
  · rw [unfreeze_story, leftSlot]
    split <;> simp_all
  · rfl

/-- A story that leaves its slot changes no record but its own. -/
theorem unplace_frame (s : State) (k : StoryId) : s.unplace k = { s with stories := (s.unplace k).stories } := by
  unfold State.unplace State.unfreeze
  split <;> rfl

theorem placeIn_eq (s : State) (k : StoryId) (p : PageId) (n : SlotId) (j : StoryId) :
    (s.placeIn k p n).story j = if j = k then { s.story k with placement := some (p, n) } else s.story j :=
  story_setStory s j k _

theorem inPass_unplace (s : State) (k j : StoryId) : (s.unplace k).inPass j = s.inPass j := by
  rw [unplace_frame]
  rfl

/-! ## An edit that fills or empties a slot -/

/-- A slot is set, with or without a story, and the page edited: what it leaves while no QUEUED page is emptied. -/
theorem slotEdit_exchanged {new : Option Slot}
    (hframe : u = { s.putSlot p n new with stories := u.stories, measure := u.measure }) (he : editable s p)
    (hocc : (∃ r, (s.page p).state = .resting r) ∨ ∃ m, (if m = n then new else s.slotOf p m) ≠ none)
    (hroom : s.stations.outgoing.length < 256) {v : State} (hv : v = (u.edited p (some n) before st).done) :
    slotEdit p n before st [] s v ∧ (∀ m, v.slotOf p m = if m = n then new else s.slotOf p m) ∧
      (∀ k, v.story k = u.story k) ∧ v.measure = u.measure := by
  have hpage : ∀ q, u.page q = (s.putSlot p n new).page q := fun q => by
    rw [hframe]
    rfl
  have hpp : u.page p = setSlot (s.page p) n new := (hpage p).trans (page_setPage_same s p _)
  have huslot : ∀ m, u.slotOf p m = if m = n then new else s.slotOf p m := fun m => by
    have hm := slotOf_putSlot s p n new p m
    simp only [Prod.mk.injEq, true_and] at hm
    rw [← hm, State.slotOf, hpage]
    rfl
  have hkept : ∀ r, (s.page p).state = .queued r → anyOccupied (u.page p) = true := fun r hr => by
    rcases hocc with ⟨r', hr'⟩ | ⟨m, hm⟩
    · cases hr.symm.trans hr'
    · exact Bool.of_not_eq_false fun hnone => hm ((huslot m).symm.trans ((anyOccupied_eq_false u p).1 hnone m))
  obtain ⟨hedit, hvp, hstories, hmeasure⟩ := pageEdit_edited (n := some n) (before := before) (st := st) (told := [])
    (by rw [hframe, List.append_nil]; rfl) (fun q hq => (hpage q).trans (page_setPage_ne s _ hq)) (by rw [hpp]; rfl) he hkept
    (by simpa using hroom) hv
  have hslots : (v.page p).slots = (u.page p).slots := by rw [hvp]
  refine ⟨⟨hedit, ?_⟩, fun m => ?_, fun k => congrArg (fun S => tableGet (fun _ => unusedStory) S k.val) hstories, hmeasure⟩
  · rw [hslots, hvp, hpp]
    rfl
  · rw [State.slotOf, hslots]
    exact huslot m

/-! ## What is taken -/

theorem placeAndRemoveEditThePlan : Parts.PlaceAndRemoveEditThePlan := by
  intro s code st p n k hst hmay he hroom hpass
  refine ⟨fun hsl hused hplaced => ?_, fun sl hsl hk => ⟨?_, fun hocc => ?_⟩⟩
  · rw [exec_place_request hst hmay he, placeRequest_empty hused hplaced hsl]
    obtain ⟨hstory, hframe⟩ := stale_outOfPass (k := k)
      (s := (s.placeIn k p n).putSlot p n (some { story := k, span := 1, allowance := (s.page p).depth, policy := .hold })) hpass
    have hplacedStory := (placeIn_eq s k p n k).trans (if_pos rfl)
    obtain ⟨hedit, hslots, hsame, hmeasure⟩ := slotEdit_exchanged (before := none) (st := st)
      (new := some { story := k, span := 1, allowance := (s.page p).depth, policy := .hold })
      (hframe.trans (by rw [hframe]; rfl)) he (.inr ⟨n, by simp⟩) hroom rfl
    refine ⟨_, rfl, hedit, hslots, (hsame k).trans ?_, fun j hj => (hsame j).trans ?_, hmeasure.trans ?_⟩
    · rw [hstory, if_pos rfl, story_putSlot, hplacedStory]
    · rw [hstory, if_neg hj, story_putSlot, placeIn_eq, if_neg hj]
    · rw [hframe, story_putSlot, hplacedStory]
      rfl
  · rw [exec_place_request hst hmay he, State.placeRequest, if_pos (by rw [hsl, ← hk]; rfl)]
    rfl
  · subst hk
    rw [exec_remove_taken hst hmay he hsl]
    obtain ⟨hstory, hframe⟩ := stale_outOfPass (k := sl.story) (s := (s.unplace sl.story).putSlot p n none)
      ((inPass_unplace s sl.story sl.story).trans hpass)
    have hleft := (unplace_eq s sl.story sl.story).trans (if_pos rfl)
    obtain ⟨hedit, hslots, hsame, hmeasure⟩ := slotEdit_exchanged (before := some sl.story) (st := st) (new := none)
      (hframe.trans (by rw [hframe, unplace_frame]; rfl)) he
      (hocc.imp id fun ⟨m, hm, hother⟩ => ⟨m, by rwa [if_neg hm]⟩) hroom rfl
    refine ⟨_, rfl, hedit, hslots, (hsame _).trans ?_, fun j hj => (hsame j).trans ?_, hmeasure.trans ?_⟩
    · rw [hstory, if_pos rfl, story_putSlot, hleft]
    · rw [hstory, if_neg hj, story_putSlot, unplace_eq, if_neg hj]
    · rw [hframe, story_putSlot, hleft, unplace_frame]
      rfl

theorem inOrder_perm (a b : StoryId) : (inOrder a b).Perm [a, b] := by
  unfold inOrder
  split
  · exact .refl _
  · exact .swap _ _ _

theorem replaceKeepsTheSlotsTerms : Parts.ReplaceKeepsTheSlotsTerms := by
  intro s code st p n k sl hst hmay he hroom hpass hpassOld hsl hne hused hplaced hfresh hfreshOld
  rw [exec_place_request hst hmay he, placeRequest_occupied hused hplaced hsl hne]
  obtain ⟨u, hu⟩ : ∃ u, u = ((s.unplace sl.story).placeIn k p n).putSlot p n (some { sl with story := k }) := ⟨_, rfl⟩
  have hustory : ∀ j, u.story j = if j = k then { s.story k with placement := some (p, n) }
      else if j = sl.story then leftSlot (s.story sl.story) else s.story j := fun j => by
    rw [hu, story_putSlot, placeIn_eq, unplace_eq, unplace_eq, if_neg hne]
  have huframe : u = { s.putSlot p n (some { sl with story := k }) with stories := u.stories } := by
    rw [hu, unplace_frame]
    rfl
  have hmem : ∀ j, j ∈ inOrder sl.story k ↔ j = sl.story ∨ j = k := fun j => by
    rw [(inOrder_perm sl.story k).mem_iff]
    simp
  have hupass : ∀ j ∈ inOrder sl.story k, u.inPass j = false := fun j hj => by
    rw [huframe]
    rcases (hmem j).1 hj with rfl | rfl
    · exact hpassOld
    · exact hpass
  have hold : u.story sl.story = leftSlot (s.story sl.story) := by rw [hustory, if_neg hne.symm, if_pos rfl]
  have hnew : u.story k = { s.story k with placement := some (p, n) } := by rw [hustory, if_pos rfl]
  have hfreshes : ∀ j ∈ inOrder sl.story k, (u.story j).depth.status = .fresh := fun j hj => by
    rcases (hmem j).1 hj with rfl | rfl
    · rwa [hold]
    · rwa [hnew]
  obtain ⟨hstory, hframe⟩ := staleAll_story (inOrder sl.story k) u
    ((inOrder_perm sl.story k).nodup_iff.2 (by simp [hne.symm])) hupass
  rw [List.filter_eq_self.2 fun j hj => by rw [hfreshes j hj]; rfl] at hframe
  have hstaled : ∀ j ∈ inOrder sl.story k, (u.staleAll (inOrder sl.story k)).story j = staledEntry (u.story j) := fun j hj => by
    rw [hstory, if_pos ⟨hj, by simp [hfreshes j hj]⟩, staledEntry, if_neg (by simp [hfreshes j hj])]
  obtain ⟨hedit, hslots, hsame, hmeasure⟩ := slotEdit_exchanged (before := some sl.story) (st := st)
    (new := some { sl with story := k }) (hframe.trans (by rw [hframe, huframe])) he (.inr ⟨n, by simp⟩) hroom rfl
  rw [State.replaceTaken, ← hu]
  refine ⟨_, rfl, hedit, hslots, (hsame k).trans ?_, (hsame _).trans ?_, fun j hjk hjs => (hsame j).trans ?_, hmeasure.trans ?_⟩
  · rw [hstaled k ((hmem k).2 (.inr rfl)), hnew]
  · rw [hstaled sl.story ((hmem sl.story).2 (.inl rfl)), hold]
  · rw [hstory, if_neg fun h => ((hmem j).1 h.1).elim hjs hjk, hustory, if_neg hjk, if_neg hjs]
  · rw [hframe, huframe]
    rfl

/-! ## The REMOVE that empties a QUEUED page (R128, R134) -/

/-- A queued page emptied by an edit leaves the queue as an EMPTY page. -/
theorem edited_emptied {r : Resting} (hq : (u.page p).state = .queued r) (hnone : ∀ m, u.slotOf p m = none) :
    u.edited p (some n) before st = (u.setPageState p (.queued .empty)).cancelPage p st := by
  rw [State.edited, hq, (anyOccupied_eq_false u p).2 hnone]
  rfl

theorem noSlots_of_slotOf (hnone : ∀ m, u.slotOf p m = none) : (u.page p).slots = Vector.replicate 12 none :=
  Vector.ext fun i hi => (hnone ⟨i, hi⟩).trans (Vector.getElem_replicate hi).symm

/-- The last slot of a QUEUED page is emptied and the page edited: the page is cancelled. -/
theorem slotEdit_emptied {r : Resting} {e : Queued}
    (hframe : u = { s.putSlot e.page n none with stories := u.stories, measure := u.measure })
    (hq : (s.page e.page).state = .queued r) (hd : DispatchLaw s) (hmem : e ∈ s.dispatch.queue)
    (hothers : ∀ m, m ≠ n → s.slotOf e.page m = none) (hroom : s.stations.outgoing.length < 256) {v : State}
    (hv : v = (u.edited e.page (some n) before st).done) :
    v = { s with
      bus := doneBus, stories := v.stories, measure := v.measure
      pages := { s.pages with pages := v.pages.pages }
      dispatch := { s.dispatch with
        queue := s.dispatch.queue.filter fun q => decide (q.page ≠ e.page)
        wanted := if s.dispatch.queue.head? = some e then Vector.replicate 12 none else s.dispatch.wanted }
      stations := { s.stations with outgoing := s.stations.outgoing ++ [failedOutgoing s e 10 (some st)] } } ∧
    v.page e.page = { s.page e.page with
      slots := Vector.replicate 12 none, state := .resting .empty, lastResult := .failed .cancelled } ∧
    SamePagesBut e.page s v ∧ (∀ j, v.story j = u.story j) ∧ v.measure = u.measure := by
  have hpage : ∀ q, u.page q = (s.putSlot e.page n none).page q := fun q => by
    rw [hframe]
    rfl
  have hpp : u.page e.page = setSlot (s.page e.page) n none := (hpage e.page).trans (page_setPage_same s e.page _)
  have hnone : ∀ m, u.slotOf e.page m = none := fun m => by
    have hm := slotOf_putSlot s e.page n none e.page m
    rw [State.slotOf, hpage]
    refine hm.trans ?_
    split
    · rfl
    · rename_i hmn
      exact hothers m fun h => hmn (by rw [h])
  obtain ⟨w, hw⟩ : ∃ w, w = u.setPageState e.page (.queued .empty) := ⟨_, rfl⟩
  have hwpage : ∀ q, w.page q = if q = e.page then { u.page e.page with state := .queued .empty } else u.page q := fun q => by
    rw [hw]
    exact page_setPage u q e.page _
  have hwp := (hwpage e.page).trans (if_pos rfl)
  have hwframe : w = { s with stories := u.stories, measure := u.measure, pages := { s.pages with pages := w.pages.pages } } := by
    rw [hw, hframe]
    rfl
  have hcancel := cancelPage_queued (u := w) (st := st) hd (by rw [hwframe]) (by rw [hwframe]) hmem hq (by rw [hwp])
    (by rw [hwframe]; exact hroom)
  rw [edited_emptied (by rw [hpp]; exact hq) hnone, ← hw, hcancel] at hv
  have hvpage : ∀ q, v.page q =
      if q = e.page then { w.page e.page with state := .resting .empty, lastResult := .failed .cancelled } else w.page q :=
    fun q => by
      rw [hv]
      exact page_setPage w q e.page _
  have hvw : v = { w with pages := v.pages, dispatch := v.dispatch, stations := v.stations, bus := doneBus } := by rw [hv]; rfl
  refine ⟨?_, ?_, fun q hne => ?_, fun j => ?_, ?_⟩
  · rw [hv, hwframe]
    rfl
  · rw [hvpage, if_pos rfl, hwp, ← noSlots_of_slotOf hnone, hpp]
    rfl
  · rw [hvpage, if_neg hne, hwpage, if_neg hne, hpage]
    exact page_setPage_ne s _ hne
  · rw [hvw, hw]
    rfl
  · rw [hvw, hw]
    rfl

theorem emptyingAQueuedPageCancelsIt : Parts.EmptyingAQueuedPageCancelsIt := by
  intro s code st p n sl r e hst hmay hq hd hmem hp hsl hothers hpass hroom
  subst hp
  rw [exec_remove_taken hst hmay (.inr ⟨r, hq⟩) hsl]
  obtain ⟨hstory, hframe⟩ := stale_outOfPass (k := sl.story) (s := (s.unplace sl.story).putSlot e.page n none)
    ((inPass_unplace s sl.story sl.story).trans hpass)
  have hleft := (unplace_eq s sl.story sl.story).trans (if_pos rfl)
  have hqueue : (((s.unplace sl.story).putSlot e.page n none).stale sl.story).measure = { s.measure with
      queue := s.measure.queue ++
        if (s.story sl.story).depth.status = .none ∨ (s.story sl.story).depth.status = .stale then [] else [sl.story] } := by
    rw [hframe, story_putSlot, hleft, unplace_frame]
    rfl
  obtain ⟨hall, hpage, hbut, hsame, hmeasure⟩ := slotEdit_emptied (before := some sl.story) (st := st)
    (hframe.trans (by rw [hframe, unplace_frame]; rfl)) hq hd hmem hothers hroom rfl
  refine ⟨_, rfl, hall.trans ?_, hpage, hbut, (hsame _).trans ?_, fun j hj => (hsame j).trans ?_, fun a => ?_⟩
  · rw [hmeasure, hqueue]
    rfl
  · rw [hstory, if_pos rfl, story_putSlot, hleft]
  · rw [hstory, if_neg hj, story_putSlot, unplace_eq, if_neg hj]
  · exact (congrArg (fun w : State => w.memByte a) hall).trans rfl

/-! ## What is refused (R122, R124) -/

theorem placeRequest_refuses : Refuses s st
    (if (s.slotOf p n).map Slot.story = some k then .none
      else if (s.story k).phase = .unused then .badState
      else if (s.story k).placement ≠ none then .badState
      else .none) (s.placeRequest st p n k) := by
  rw [State.placeRequest]
  exact .if .rfl (fun _ => .none) fun _ =>
    .test (by simp) fun _ => .last (by simp [Option.isSome_iff_ne_none]) fun _ => .none

/-- Where no test of R122 refuses, what is asked for is taken. -/
theorem planTests_taken {sz : Size} {t : State} (h : afterPlanTests s st p sz .none = .none) :
    testing st (s.planTests st p sz) s t = t := by
  unfold afterPlanTests afterSignOn at h
  split at h
  · nomatch h
  rename_i hsz
  split at h
  · nomatch h
  rename_i hon
  split at h
  · nomatch h
  rename_i hright
  split at h
  · nomatch h
  rename_i hfree
  rw [State.planTests, testing_cons, if_neg (mt (badSize_iff sz).1 hsz), testing_cons, if_neg (mt not_signedOn_iff.1 hon),
    testing_cons, if_neg (mt (lacksMakeup_iff s st).1 hright), testing_cons, if_neg (mt (committed_iff _).1 hfree), testing_nil]

theorem storyOf_eq_none {v : Word} (hv : 2048 ≤ v.toNat) : storyOf v = none := dif_neg (by omega)

theorem storyWritesRefuseInOrder : Parts.StoryWritesRefuseInOrder := by
  intro s code st p n sz k v hst
  refine ⟨refusedFor_of_exec (exec_place hst sz) ?_, refusedFor_of_exec (exec_remove hst sz) ?_, fun h hsl => ?_,
    fun hv hne => ?_⟩
  · rw [writeStory_number]
    exact .planFirst placeRequest_refuses
  · rw [writeStory_empty]
    exact .planFirst .none
  · rw [exec_remove hst, writeStory_empty, planTests_taken h, State.removeRequest, hsl]
    rfl
  · have hoff : 0x10C0040 + 256 * p.val + 16 * n.val = 0x10C0000 + 256 * p.val + (64 + 4 * 0) + 16 * n.val := by omega
    rw [hoff]
    refine valueRefused_of_live (liveAt_slotTerm p n (j := 0) (by decide)) hst ?_
    show Refuses s st _ (s.writeStory st p n .word v)
    rw [State.writeStory, if_neg (show v ≠ emptyCode from hne), storyOf_eq_none hv]
    exact .planFirst .refuse

/-- Settles O43: each write is its request once the tests of R122 and R124 pass, and the request is a change of the stories and of one
slot, which the edit of the page turns into a state of the page or into its cancellation. -/
theorem storyWritesEditThePlan : Obligations.StoryWritesEditThePlan :=
  ⟨placeAndRemoveEditThePlan, replaceKeepsTheSlotsTerms, emptyingAQueuedPageCancelsIt, storyWritesRefuseInOrder⟩

end Sys2Proof.Machine
end


section
/-! PROOFS. Rings and ring writes (R107, R109, R110, R113): what a change of one station's ring leaves, what memory holds when a ring write
ends, and the delivery of the head notice. -/

namespace Sys2Proof.Machine

open Safety

variable {s t : State} {st : Station} {o : Outgoing} {q : List Outgoing} {w : RingWrite}

/-! ## One station's ring -/

theorem ring_of_stations (hterm : t.stations.terminals = s.stations.terminals) (hsys : t.stations.system.ring = s.stations.system.ring)
    (st : Station) : t.ring st = s.ring st := by
  cases st with
  | system => exact hsys
  | terminal u => simp only [State.ring, State.terminal, hterm]

@[simp] theorem ring_refreshLines (s : State) (st : Station) : s.refreshLines.ring st = s.ring st := ring_of_stations rfl rfl st

@[simp] theorem ring_done (s : State) (st : Station) : s.done.ring st = s.ring st := ring_of_stations rfl rfl st

/-- A change of one station's ring leaves every other ring and the rest of the station records. -/
structure RingSet (owner : Station) (r : Ring) (s t : State) : Prop where
  own : t.ring owner = r
  other : ∀ st, st ≠ owner → t.ring st = s.ring st
  rest : sameButRings s t

theorem ringSet_setRing (s : State) (owner : Station) (r : Ring) : RingSet owner r s (s.setRing owner r) := by
  refine ⟨ring_setRing_same s owner r, fun st h => ring_setRing_ne s r h, fun u => ?_, by cases owner <;> rfl⟩
  cases owner with
  | system => rfl
  | terminal v =>
    show { (s.setTerminal v _).terminal u with ring := (s.terminal u).ring } = _
    rw [terminal_setTerminal]
    split
    · rename_i h; rw [h]
    · rfl

/-- Changes outside the rings come before or after it. -/
theorem RingSet.congr {x y : State} {owner : Station} {r : Ring} (h : RingSet owner r x y)
    (hx : x.stations.terminals = s.stations.terminals) (hx' : x.stations.system = s.stations.system)
    (hy : t.stations.terminals = y.stations.terminals) (hy' : t.stations.system = y.stations.system) : RingSet owner r s t := by
  have hring := ring_of_stations hy (congrArg SystemRecord.ring hy')
  refine ⟨(hring owner).trans h.own, fun st hne => ?_, fun u => ?_, ?_⟩
  · rw [hring, h.other st hne]
    exact ring_of_stations hx (congrArg SystemRecord.ring hx') st
  · have hu := h.rest.1 u
    simpa only [State.terminal, hx, hy] using hu
  · rw [hy', h.rest.2, hx']

/-! ## The start of a ring write (R109) -/

theorem ringWriteStart_nothing (h : s.stations.ringWrite ≠ none ∨ s.stations.outgoing = []) : s.ringWriteStart = s := by
  unfold State.ringWriteStart
  split
  · rename_i hr ho
    simp [hr, ho] at h
  · rfl

theorem dropHead_eq (hq : s.stations.outgoing = o :: q) : s.dropHead = { s with stations := { s.stations with outgoing := q } } := by
  rw [State.dropHead, hq]
  rfl

/-- The head notice tested against its recipient. -/
theorem ringWriteStart_head (hr : s.stations.ringWrite = none) (hq : s.stations.outgoing = o :: q) : s.ringWriteStart =
    if s.signedOn o.recipient then
      if unread (s.ring o.recipient) < 32 then
        s.setRingWrite (some
          { recipient := o.recipient, notice := o.notice, slot := (s.ring o.recipient).write.toNat % 32
            voided := false, contested := [] })
      else s.dropHead.setOverrun o.recipient
    else s.dropHead := by
  simp only [State.ringWriteStart, hr, hq]

/-! ## What memory holds at its end (R109; assumption 3) -/

theorem ringWriteBytes_length (s : State) (w : RingWrite) : (s.ringWriteBytes w).length = 16 := List.length_mapIdx

/-- With no byte contested by a station, the slot holds the record. -/
theorem ringWriteBytes_uncontested (hw : w.contested = []) : s.ringWriteBytes w = noticeBytes w.notice := by
  simp only [State.ringWriteBytes, State.stationByteStays, hw, List.contains_nil, Bool.false_and, Bool.false_eq_true, if_false]
  exact List.ext_getElem (by simp) fun i _ _ => by simp

/-- The end of a ring write stores sixteen bytes from the slot's first on, and touches nothing but memory. -/
theorem ringWriteStored_eq (s : State) (w : RingWrite) (f : Bool) : ∃ (bs : List Byte) (n : Nat), bs.length = 16 ∧
    s.ringWriteStored w f = { s.store (s.ringAddr w.recipient (16 * w.slot)) bs with free := n } ∧
    (f = false → bs = s.ringWriteBytes w) := by
  cases f with
  | true => exact ⟨_, _, by simp, rfl, nofun⟩
  | false => exact ⟨s.ringWriteBytes w, _, ringWriteBytes_length s w, rfl, fun _ => rfl⟩

/-- Memory once a ring write has ended. -/
theorem memByte_ringWriteStored (s : State) (w : RingWrite) (f : Bool) :
    SameMemoryBut (s.ringAddr w.recipient (16 * w.slot)) 16 s (s.ringWriteStored w f) ∧
    (f = false → w.contested = [] → ∀ i b, (noticeBytes w.notice)[i]? = some b →
      (s.ringWriteStored w f).memByte (s.ringAddr w.recipient (16 * w.slot) + i) = b) := by
  obtain ⟨bs, n, hlen, heq, hbytes⟩ := ringWriteStored_eq s w f
  rw [heq]
  refine ⟨fun x hx => get_storeBytes_ne bs s.mem _ x (by rwa [hlen]), fun hf hc i b hb => ?_⟩
  rw [← ringWriteBytes_uncontested (s := s) hc, ← hbytes hf] at hb
  obtain ⟨hi, hget⟩ := List.getElem?_eq_some_iff.1 hb
  exact (get_storeBytes_at bs s.mem _ i hi).trans hget

/-! ## The end of a ring write (R109, R113) -/

/-- The ring write has ended in memory and its notice has left the queue. -/
def State.ringWriteLanded (s : State) (w : RingWrite) (f : Bool) : State := ((s.ringWriteStored w f).setRingWrite none).dropHead

theorem ringWriteComplete_nothing (h : s.stations.ringWrite = none) (f : Bool) : s.ringWriteComplete f = s := by
  simp only [State.ringWriteComplete, h]

theorem ringWriteComplete_some (h : s.stations.ringWrite = some w) (f : Bool) : s.ringWriteComplete f =
    if w.voided then (s.ringWriteStored w f).setRingWrite none
    else if f then (s.ringWriteLanded w f).setOverrun w.recipient
    else ((s.ringWriteLanded w f).advanceRing w.recipient).refreshLines := by
  simp only [State.ringWriteComplete, h]
  rfl

theorem ringWriteVoided_frame (s : State) (w : RingWrite) (f : Bool) : (s.ringWriteStored w f).setRingWrite none = { s with
    mem := (s.ringWriteStored w f).mem, free := (s.ringWriteStored w f).free, stations := { s.stations with ringWrite := none } } := by
  obtain ⟨bs, n, -, heq, -⟩ := ringWriteStored_eq s w f
  rw [heq]
  rfl

theorem ringWriteLanded_frame (hq : s.stations.outgoing = o :: q) (w : RingWrite) (f : Bool) : s.ringWriteLanded w f = { s with
    mem := (s.ringWriteStored w f).mem, free := (s.ringWriteStored w f).free
    stations := { s.stations with outgoing := q, ringWrite := none } } := by
  rw [State.ringWriteLanded, ringWriteVoided_frame, State.dropHead]
  simp only [hq, List.tail_cons]

/-- What the end of a ring write sets in its recipient's ring, and the lines with it if they follow. -/
theorem ringSet_landed (hq : s.stations.outgoing = o :: q) (w : RingWrite) (f : Bool) (r : Ring) :
    RingSet w.recipient r s ((s.ringWriteLanded w f).setRing w.recipient r) :=
  (ringSet_setRing _ _ r).congr (by rw [ringWriteLanded_frame hq]) (by rw [ringWriteLanded_frame hq]) rfl rfl

theorem ring_ringWriteLanded (hq : s.stations.outgoing = o :: q) (w : RingWrite) (f : Bool) (st : Station) :
    (s.ringWriteLanded w f).ring st = s.ring st := by
  rw [ringWriteLanded_frame hq]
  exact ring_of_stations rfl rfl st

/-! ## The statements -/

/-- A full ring: the head notice is discarded with the overrun flag set. -/
theorem ringWriteStart_full (hr : s.stations.ringWrite = none) (hq : s.stations.outgoing = o :: q)
    (hon : s.signedOn o.recipient = true) (hfull : 32 ≤ unread (s.ring o.recipient)) :
    s.ringWriteStart = s.dropHead.setOverrun o.recipient := by
  rw [ringWriteStart_head hr hq, if_pos hon, if_neg (not_lt.2 hfull)]

/-- A change of a ring changes nothing but the station records. -/
theorem setRing_frame (s : State) (st : Station) (r : Ring) : s.setRing st r = { s with stations := { s.stations with
    terminals := (s.setRing st r).stations.terminals, system := (s.setRing st r).stations.system } } := by
  cases st <;> rfl

/-- Nor does it when the lines follow, but for the lines. -/
theorem setRing_refreshLines_frame (s : State) (st : Station) (r : Ring) : (s.setRing st r).refreshLines = { s with
    stations := { s.stations with
      terminals := (s.setRing st r).refreshLines.stations.terminals, system := (s.setRing st r).refreshLines.stations.system
      groupLines := (s.setRing st r).refreshLines.stations.groupLines
      systemLine := (s.setRing st r).refreshLines.stations.systemLine } } := by
  cases st <;> rfl

theorem ringWriteStarts (hq : s.stations.outgoing = o :: q) (hr : s.stations.ringWrite = none) :
    (s.signedOn o.recipient = false →
      exec .ringWriteStart s = .next { s with stations := { s.stations with outgoing := q } }) ∧
    (s.signedOn o.recipient = true → 32 ≤ unread (s.ring o.recipient) →
      ∃ t, exec .ringWriteStart s = .next t ∧
        t = { s with stations := { s.stations with
          outgoing := q, terminals := t.stations.terminals, system := t.stations.system } } ∧
        t.ring o.recipient = { s.ring o.recipient with overrun := true } ∧ sameButRings s t ∧
        ∀ st, st ≠ o.recipient → t.ring st = s.ring st) ∧
    (s.signedOn o.recipient = true → unread (s.ring o.recipient) < 32 →
      exec .ringWriteStart s = .next { s with stations := { s.stations with
        ringWrite := some
          { recipient := o.recipient, notice := o.notice, slot := (s.ring o.recipient).write.toNat % 32
            voided := false, contested := [] } } }) := by
  have hexec : exec .ringWriteStart s = .next s.ringWriteStart := rfl
  rw [hexec]
  refine ⟨fun hoff => ?_, fun hon hfull => ⟨_, rfl, ?_, ?_⟩, fun hon hroom => ?_⟩
  · rw [ringWriteStart_head hr hq, if_neg (by simp [hoff]), dropHead_eq hq]
  · rw [ringWriteStart_full hr hq hon hfull]
    exact (setRing_frame _ _ _).trans (by rw [dropHead_eq hq]; rfl)
  · rw [ringWriteStart_full hr hq hon hfull]
    have hset : RingSet o.recipient { s.ring o.recipient with overrun := true } s (s.dropHead.setOverrun o.recipient) := by
      have hring : s.dropHead.ring o.recipient = s.ring o.recipient := ring_of_stations rfl rfl _
      rw [State.setOverrun, hring]
      exact (ringSet_setRing s.dropHead o.recipient _).congr rfl rfl rfl rfl
    exact ⟨hset.own, hset.rest, hset.other⟩
  · rw [ringWriteStart_head hr hq, if_pos hon, if_pos hroom]
    rfl

/-- A ring write that was not voided ends: memory completes it, or reports a data fault on it. -/
theorem ringWriteEnds (hr : s.stations.ringWrite = some w) (hq : s.stations.outgoing = o :: q) (hv : w.voided = false) :
    (w.contested = [] →
      ∃ t, exec (.ringWriteComplete false) s = .next t ∧
        t = { s with
          mem := t.mem, free := t.free
          stations := { s.stations with
            outgoing := q, ringWrite := none, terminals := t.stations.terminals, system := t.stations.system
            groupLines := t.stations.groupLines, systemLine := t.stations.systemLine } } ∧
        t.ring w.recipient = { s.ring w.recipient with write := (s.ring w.recipient).write + 1 } ∧
        (∀ st, st ≠ w.recipient → t.ring st = s.ring st) ∧ sameButRings s t ∧ LineLaw t ∧
        (∀ i b, (noticeBytes w.notice)[i]? = some b → t.memByte (s.ringAddr w.recipient (16 * w.slot) + i) = b) ∧
        SameMemoryBut (s.ringAddr w.recipient (16 * w.slot)) 16 s t) ∧
    ∃ t, exec (.ringWriteComplete true) s = .next t ∧
      t = { s with
        mem := t.mem, free := t.free
        stations := { s.stations with
          outgoing := q, ringWrite := none, terminals := t.stations.terminals, system := t.stations.system } } ∧
      t.ring w.recipient = { s.ring w.recipient with overrun := true } ∧
      (∀ st, st ≠ w.recipient → t.ring st = s.ring st) ∧ sameButRings s t ∧
      SameMemoryBut (s.ringAddr w.recipient (16 * w.slot)) 16 s t := by
  have hexec : ∀ f, exec (.ringWriteComplete f) s = .next (if f then (s.ringWriteLanded w f).setOverrun w.recipient
      else ((s.ringWriteLanded w f).advanceRing w.recipient).refreshLines) := fun f => by
    show Host.Outcome.next (s.ringWriteComplete f) = _
    rw [ringWriteComplete_some hr, hv, if_neg (by decide)]
  have hmem : ∀ f a, (s.ringWriteLanded w f).memByte a = (s.ringWriteStored w f).memByte a := fun _ _ => rfl
  refine ⟨fun hc => ⟨_, hexec false, ?_⟩, ⟨_, hexec true, ?_⟩⟩
  · obtain ⟨hbut, hbytes⟩ := memByte_ringWriteStored s w false
    have hset := ringSet_landed hq w false { s.ring w.recipient with write := (s.ring w.recipient).write + 1 }
    rw [if_neg (by decide), State.advanceRing, ring_ringWriteLanded hq]
    have hlines := hset.congr (s := s) (t := ((s.ringWriteLanded w false).setRing w.recipient _).refreshLines) rfl rfl rfl rfl
    refine ⟨?_, hlines.own, hlines.other, hlines.rest, refreshLines_lineLaw _, fun i b hb => ?_, fun x hx => ?_⟩
    · refine (setRing_refreshLines_frame _ _ _).trans ?_
      simp only [ringWriteLanded_frame hq, refreshLines_mem, refreshLines_free, setRing_mem, setRing_free]
    · exact (memByte_setRing _ _ _ _).trans ((hmem _ _).trans (hbytes rfl hc i b hb))
    · exact (memByte_setRing _ _ _ _).trans ((hmem _ _).trans (hbut x hx))
  · obtain ⟨hbut, -⟩ := memByte_ringWriteStored s w true
    have hset := ringSet_landed hq w true { s.ring w.recipient with overrun := true }
    rw [if_pos rfl, State.setOverrun, ring_ringWriteLanded hq]
    refine ⟨?_, hset.own, hset.other, hset.rest, fun x hx => (memByte_setRing _ _ _ _).trans ((hmem _ _).trans (hbut x hx))⟩
    refine (setRing_frame _ _ _).trans ?_
    simp only [ringWriteLanded_frame hq, setRing_mem, setRing_free]

/-- Settles O52: one equation says what the start does with the head notice and one what the end does with the write in flight; what
stands in the slot comes from the store of sixteen bytes. -/
theorem ringWritesDeliverTheHead : Obligations.RingWritesDeliverTheHead := by
  refine ⟨fun s o q hq hr => ringWriteStarts hq hr, fun s h => congrArg Host.Outcome.next (ringWriteStart_nothing h),
    fun s f h => congrArg Host.Outcome.next (ringWriteComplete_nothing h f), fun s w f hr hv => ?_, fun s w o q hr hq =>
      ⟨fun hv => (ringWriteEnds hr hq hv).1, fun hv => (ringWriteEnds hr hq hv).2⟩⟩
  have hend : s.ringWriteComplete f = (s.ringWriteStored w f).setRingWrite none := by
    rw [ringWriteComplete_some hr, if_pos hv]
  obtain ⟨hbut, hbytes⟩ := memByte_ringWriteStored s w f
  exact ⟨_, congrArg Host.Outcome.next hend, ringWriteVoided_frame s w f, hbut, hbytes⟩

end Sys2Proof.Machine
end


section
/-! PROOFS. NOTICE READ INDEX (R111, R115): the clamp of a written read index, and the order of the word's refusals. -/

namespace Sys2Proof.Machine

open Safety

variable {s : State} {code : StationCode} {st owner : Station}

/-! ## The clamp -/

theorem inFlight_le_one (s : State) (st : Station) : s.inFlight st ≤ 1 := by
  unfold State.inFlight
  split
  · split <;> decide
  · decide

theorem inFlight_eq_one {w : RingWrite} (h : s.stations.ringWrite = some w) (hw : w.recipient = st) : s.inFlight st = 1 := by
  simp only [State.inFlight, h, hw, if_true]

/-- A value that leaves no more unread than the ring has room for is taken as it is. -/
theorem clampedRead_within {w v : BitVec 6} {f : Nat} (h : (w - v).toNat ≤ 32 - f) : clampedRead w v f = v := if_pos h

/-- One that leaves as many as the ring holds keeps a place for the write in flight. -/
theorem clampedRead_full {w v : BitVec 6} {f : Nat} (hf : f ≤ 1) (h : 32 - f < (w - v).toNat) (h' : (w - v).toNat ≤ 32) :
    (w - clampedRead w v f).toNat + f = 32 := by
  have hclamp : clampedRead w v f = w - 32#6 + BitVec.ofNat 6 f := by
    rw [clampedRead, if_neg (not_le.2 h), if_pos h']
  rw [hclamp]
  interval_cases f <;> bv_omega

/-- One beyond that leaves nothing unread. -/
theorem clampedRead_beyond {w v : BitVec 6} {f : Nat} (h : 32 < (w - v).toNat) : clampedRead w v f = w := by
  rw [clampedRead, if_neg (by omega), if_neg (by omega)]

/-- Whatever is written, the write in flight keeps its place (R111). -/
theorem clampedRead_room (w v : BitVec 6) {f : Nat} (hf : f ≤ 1) : (w - clampedRead w v f).toNat + f ≤ 32 := by
  by_cases h1 : (w - v).toNat ≤ 32 - f
  · rw [clampedRead_within h1]
    omega
  · by_cases h2 : (w - v).toNat ≤ 32
    · exact (clampedRead_full hf (not_le.1 h1) h2).le
    · rw [clampedRead_beyond (not_le.1 h2)]
      simp
      omega

/-! ## The ring that a write leaves -/

/-- The ring a write of NOTICE READ INDEX leaves its owner. -/
def State.indexedRing (s : State) (owner : Station) (v : Word) : Ring :=
  let read := if s.signedOn owner then clampedRead (s.ring owner).write (v.setWidth 6) (s.inFlight owner) else (s.ring owner).write
  { s.ring owner with read := read, overrun := (s.ring owner).overrun && decide ((s.ring owner).write - read ≠ 0) }

theorem setReadIndex_eq (s : State) (owner : Station) (v : Word) :
    s.setReadIndex owner v = (s.setRing owner (s.indexedRing owner v)).refreshLines := rfl

theorem indexedRing_on (hon : s.signedOn owner = true) (v : Word) : (s.indexedRing owner v).read =
    clampedRead (s.ring owner).write (v.setWidth 6) (s.inFlight owner) := if_pos hon

theorem indexedRing_off (hoff : s.signedOn owner = false) (v : Word) : (s.indexedRing owner v).read = (s.ring owner).write :=
  if_neg (by simp [hoff])

/-- The overrun flag stays only while something is unread. -/
theorem indexedRing_overrun (s : State) (owner : Station) (v : Word) : (s.indexedRing owner v).overrun =
    ((s.ring owner).overrun && decide (unread (s.indexedRing owner v) ≠ 0)) := by
  have hzero : ∀ x : BitVec 6, x ≠ 0 ↔ x.toNat ≠ 0 := fun x => not_congr (BitVec.toNat_eq (y := 0))
  exact congrArg ((s.ring owner).overrun && ·) (decide_eq_decide.2 (hzero _))

/-! ## The statements -/

theorem exec_noticeReadIndexWrite (hst : stationOf code = some st) (owner : Station) (sz : Size) (v : Word) :
    exec (.noticeReadIndexWrite code owner sz v) s = .next (s.writeReadIndex st owner sz v) := by
  show Host.Outcome.next (asStation code s _) = _
  rw [asStation_some hst]

theorem readIndexIsClampedToTheRing_taken : Parts.ReadIndexIsClampedToTheRing := by
  intro s code st owner v hst hon hown
  have hpass : (isTerminal st && st != owner) = false := by rcases hown with rfl | rfl <;> simp [isTerminal]
  have hexec : exec (.noticeReadIndexWrite code owner .word v) s =
      .next (s.setRing owner (s.indexedRing owner v)).refreshLines.done := by
    rw [exec_noticeReadIndexWrite hst, State.writeReadIndex]
    simp only [testing_cons, testing_nil, hon, hpass]
    rfl
  have hset := (ringSet_setRing s owner (s.indexedRing owner v)).congr (s := s)
    (t := (s.setRing owner (s.indexedRing owner v)).refreshLines.done) rfl rfl rfl rfl
  have hflight := inFlight_le_one s owner
  refine ⟨_, hexec, congrArg State.done (setRing_refreshLines_frame _ _ _), ?_, fun hon => ⟨fun h => ?_, fun h h' => ?_, fun h => ?_⟩,
    fun hoff => ?_, ?_, hset.other, hset.rest.1, hset.rest.2, lineLaw_done (refreshLines_lineLaw _), fun a => memByte_setRing _ _ _ _⟩
  all_goals rw [hset.own]
  · rfl
  · rw [indexedRing_on hon, clampedRead_within h]
  · rw [unread, indexedRing_on hon]
    exact clampedRead_full hflight h h'
  · rw [unread, indexedRing_on hon, clampedRead_beyond h]
    exact congrArg BitVec.toNat (BitVec.sub_self _)
  · exact indexedRing_off hoff v
  · exact indexedRing_overrun s owner v

theorem readIndexRefusesInOrder : Parts.ReadIndexRefusesInOrder := by
  intro s code st owner sz v hst
  refine refusedFor_of_exec (exec_noticeReadIndexWrite hst owner sz v) ?_
  refine .test (badSize_iff sz) fun _ => .test not_signedOn_iff fun _ => .last ?_ fun _ => .none
  simp [isTerminal_iff]

/-- Settles O40: the three cases of R111 are those of the clamp, and the word's tests come in its order. -/
theorem readIndexIsClampedToTheRing : Obligations.ReadIndexIsClampedToTheRing :=
  ⟨readIndexIsClampedToTheRing_taken, readIndexRefusesInOrder⟩

end Sys2Proof.Machine
end
section
/-! PROOFS. What only the station unit's own commands and HOLD WAIT change: `attending` gathers what the laws of rings, of the outgoing
queue and of the attention lines read, and one equation per operation says that the operation leaves it (R107, R108, R115, R149). -/

namespace Sys2Proof.Machine

open Safety

variable {s t : State}

/-! ## What the laws read -/

/-- What the laws of R107 and R115 read of a terminal: its sign state, its group and its indices, and an overrun flag set while it is
signed off. -/
def attendance (v : Terminal) := (v.signedOn, v.group, v.ring.write, v.ring.read, v.ring.overrun && !v.signedOn)

/-- Whether the outgoing queue keeps to its places and names signed-on stations alone (R108, R113). -/
def Orderly (s : State) : Prop :=
  s.stations.outgoing.length ≤ 256 ∧ ∀ o ∈ s.stations.outgoing, s.signedOn o.recipient = true

theorem orderly_iff (s : State) : Orderly s ↔ OutgoingLaw s := ⟨fun ⟨hlen, hon⟩ => ⟨hlen, hon⟩, fun ⟨hlen, hon⟩ => ⟨hlen, hon⟩⟩

/-- The records of the station unit that the laws read, and HOLD WAIT. -/
def deskRecords (s : State) :=
  ((fun u => attendance (s.terminal u)), s.stations.system.ring.write, s.stations.system.ring.read, s.stations.ringWrite,
    s.stations.enables, s.stations.groupLines, s.stations.systemLine, s.dispatch.holdWait)

/-- What only the station unit's own commands, HOLD_WAIT_WRITE and the resets change. -/
def attending (s : State) := (deskRecords s, Orderly s)

theorem signedOn_of_attendance (h : ∀ u, attendance (t.terminal u) = attendance (s.terminal u)) (st : Station) :
    t.signedOn st = s.signedOn st := by
  cases st with
  | system => rfl
  | terminal u => exact congrArg Prod.fst (h u)

/-- A terminal's record replaced by one in which the laws read the same. -/
theorem attending_setTerminal (s : State) {u : TerminalId} {v : Terminal} (h : attendance v = attendance (s.terminal u)) :
    attending (s.setTerminal u v) = attending s := by
  have hsame : ∀ w, attendance ((s.setTerminal u v).terminal w) = attendance (s.terminal w) := fun w => by
    rw [terminal_setTerminal]
    split
    · rename_i hw; rw [hw, h]
    · rfl
  have hon : (s.setTerminal u v).signedOn = s.signedOn := funext (signedOn_of_attendance hsame)
  simp only [attending, deskRecords, Orderly, hsame, hon]
  rfl

theorem attending_setLastRefusal (s : State) (st : Station) (r : Reason) : attending (s.setLastRefusal st r) = attending s := by
  cases st with
  | system => rfl
  | terminal u => exact attending_setTerminal s rfl

theorem attending_countHold (s : State) (st : Station) (f : Nat → Nat) : attending (s.countHold st f) = attending s := by
  cases st with
  | system => rfl
  | terminal u => exact attending_setTerminal s rfl

/-- The overrun flag of a signed-on station is no part of what the laws read. -/
theorem attending_setOverrun (s : State) {st : Station} (hon : s.signedOn st = true) :
    attending (s.setOverrun st) = attending s := by
  cases st with
  | system => rfl
  | terminal u =>
    have hon : (s.terminal u).signedOn = true := hon
    exact attending_setTerminal s (by simp [attendance, State.ring, hon])

/-- A notice for a signed-on station joins a queue that has room, so the queue keeps to its places before and after (R108). -/
@[simp] theorem attending_raise (s : State) (st : Station) (n : Notice) : attending (s.raise st n) = attending s := by
  cases hon : s.signedOn st with
  | false => rw [raise_off s st n hon]
  | true =>
    by_cases hroom : s.stations.outgoing.length < 256
    · rw [raise_taken s st n hon hroom]
      refine Prod.ext rfl (propext ?_)
      show (_ ∧ _) ↔ (_ ∧ _)
      simp only [List.length_append, List.length_singleton, List.forall_mem_append, List.forall_mem_singleton]
      exact ⟨fun ⟨_, hall, _⟩ => ⟨hroom.le, hall⟩, fun ⟨_, hall⟩ => ⟨hroom, hall, hon⟩⟩
    · rw [raise_full s st n hon (not_lt.1 hroom)]
      exact attending_setOverrun s hon

end Sys2Proof.Machine
end


section
/-! PROOFS. The shared operations, the measure engine, the dispatch engine and the link leave `attending`: they reach the station unit
only by raising notices, counting holds and recording refusals (R23, R108, R170). -/

namespace Sys2Proof.Machine

variable {s t : State}

theorem attending_foldl {α : Type} {f : State → α → State} (h : ∀ t a, attending (f t a) = attending t) (l : List α) (s : State) :
    attending (l.foldl f s) = attending s := foldl_keeps attending f h l s

section Updates

variable (s : State) (k : StoryId) (p : PageId) (st : Station)

/-! ## Updates of records -/

@[simp] theorem attending_answer (a : Answer) (d : Option Data) : attending (s.answer a d) = attending s := rfl
@[simp] theorem attending_done : attending s.done = attending s := rfl
@[simp] theorem attending_doneRead (d : Data) : attending (s.doneRead d) = attending s := rfl
@[simp] theorem attending_setPage (v : Page) : attending (s.setPage p v) = attending s := rfl
@[simp] theorem attending_setPageState (x : PageState) : attending (s.setPageState p x) = attending s := rfl
@[simp] theorem attending_putSlot (n : SlotId) (v : Option Slot) : attending (s.putSlot p n v) = attending s := rfl
@[simp] theorem attending_setQueue (q : List StoryId) : attending (s.setQueue q) = attending s := rfl
@[simp] theorem attending_setEngine (e : Engine) : attending (s.setEngine e) = attending s := rfl
@[simp] theorem attending_setLink (l : Link) : attending (s.setLink l) = attending s := rfl
@[simp] theorem attending_setDispatchEngine (e : DispatchEngine) : attending (s.setDispatchEngine e) = attending s := rfl
@[simp] theorem attending_setSend (x : SendState) : attending (s.setSend x) = attending s := rfl
@[simp] theorem attending_setHoldTimer (x : Option Nat) : attending (s.setHoldTimer x) = attending s := rfl
@[simp] theorem attending_handOver (f : Frame) : attending (s.handOver f) = attending s := rfl
@[simp] theorem attending_leaveQueue : attending (s.leaveQueue p) = attending s := rfl
@[simp] theorem attending_promote : attending (s.promote p) = attending s := rfl
@[simp] theorem attending_setStory (v : Story) : attending (s.setStory k v) = attending s := rfl
@[simp] theorem attending_setStatus (x : DepthStatus) : attending (s.setStatus k x) = attending s := rfl
@[simp] theorem attending_freeze : attending (s.freeze k) = attending s := rfl
@[simp] theorem attending_postDepth (r : Breaker) : attending (s.postDepth k r) = attending s := rfl
@[simp] theorem attending_placeIn (n : SlotId) : attending (s.placeIn k p n) = attending s := rfl
@[simp] theorem attending_queueStale : attending (s.queueStale k) = attending s := rfl
@[simp] theorem attending_dropViewer (u : TerminalId) : attending (s.dropViewer k u) = attending s := rfl
@[simp] theorem attending_file (b : BasketId) (x : Priority) : attending (s.file k b x) = attending s := rfl

@[simp] theorem attending_refuse (r : Reason) : attending (s.refuse st r) = attending s := attending_setLastRefusal s st r

/-! ## Notices, holds and stories -/

@[simp] theorem attending_raiseAll (ns : List Outgoing) : attending (s.raiseAll ns) = attending s :=
  foldl_keeps _ _ (fun _ _ => attending_raise _ _ _) ns s

@[simp] theorem attending_raiseArrivals (b : BasketId) (old : Option BasketId) :
    attending (s.raiseArrivals k b old st) = attending s := attending_raiseAll s _

@[simp] theorem attending_markClosing (b : Bool) : attending (s.markClosing p b) = attending s :=
  attending_foldl (fun t k => attending_setStory t k _) _ s

@[simp] theorem attending_gainHold : attending (s.gainHold k st) = attending s := attending_countHold _ st _

@[simp] theorem attending_loseHold : attending (s.loseHold k) = attending s := by
  unfold State.loseHold
  split
  · exact attending_countHold _ _ _
  · rfl

@[simp] theorem attending_dropViewerOf : attending (s.dropViewerOf k st) = attending s := by cases st <;> rfl

@[simp] theorem attending_viewBy : attending (s.viewBy st k) = attending s := by
  unfold State.viewBy
  split
  · split
    · exact attending_raiseAll _ _
    · rfl
  · rfl

@[simp] theorem attending_markViewers : attending (s.markViewers k st) = attending s := attending_raiseAll _ _

@[simp] theorem attending_unfreeze : attending (s.unfreeze k) = attending s := by
  unfold State.unfreeze
  split <;> rfl

@[simp] theorem attending_unplace : attending (s.unplace k) = attending s := attending_unfreeze s k

@[simp] theorem attending_unfile : attending (s.unfile k) = attending s := by
  unfold State.unfile
  split <;> rfl

@[simp] theorem attending_evaluateOverset (c : Option Station) : attending (s.evaluateOverset k c) = attending s := by
  unfold State.evaluateOverset
  dsimp only
  split <;> simp

@[simp] theorem attending_allowanceChanged : attending (s.allowanceChanged k st) = attending s := by
  unfold State.allowanceChanged
  split <;> simp

/-! ## Memory -/

@[simp] theorem attending_plainStore (a n : Nat) (data : Data) (f : Bool) : attending (s.plainStore a n data f) = attending s := by
  unfold State.plainStore
  split <;> rfl

@[simp] theorem attending_plainAnswer (f : Bool) : attending (s.plainAnswer st f) = attending s := by
  unfold State.plainAnswer
  split <;> simp

/-! ## Measuring -/

@[simp] theorem attending_leaveMeasuring : attending s.leaveMeasuring = attending s := by
  unfold State.leaveMeasuring
  split <;> rfl

@[simp] theorem attending_abandonPass : attending (s.abandonPass k) = attending s := by
  unfold State.abandonPass
  split <;> simp

@[simp] theorem attending_stale : attending (s.stale k) = attending s := by
  unfold State.stale
  split <;> simp

@[simp] theorem attending_staleAll (ks : List StoryId) : attending (s.staleAll ks) = attending s := attending_foldl attending_stale ks s

@[simp] theorem attending_takePass : attending s.takePass = attending s := by
  unfold State.takePass
  split
  · simp
  · rfl

@[simp] theorem attending_measureBlock : attending s.measureBlock = attending s := by
  unfold State.measureBlock
  split
  · split <;> simp
  · rfl

@[simp] theorem attending_fontWaitExpiry : attending s.fontWaitExpiry = attending s := by
  unfold State.fontWaitExpiry
  split <;> rfl

@[simp] theorem attending_releaseHeld : attending s.releaseHeld = attending s := by
  unfold State.releaseHeld
  split <;> rfl

/-! ## The dispatch engine -/

@[simp] theorem attending_pumpText (x : SendState) : attending (s.pumpText x) = attending s := by
  unfold State.pumpText
  split
  · rfl
  · split
    · split <;> rfl
    · rfl

@[simp] theorem attending_handSlot (x : SendState) (n : SlotId) : attending (s.handSlot p x n) = attending s := by
  unfold State.handSlot
  split <;> rfl

@[simp] theorem attending_completePage (e : Queued) : attending (s.completePage e) = attending s := by
  simp [State.completePage, attending_foldl attending_freeze]

@[simp] theorem attending_failRecord (e : Queued) (f : Failing) : attending (s.failRecord e f) = attending s := by
  simp only [State.failRecord, attending_leaveQueue, attending_raise, attending_setPage]
  split <;> split <;> simp

@[simp] theorem attending_failEngine (a b : Bool) : attending (s.failEngine p a b) = attending s := by
  unfold State.failEngine
  split
  · rfl
  · split <;> rfl

@[simp] theorem attending_failPage (e : Queued) (f : Failing) : attending (s.failPage e f) = attending s := by
  simp [State.failPage]

@[simp] theorem attending_wantHold (e : Queued) (ns : SlotId × Slot) : attending (s.wantHold e ns) = attending s := by
  unfold State.wantHold
  split
  · split
    · rfl
    · exact attending_raise _ _ _
  · rfl

@[simp] theorem attending_enterWaiting (e : Queued) : attending (s.enterWaiting e) = attending s := by
  unfold State.enterWaiting
  dsimp only
  rw [attending_foldl fun t ns => attending_wantHold t e ns]
  simp

@[simp] theorem attending_enterSending (e : Queued) : attending (s.enterSending e) = attending s := by
  unfold State.enterSending
  split <;> rfl

@[simp] theorem attending_advanceUpTo (n : Nat) (s : State) : attending (State.advanceUpTo n s) = attending s := by
  induction n generalizing s with
  | zero => rfl
  | succ n ih =>
    unfold State.advanceUpTo
    split
    · split
      · dsimp only
        split
        · rw [ih]; simp
        · simp
        · simp
      · rfl
    · rfl

@[simp] theorem attending_advance : attending s.advance = attending s := attending_advanceUpTo _ s

@[simp] theorem attending_fail (e : Queued) (f : Failing) : attending (s.fail e f) = attending s := by simp [State.fail]

@[simp] theorem attending_evaluate : attending s.evaluate = attending s := by
  unfold State.evaluate
  split
  · split <;> simp
  · rfl

@[simp] theorem attending_handEvent : attending (s.handEvent k) = attending s := by
  unfold State.handEvent
  split <;> simp

@[simp] theorem attending_complete (e : Queued) : attending (s.complete e) = attending s := by simp [State.complete]

@[simp] theorem attending_nextFrame : attending s.nextFrame = attending s := by
  unfold State.nextFrame
  split
  · split
    · simp
    · simp
    · simp
    · split <;> simp
    · simp
  · rfl

@[simp] theorem attending_failSend (c : Cause) : attending (s.failSend c) = attending s := by
  unfold State.failSend
  split <;> simp

@[simp] theorem attending_abortEnd : attending s.abortEnd = attending s := by
  unfold State.abortEnd
  split <;> simp

@[simp] theorem attending_returnToQueued : attending s.returnToQueued = attending s := by
  unfold State.returnToQueued
  split <;> simp

@[simp] theorem attending_linkLost : attending s.linkLost = attending s := by
  unfold State.linkLost
  split <;> simp

@[simp] theorem attending_holdWaitExpiry : attending s.holdWaitExpiry = attending s := by
  unfold State.holdWaitExpiry
  split <;> simp

@[simp] theorem attending_sendTextRead (f : Bool) : attending (s.sendTextRead f) = attending s := by
  unfold State.sendTextRead
  split
  · split
    · rfl
    · split
      · split
        · simp
        · dsimp only
          split <;> simp
      · rfl
  · rfl

@[simp] theorem attending_cancelPage : attending (s.cancelPage p st) = attending s := by
  unfold State.cancelPage
  split <;> simp

@[simp] theorem attending_queuePage (r : Resting) : attending (s.queuePage p r) = attending s := attending_advance _

/-! ## The end of a pass, and of a hold -/

@[simp] theorem attending_completePass : attending s.completePass = attending s := by
  unfold State.completePass
  split <;> simp

@[simp] theorem attending_faultPass : attending s.faultPass = attending s := by
  unfold State.faultPass
  split <;> simp

@[simp] theorem attending_releaseHold : attending (s.releaseHold k) = attending s := by simp [State.releaseHold]

@[simp] theorem attending_endHoldByRoute : attending (s.endHoldByRoute st k) = attending s := by
  unfold State.endHoldByRoute
  split <;> simp

@[simp] theorem attending_forgetMeasure : attending (s.forgetMeasure k) = attending s := attending_abandonPass s k

/-! ## The link -/

@[simp] theorem attending_leaveUp (b : Bool) : attending (s.leaveUp b) = attending s := by simp [State.leaveUp, State.raiseLink]

@[simp] theorem attending_presentHigh : attending s.presentHigh = attending s := by
  unfold State.presentHigh
  dsimp only
  split <;> rfl

@[simp] theorem attending_presentLow : attending s.presentLow = attending s := by
  unfold State.presentLow
  dsimp only
  split <;> simp

@[simp] theorem attending_trainingExpiry : attending s.trainingExpiry = attending s := by
  unfold State.trainingExpiry
  split <;> rfl

@[simp] theorem attending_takeAbility (m l : Byte) : attending (s.takeAbility m l) = attending s := by
  unfold State.takeAbility
  split
  · rfl
  · simp [State.trained, State.raiseLink]
  · unfold State.retrained
    dsimp only
    split <;> simp

@[simp] theorem attending_failedTry (o : Outstanding) : attending (s.failedTry o) = attending s := by
  unfold State.failedTry
  split <;> simp

@[simp] theorem attending_settled : attending s.settled = attending s := rfl

@[simp] theorem attending_waitSet : attending s.waitSet = attending s := rfl

@[simp] theorem attending_frameDone (f : Frame) : attending (s.frameDone f) = attending s := by
  unfold State.frameDone
  split <;> simp

@[simp] theorem attending_frameEnded (f : Frame) (c : Cause) : attending (s.frameEnded f c) = attending s := by
  unfold State.frameEnded
  split <;> simp

@[simp] theorem attending_takeAck : attending s.takeAck = attending s := by
  unfold State.takeAck
  split <;> simp

@[simp] theorem attending_takeWait : attending s.takeWait = attending s := by
  unfold State.takeWait
  split <;> simp

@[simp] theorem attending_takeNak (r : NakReason) : attending (s.takeNak r) = attending s := by
  unfold State.takeNak
  split
  · split
    · simp
    · split <;> simp
    · simp
  · rfl

@[simp] theorem attending_takeReady : attending s.takeReady = attending s := by
  unfold State.takeReady
  split
  · split <;> rfl
  · rfl

@[simp] theorem attending_waitExpiry : attending s.waitExpiry = attending s := by
  unfold State.waitExpiry
  split <;> simp

@[simp] theorem attending_replyExpiry : attending s.replyExpiry = attending s := by
  unfold State.replyExpiry
  split <;> simp

@[simp] theorem attending_tryEnd : attending s.tryEnd = attending s := by
  unfold State.tryEnd
  split <;> rfl

@[simp] theorem attending_abilityEnd : attending s.abilityEnd = attending s := by
  unfold State.abilityEnd
  split <;> rfl

@[simp] theorem attending_gapExpiry : attending s.gapExpiry = attending s := by
  unfold State.gapExpiry
  split <;> rfl

@[simp] theorem attending_takeIncoming (f : Incoming) : attending (s.takeIncoming f) = attending s := by
  cases f <;> simp [State.takeIncoming]

@[simp] theorem attending_frameArrives (f : Incoming) : attending (s.frameArrives f) = attending s := by
  unfold State.frameArrives
  split <;> simp

@[simp] theorem attending_byteArrives (b : Byte) : attending (s.byteArrives b) = attending s := by
  unfold State.byteArrives
  split
  · rfl
  · split <;> rfl
  · unfold State.byteWithin
    split
    · rfl
    · split
      · split <;> simp
      · rfl

/-! ## Edits of a plan -/

@[simp] theorem attending_edited (n : Option SlotId) (before : Option StoryId) :
    attending (s.edited p n before st) = attending s := by
  unfold State.edited
  dsimp only
  split
  · split <;> simp
  · split <;> simp
  · rfl

@[simp] theorem attending_regeometry (new : Page) : attending (s.regeometry st p new) = attending s := by
  unfold State.regeometry
  split <;> simp

end Updates

end Sys2Proof.Machine
end


section
/-! PROOFS. The laws of rings, of the outgoing queue and of the attention lines, station by station: what keeps them of the station unit's
own operations (R107, R108, R111, R113, R115). -/

namespace Sys2Proof.Machine

open Safety

variable {s t : State} {st o : Station} {u : TerminalId}

/-! ## The laws and `attending` -/

/-- The law of R107 for one station. -/
structure RingSound (s : State) (st : Station) : Prop where
  unread : Machine.unread (s.ring st) ≤ 32
  off : s.signedOn st = false → s.ring st = emptyRing
  inFlight : ∀ w, s.stations.ringWrite = some w → w.voided = false → w.recipient = st →
    s.signedOn st = true ∧ Machine.unread (s.ring st) < 32

theorem ringLaw_iff (s : State) : RingLaw s ↔ ∀ st, RingSound s st := by
  constructor
  · rintro ⟨hunread, hoff, hflight⟩ st
    refine ⟨hunread st, fun h => ?_, fun w hw hv hr => hr ▸ hflight w hw hv⟩
    cases st with
    | system => cases h
    | terminal u => exact hoff u h
  · exact fun h => ⟨fun st => (h st).unread, fun u => (h (.terminal u)).off, fun w hw hv => (h w.recipient).inFlight w hw hv rfl⟩

/-- The laws of the station unit (R107, R108, R115). -/
abbrev AttentionLaw (s : State) : Prop := RingLaw s ∧ OutgoingLaw s ∧ LineLaw s

/-- What two states with the same `attending` have in common, record by record. -/
structure SameAttending (s t : State) : Prop where
  terminal : ∀ u, attendance (t.terminal u) = attendance (s.terminal u)
  write : t.stations.system.ring.write = s.stations.system.ring.write
  read : t.stations.system.ring.read = s.stations.system.ring.read
  ringWrite : t.stations.ringWrite = s.stations.ringWrite
  enables : t.stations.enables = s.stations.enables
  groupLines : t.stations.groupLines = s.stations.groupLines
  systemLine : t.stations.systemLine = s.stations.systemLine
  holdWait : t.dispatch.holdWait = s.dispatch.holdWait
  orderly : Orderly s → Orderly t

theorem sameAttending (h : attending t = attending s) : SameAttending s t := by
  simp only [attending, deskRecords, Prod.mk.injEq, eq_iff_iff] at h
  obtain ⟨⟨hterm, hwrite, hread, hring, henables, hlines, hsystem, hwait⟩, horder⟩ := h
  exact ⟨congrFun hterm, hwrite, hread, hring, henables, hlines, hsystem, hwait, horder.2⟩

/-- Equal attendance, field by field. -/
theorem attendance_fields {v w : Terminal} (h : attendance v = attendance w) : v.signedOn = w.signedOn ∧ v.group = w.group ∧
    unread v.ring = unread w.ring ∧ (v.signedOn = false → w.ring = emptyRing → v.ring = emptyRing) := by
  simp only [attendance, Prod.mk.injEq] at h
  obtain ⟨hon, hgroup, hwrite, hread, hover⟩ := h
  refine ⟨hon, hgroup, by rw [unread, unread, hwrite, hread], fun hoff hempty => ?_⟩
  rw [← hon, hoff, hempty] at hover
  rw [hempty] at hwrite hread
  cases hv : v.ring
  simp_all [emptyRing]

theorem SameAttending.unread (h : SameAttending s t) (st : Station) : Machine.unread (t.ring st) = Machine.unread (s.ring st) := by
  cases st with
  | system => simp only [Machine.unread, State.ring, h.write, h.read]
  | terminal u => exact (attendance_fields (h.terminal u)).2.2.1

theorem SameAttending.ringSound (h : SameAttending s t) (hs : RingSound s st) : RingSound t st := by
  have hon := signedOn_of_attendance h.terminal st
  refine ⟨by rw [h.unread]; exact hs.unread, fun hoff => ?_, fun w hw hv hr => ?_⟩
  · cases st with
    | system => cases hoff
    | terminal u =>
      obtain ⟨-, -, -, hempty⟩ := attendance_fields (h.terminal u)
      exact hempty hoff (hs.off (hon ▸ hoff))
  · rw [hon, h.unread]
    exact hs.inFlight w (h.ringWrite ▸ hw) hv hr

theorem SameAttending.lineLaw (h : SameAttending s t) (hs : LineLaw s) : LineLaw t := by
  have hterminal : ∀ u, (t.terminal u).signedOn = (s.terminal u).signedOn ∧ (t.terminal u).group = (s.terminal u).group ∧
      Machine.unread (t.terminal u).ring = Machine.unread (s.terminal u).ring := fun u => by
    obtain ⟨hon, hgroup, hunread, -⟩ := attendance_fields (h.terminal u)
    exact ⟨hon, hgroup, hunread⟩
  have hsystem : Machine.unread t.stations.system.ring = Machine.unread s.stations.system.ring := h.unread .system
  refine ⟨fun g => ?_, by rw [h.systemLine, hsystem]; exact hs.system⟩
  simp only [h.groupLines, h.enables, hterminal]
  exact hs.group g

theorem ringLaw_of_attending (h : attending t = attending s) (hs : RingLaw s) : RingLaw t :=
  (ringLaw_iff t).2 fun st => (sameAttending h).ringSound ((ringLaw_iff s).1 hs st)

theorem outgoingLaw_of_attending (h : attending t = attending s) (hs : OutgoingLaw s) : OutgoingLaw t :=
  (orderly_iff t).1 ((sameAttending h).orderly ((orderly_iff s).2 hs))

theorem attentionLaw_of_attending (h : attending t = attending s) : AttentionLaw s → AttentionLaw t :=
  fun ⟨hr, ho, hl⟩ => ⟨ringLaw_of_attending h hr, outgoingLaw_of_attending h ho, (sameAttending h).lineLaw hl⟩

/-! ## Changes of the station unit -/

theorem ring_setTerminal (s : State) (u : TerminalId) (v : Terminal) (st : Station) :
    (s.setTerminal u v).ring st = if st = .terminal u then v.ring else s.ring st := by
  cases st with
  | system => rfl
  | terminal w =>
    simp only [State.ring, terminal_setTerminal, Station.terminal.injEq]
    split <;> rfl

theorem signedOn_setTerminal (s : State) (u : TerminalId) (v : Terminal) (st : Station) :
    (s.setTerminal u v).signedOn st = if st = .terminal u then v.signedOn else s.signedOn st := by
  cases st with
  | system => rfl
  | terminal w =>
    simp only [State.signedOn, terminal_setTerminal, Station.terminal.injEq]
    split <;> rfl

theorem signedOn_refreshLines (s : State) (st : Station) : s.refreshLines.signedOn st = s.signedOn st := by cases st <;> rfl

/-- The law of R107 for a station whose ring and sign state stay, while no ring write for it starts. -/
theorem RingSound.congr (h : RingSound s st) (hring : t.ring st = s.ring st) (hon : t.signedOn st = s.signedOn st)
    (hflight : ∀ w, t.stations.ringWrite = some w → w.voided = false → w.recipient = st →
      ∃ w', s.stations.ringWrite = some w' ∧ w'.voided = false ∧ w'.recipient = st) : RingSound t st := by
  refine ⟨hring ▸ h.unread, fun hoff => hring ▸ h.off (hon ▸ hoff), fun w hw hv hr => ?_⟩
  obtain ⟨w', hw', hv', hr'⟩ := hflight w hw hv hr
  rw [hon, hring]
  exact h.inFlight w' hw' hv' hr'

/-- The law of R107 for every station where rings and sign states stay and no ring write starts. -/
theorem ringLaw_congr (h : RingLaw s) (hring : ∀ st, t.ring st = s.ring st) (hon : ∀ st, t.signedOn st = s.signedOn st)
    (hflight : ∀ w, t.stations.ringWrite = some w → w.voided = false →
      ∃ w', s.stations.ringWrite = some w' ∧ w'.voided = false ∧ w'.recipient = w.recipient) : RingLaw t :=
  (ringLaw_iff t).2 fun st => ((ringLaw_iff s).1 h st).congr (hring st) (hon st) fun w hw hv hr => hr ▸ hflight w hw hv

/-- A ring replaced by one with room for the write in flight. -/
theorem ringLaw_setRing {r : Ring} (h : RingLaw s) (hroom : unread r ≤ 32) (hoff : s.signedOn st = false → r = emptyRing)
    (hflight : ∀ w, s.stations.ringWrite = some w → w.voided = false → w.recipient = st → unread r < 32) :
    RingLaw (s.setRing st r) := by
  have hwrite : (s.setRing st r).stations.ringWrite = s.stations.ringWrite := by rw [setRing_frame]
  rw [ringLaw_iff] at h ⊢
  intro o
  by_cases ho : o = st
  · subst ho
    refine ⟨by rwa [ring_setRing_same], fun hs => ?_, fun w hw hv hr => ?_⟩ <;> rw [signedOn_setRing] at *
    · rw [ring_setRing_same, hoff hs]
    · rw [ring_setRing_same]
      rw [hwrite] at hw
      exact ⟨((h o).inFlight w hw hv hr).1, hflight w hw hv hr⟩
  · exact (h o).congr (ring_setRing_ne s r ho) (signedOn_setRing s st o r) fun w hw hv hr => ⟨w, hwrite ▸ hw, hv, hr⟩

/-- A terminal's record replaced while no ring write for it is to count. -/
theorem ringLaw_setTerminal {v : Terminal} (h : RingLaw s) (hroom : unread v.ring ≤ 32) (hoff : v.signedOn = false → v.ring = emptyRing)
    (hflight : ∀ w, s.stations.ringWrite = some w → w.voided = false → w.recipient ≠ .terminal u) : RingLaw (s.setTerminal u v) := by
  rw [ringLaw_iff] at h ⊢
  intro o
  by_cases ho : o = .terminal u
  · subst ho
    refine ⟨?_, fun hs => ?_, fun w hw hv hr => absurd hr (hflight w hw hv)⟩
    · rwa [ring_setTerminal, if_pos rfl]
    · rw [signedOn_setTerminal, if_pos rfl] at hs
      rw [ring_setTerminal, if_pos rfl, hoff hs]
  · refine (h o).congr ?_ ?_ fun w hw hv hr => ⟨w, hw, hv, hr⟩
    · rw [ring_setTerminal, if_neg ho]
    · rw [signedOn_setTerminal, if_neg ho]

/-- Notices that leave the queue, and stations that stay signed on while a notice for them is queued. -/
theorem outgoingLaw_sublist (h : OutgoingLaw s) (hq : t.stations.outgoing.Sublist s.stations.outgoing)
    (hon : ∀ o ∈ t.stations.outgoing, s.signedOn o.recipient = true → t.signedOn o.recipient = true) : OutgoingLaw t :=
  ⟨hq.length_le.trans h.places, fun o ho => hon o ho (h.signedOn o (hq.subset ho))⟩

theorem outgoingLaw_setRing {r : Ring} (h : OutgoingLaw s) : OutgoingLaw (s.setRing st r) := by
  have hq : (s.setRing st r).stations.outgoing = s.stations.outgoing := by rw [setRing_frame]
  exact outgoingLaw_sublist h (hq ▸ .refl _) fun o _ ho => (signedOn_setRing s st _ r).trans ho

/-- Once the lines follow, the laws of rings and of the outgoing queue are all that is left to keep. -/
theorem attentionLaw_refreshLines (hr : RingLaw s) (ho : OutgoingLaw s) : AttentionLaw s.refreshLines :=
  ⟨ringLaw_congr hr (ring_refreshLines s) (signedOn_refreshLines s) fun w hw hv => ⟨w, hw, hv, rfl⟩,
    outgoingLaw_sublist ho (.refl _) fun _ _ h => (signedOn_refreshLines s _).trans h, refreshLines_lineLaw s⟩

/-- The head notice leaves the queue. -/
theorem attentionLaw_dropHead : AttentionLaw s → AttentionLaw s.dropHead := fun ⟨hr, ho, hl⟩ =>
  ⟨ringLaw_congr hr (fun st => ring_of_stations rfl rfl st) (fun st => by cases st <;> rfl) fun w hw hv => ⟨w, hw, hv, rfl⟩,
    outgoingLaw_sublist ho (List.tail_sublist _) fun o _ h => by cases hr : o.recipient <;> rw [hr] at h <;> exact h,
    ⟨hl.group, hl.system⟩⟩

/-- The record of the ring write in flight is replaced by one that counts for a signed-on station with room, or does not count. -/
theorem attentionLaw_setRingWrite {x : Option RingWrite} (hx : ∀ w, x = some w → w.voided = false →
      s.signedOn w.recipient = true ∧ unread (s.ring w.recipient) < 32) : AttentionLaw s → AttentionLaw (s.setRingWrite x) :=
  fun ⟨hr, ho, hl⟩ => by
  have hring : ∀ st, (s.setRingWrite x).ring st = s.ring st := fun st => ring_of_stations rfl rfl st
  have hon : ∀ st, (s.setRingWrite x).signedOn st = s.signedOn st := fun st => by cases st <;> rfl
  refine ⟨⟨fun st => by rw [hring]; exact hr.unread st, hr.off, fun w hw hv => ?_⟩,
    outgoingLaw_sublist ho (.refl _) fun o _ h => (hon _).trans h, ⟨hl.group, hl.system⟩⟩
  rw [hring, hon]
  exact hx w hw hv

end Sys2Proof.Machine
end


section
/-! PROOFS. The station unit's own operations keep the laws of rings, of the outgoing queue and of the attention lines (R107, R109, R111,
R113, R116, R172, R173, R176, R177). -/

namespace Sys2Proof.Machine

open Safety

variable {s : State} {st : Station}

/-! ## Rings: NOTICE READ INDEX and ring writes -/

/-- A ring write counts only toward a ring that has a place for it. -/
theorem inFlight_room (h : RingLaw s) {w : RingWrite} (hw : s.stations.ringWrite = some w) (hv : w.voided = false)
    (hr : w.recipient = st) : s.signedOn st = true ∧ unread (s.ring st) < 32 := hr ▸ h.inFlight w hw hv

/-- A written read index leaves what is unread and the write in flight within the ring. -/
theorem unread_indexedRing (s : State) (st : Station) (v : Word) :
    unread (s.indexedRing st v) ≤ 32 ∧ (s.signedOn st = true → unread (s.indexedRing st v) + s.inFlight st ≤ 32) := by
  have hunread : unread (s.indexedRing st v) = ((s.ring st).write - (s.indexedRing st v).read).toNat := rfl
  have hroom := clampedRead_room (s.ring st).write (v.setWidth 6) (inFlight_le_one s st)
  cases hon : s.signedOn st with
  | true =>
    rw [hunread, indexedRing_on hon]
    exact ⟨by omega, fun _ => hroom⟩
  | false =>
    rw [hunread, indexedRing_off hon]
    exact ⟨by simp, nofun⟩

theorem indexedRing_empty (hoff : s.signedOn st = false) (hempty : s.ring st = emptyRing) (v : Word) :
    s.indexedRing st v = emptyRing := by
  rw [State.indexedRing, hempty, hoff]
  rfl

theorem attentionLaw_setReadIndex (owner : Station) (v : Word) : AttentionLaw s → AttentionLaw (s.setReadIndex owner v) :=
  fun ⟨hr, ho, _⟩ => by
  obtain ⟨hunread, hroom⟩ := unread_indexedRing s owner v
  rw [setReadIndex_eq]
  refine attentionLaw_refreshLines (ringLaw_setRing hr hunread (fun hoff => ?_) fun w hw hv hw' => ?_) (outgoingLaw_setRing ho)
  · exact indexedRing_empty hoff (((ringLaw_iff s).1 hr owner).off hoff) v
  · obtain ⟨hon, -⟩ := inFlight_room hr hw hv hw'
    have := hroom hon
    rw [inFlight_eq_one hw hw'] at this
    omega

theorem signedOn_dropHead (s : State) (st : Station) : s.dropHead.signedOn st = s.signedOn st := by cases st <;> rfl

theorem attentionLaw_ringWriteStart : AttentionLaw s → AttentionLaw s.ringWriteStart := fun h => by
  cases hr : s.stations.ringWrite with
  | some w => rwa [ringWriteStart_nothing (.inl (by simp [hr]))]
  | none =>
    cases hq : s.stations.outgoing with
    | nil => rwa [ringWriteStart_nothing (.inr hq)]
    | cons o q =>
      rw [ringWriteStart_head hr hq]
      split
      · rename_i hon
        split
        · rename_i hroom
          refine attentionLaw_setRingWrite (fun w hw _ => ?_) h
          cases hw
          exact ⟨hon, hroom⟩
        · exact attentionLaw_of_attending (attending_setOverrun _ ((signedOn_dropHead s _).trans hon)) (attentionLaw_dropHead h)
      · exact attentionLaw_dropHead h

theorem attending_ringWriteStored (s : State) (w : RingWrite) (f : Bool) : attending (s.ringWriteStored w f) = attending s := by
  obtain ⟨bs, n, -, heq, -⟩ := ringWriteStored_eq s w f
  rw [heq]
  rfl

/-- Memory's part of the end of a ring write, and the write no longer in flight. -/
theorem attentionLaw_ringWriteEnded (w : RingWrite) (f : Bool) :
    AttentionLaw s → AttentionLaw ((s.ringWriteStored w f).setRingWrite none) :=
  fun h => attentionLaw_setRingWrite (fun w' hw' => absurd hw'.symm (Option.some_ne_none w'))
    (attentionLaw_of_attending (attending_ringWriteStored s w f) h)

/-- One more notice is unread in a ring that had room. -/
theorem unread_advance {r : Ring} (h : unread r < 32) : unread { r with write := r.write + 1 } ≤ 32 := by
  unfold unread at *
  bv_omega

/-- The notice of a ring write has left the queue, its recipient signed on and with room as before. -/
theorem ringWriteLanded_recipient (w : RingWrite) (f : Bool) (hon : s.signedOn st = true) (hroom : unread (s.ring st) < 32) :
    (s.ringWriteLanded w f).signedOn st = true ∧ unread ((s.ringWriteLanded w f).ring st) < 32 := by
  have hstored := sameAttending (attending_ringWriteStored s w f)
  have hring : (s.ringWriteLanded w f).ring st = (s.ringWriteStored w f).ring st := ring_of_stations rfl rfl st
  refine ⟨?_, by rwa [hring, hstored.unread]⟩
  rw [State.ringWriteLanded, signedOn_dropHead, ← hon, ← signedOn_of_attendance hstored.terminal]
  cases st <;> rfl

theorem attentionLaw_ringWriteComplete (f : Bool) : AttentionLaw s → AttentionLaw (s.ringWriteComplete f) := fun h => by
  cases hw : s.stations.ringWrite with
  | none => rwa [ringWriteComplete_nothing hw]
  | some w =>
    have hended := attentionLaw_ringWriteEnded w f h
    rw [ringWriteComplete_some hw]
    split
    · exact hended
    · rename_i hv
      obtain ⟨hon, hroom⟩ := h.1.inFlight w hw (Bool.not_eq_true _ ▸ hv)
      obtain ⟨hon, hroom⟩ := ringWriteLanded_recipient w f hon hroom
      have hlanded : AttentionLaw (s.ringWriteLanded w f) := attentionLaw_dropHead hended
      split
      · exact attentionLaw_of_attending (attending_setOverrun _ hon) hlanded
      · obtain ⟨hrl, hol, -⟩ := hlanded
        exact attentionLaw_refreshLines (ringLaw_setRing hrl (unread_advance hroom) (fun hoff => by rw [hon] at hoff; cases hoff)
          fun w' hw' => by cases hw') (outgoingLaw_setRing hol)

/-- A station's write to a slot under way marks bytes and nothing else. -/
theorem attentionLaw_noteContested (owner : Station) (off n : Nat) : AttentionLaw s → AttentionLaw (s.noteContested owner off n) :=
  fun h => by
  unfold State.noteContested
  split
  · rename_i w hw
    split
    · exact attentionLaw_setRingWrite (fun w' hw' hv => by cases hw'; exact h.1.inFlight w hw hv) h
    · exact h
  · exact h

/-! ## Sign-on, sign-off and RIGHTS -/

theorem unread_emptyRing_le : unread emptyRing ≤ 32 := by decide

theorem attentionLaw_signOnTaken {u : TerminalId} (hoff : (s.terminal u).signedOn = false) :
    AttentionLaw s → AttentionLaw (s.signOnTaken u) := fun ⟨hr, ho, _⟩ => by
  refine attentionLaw_refreshLines (ringLaw_setTerminal hr unread_emptyRing_le (fun _ => rfl) fun w hw hv hw' => ?_)
    (outgoingLaw_sublist ho (.refl _) fun o _ hon => ?_)
  · obtain ⟨hon, -⟩ := inFlight_room hr hw hv hw'
    exact absurd (hoff.symm.trans hon) (by decide)
  · rw [signedOn_setTerminal]
    split
    · rfl
    · exact hon

/-- A ring write that still counts once a station's notices are discarded was under way, and is for another station. -/
theorem ringWrite_discardNotices {w : RingWrite} (hw : (s.discardNotices st).stations.ringWrite = some w) (hv : w.voided = false) :
    s.stations.ringWrite = some w ∧ w.recipient ≠ st := by
  obtain ⟨w', hw', hvoid⟩ := Option.map_eq_some_iff.1 hw
  split at hvoid
  · subst hvoid
    cases hv
  · rename_i hne
    exact ⟨hw'.trans (congrArg some hvoid), hvoid ▸ hne⟩

theorem signedOn_discardNotices (s : State) (o st : Station) : (s.discardNotices o).signedOn st = s.signedOn st := by
  cases st <;> rfl

theorem attentionLaw_signedOff (u : TerminalId) {v : Terminal} (hring : v.ring = emptyRing) : AttentionLaw s →
    AttentionLaw ((s.discardNotices (.terminal u)).setTerminal u v).refreshLines := fun ⟨hr, ho, _⟩ => by
  have hdiscard : RingLaw (s.discardNotices (.terminal u)) :=
    ringLaw_congr hr (fun st => ring_of_stations rfl rfl st) (signedOn_discardNotices s _) fun w hw hv =>
      ⟨w, (ringWrite_discardNotices hw hv).1, hv, rfl⟩
  refine attentionLaw_refreshLines (ringLaw_setTerminal hdiscard (hring ▸ unread_emptyRing_le) (fun _ => hring) fun w hw hv =>
    (ringWrite_discardNotices hw hv).2) (outgoingLaw_sublist ho List.filter_sublist fun o hmem hon => ?_)
  have hne : o.recipient ≠ .terminal u := by simpa using (List.mem_filter.1 hmem).2
  rwa [signedOn_setTerminal, if_neg hne, signedOn_discardNotices]

theorem attending_releaseAll (s : State) (st : Station) : attending (s.releaseAll st) = attending s :=
  attending_foldl attending_releaseHold _ s

theorem attending_dropViews (s : State) (u : TerminalId) : attending (s.dropViews u) = attending s :=
  attending_foldl (fun t k => attending_dropViewer t k u) _ s

theorem attentionLaw_signOffTaken (u : TerminalId) : AttentionLaw s → AttentionLaw (s.signOffTaken u) := fun h =>
  attentionLaw_signedOff u rfl (attentionLaw_of_attending ((attending_dropViews _ u).trans (attending_releaseAll s _)) h)

theorem attentionLaw_signTaken (u : TerminalId) (on : Bool) : AttentionLaw s → AttentionLaw (s.signTaken u on) := fun h => by
  unfold State.signTaken
  split
  · exact attentionLaw_of_attending (attending_done s) h
  · rename_i hne
    split
    · rename_i hon
      exact attentionLaw_of_attending (attending_done _) (attentionLaw_signOnTaken (by simpa [hon] using hne) h)
    · exact attentionLaw_of_attending (attending_done _) (attentionLaw_signOffTaken u h)

/-- A terminal's group and makeup right take new values, and the lines follow (R173). -/
theorem attentionLaw_setRights {u : TerminalId} {v : Terminal} (hon : v.signedOn = (s.terminal u).signedOn)
    (hring : v.ring = (s.terminal u).ring) : AttentionLaw s → AttentionLaw (s.setTerminal u v).refreshLines := fun ⟨hr, ho, _⟩ => by
  have hsigned : ∀ st, (s.setTerminal u v).signedOn st = s.signedOn st := fun st => by
    rw [signedOn_setTerminal]
    split
    · rename_i hst; rw [hst]; exact hon
    · rfl
  refine attentionLaw_refreshLines (ringLaw_congr hr (fun st => ?_) hsigned fun w hw hv => ⟨w, hw, hv, rfl⟩)
    (outgoingLaw_sublist ho (.refl _) fun o _ h => (hsigned _).trans h)
  rw [ring_setTerminal]
  split
  · rename_i hst; rw [hst]; exact hring
  · rfl

/-! ## ATTENTION ENABLE and the resets -/

/-- The lines follow new enables (R116). -/
theorem attentionLaw_setEnables (e : BitVec 8) : AttentionLaw s →
    AttentionLaw { s with stations := { s.stations with enables := e } }.refreshLines := fun ⟨hr, ho, _⟩ => by
  have hon : ∀ st, State.signedOn { s with stations := { s.stations with enables := e } } st = s.signedOn st := fun st => by
    cases st <;> rfl
  exact attentionLaw_refreshLines
    (ringLaw_congr hr (fun st => ring_of_stations rfl rfl st) hon fun w hw hv => ⟨w, hw, hv, rfl⟩)
    (outgoingLaw_sublist ho (.refl _) fun o _ h => (hon _).trans h)

theorem ring_cleared (s : State) (st : Station) : s.cleared.ring st = emptyRing := by
  obtain ⟨T, S, hframe, hterm, -⟩ := cleared_eq s
  cases st with
  | system => rw [hframe]; rfl
  | terminal u => exact congrArg Terminal.ring (hterm u)

/-- A bus reset empties every ring and the queue, and voids the ring write in flight (R107, R113). -/
theorem ringLaw_cleared (s : State) : RingLaw s.cleared := by
  refine ⟨fun st => by rw [ring_cleared]; exact unread_emptyRing_le, fun u _ => ring_cleared s (.terminal u), fun w hw hv => ?_⟩
  obtain ⟨T, S, hframe, -⟩ := cleared_eq s
  rw [hframe] at hw
  obtain ⟨w', -, rfl⟩ := Option.map_eq_some_iff.1 hw
  cases hv

theorem outgoingLaw_cleared (s : State) : OutgoingLaw s.cleared := by
  obtain ⟨T, S, hframe, -⟩ := cleared_eq s
  have hq : s.cleared.stations.outgoing = [] := by rw [hframe]
  exact ⟨by simp [hq], by simp [hq]⟩

theorem attending_releaseEvery (s : State) : attending s.releaseEvery = attending s := attending_foldl attending_releaseHold _ s

theorem attentionLaw_busReset (s : State) : AttentionLaw s.busReset :=
  have h := attending_releaseEvery s.cleared
  attentionLaw_refreshLines (ringLaw_of_attending h (ringLaw_cleared s)) (outgoingLaw_of_attending h (outgoingLaw_cleared s))

theorem attentionLaw_powerOn (s : State) (strap : BitVec 7) (present : Bool) : AttentionLaw (s.powerOn strap present) :=
  attentionLaw_of_attending (s := State.reset) rfl ⟨ringLaw_reset, outgoingLaw_reset, lineLaw_reset⟩

end Sys2Proof.Machine
end


section
/-! PROOFS. The laws of rings, of the outgoing queue and of the attention lines over every command (R107, R108, R115). -/

namespace Sys2Proof.Machine

open Safety

variable {s t : State}

/-! ## Writes that leave `attending` -/

theorem attending_testing {st : Station} {ts : List (Bool × Reason)} (h : attending t = attending s) :
    attending (testing st ts s t) = attending s := by
  rcases testing_cases st ts s t with ⟨ht, -⟩ | ⟨c, -, -, ht⟩ <;> rw [ht]
  · exact h
  · exact attending_refuse s st c.2

@[simp] theorem attending_refuseUnknown (s : State) : attending s.refuseUnknown = attending s := rfl

section Writes

variable (s : State) (k : StoryId) (p : PageId) (st : Station) (sz : Size) (v : Word) (n : SlotId)

theorem attending_writeColumnDepth : attending (s.writeColumnDepth st p sz v) = attending s := by
  refine attending_testing ?_
  dsimp only
  split
  · rfl
  · simp [attending_foldl fun (u : State) (k : StoryId) => attending_allowanceChanged u k st]

theorem attending_removeRequest : attending (s.removeRequest st p n) = attending s := by
  unfold State.removeRequest
  split <;> simp [State.removeTaken]

theorem attending_placeRequest : attending (s.placeRequest st p n k) = attending s := by
  unfold State.placeRequest
  split
  · rfl
  · refine attending_testing ?_
    split <;> simp [State.placeTaken, State.replaceTaken]

theorem attending_writeStory : attending (s.writeStory st p n sz v) = attending s := by
  refine attending_testing ?_
  split
  · exact attending_removeRequest s p st n
  · split
    · exact attending_placeRequest s _ p st n
    · simp

theorem attending_writeSpan : attending (s.writeSpan st p n sz v) = attending s := by
  refine attending_testing ?_
  split
  · simp
  · dsimp only
    split <;> simp

theorem attending_writeAllowance : attending (s.writeAllowance st p n sz v) = attending s := by
  refine attending_testing ?_
  split
  · simp
  · dsimp only
    split <;> simp

theorem attending_writePolicy : attending (s.writePolicy st p n sz v) = attending s := by
  refine attending_testing ?_
  split
  · simp
  · split
    · simp
    · split <;> simp

theorem attending_dispatchRequest : attending (s.dispatchRequest st p) = attending s := by
  unfold State.dispatchRequest
  split <;> simp

theorem attending_cancelRequest : attending (s.cancelRequest st p) = attending s := by
  unfold State.cancelRequest
  split <;> simp

theorem attending_writeCommand : attending (s.writeCommand st p sz v) = attending s := by
  refine attending_testing ?_
  split
  · exact attending_dispatchRequest s p st
  · split
    · exact attending_cancelRequest s p st
    · simp

theorem attending_claimRequest : attending (s.claimRequest st k) = attending s := by
  unfold State.claimRequest
  split
  · exact attending_testing (by simp [State.createByClaim])
  · refine attending_testing ?_
    split
    · simp
    · exact attending_testing (by simp [State.grantClaim])

theorem attending_releaseRequest : attending (s.releaseRequest st k) = attending s := by
  unfold State.releaseRequest
  split <;> simp

theorem attending_breakTaken : attending (s.breakTaken k st) = attending s := by simp [State.breakTaken]

theorem attending_writeHold : attending (s.writeHold st k sz v) = attending s := by
  refine attending_testing ?_
  split
  · exact attending_claimRequest s k st
  · split
    · exact attending_releaseRequest s k st
    · split
      · refine attending_testing ?_
        split <;> simp [attending_breakTaken]
      · simp

theorem attending_reopenPage : attending (s.reopenPage k) = attending s := by
  unfold State.reopenPage
  split
  · split <;> simp
  · rfl

theorem attending_writeState : attending (s.writeState st k sz v) = attending s := by
  refine attending_testing ?_
  split <;> simp [attending_reopenPage]

theorem attending_routeIn (b : BasketId) (x : Priority) : attending (s.routeIn st k b x) = attending s := by
  unfold State.routeIn
  split
  · split <;> simp
  · simp

theorem attending_routeRequest (q : RouteRequest) : attending (s.routeRequest st k q) = attending s := by
  unfold State.routeRequest
  split
  · simp
  · exact attending_testing (by simp [State.purgeTaken, State.raiseGone])
  · split
    · simp
    · exact attending_testing (by simp)
  · split
    · exact attending_testing (by simp [State.createByRoute])
    · exact attending_testing (by simp [attending_routeIn])

theorem attending_writeRoute (q : RouteRequest) : attending (s.writeRoute st k sz q) = attending s :=
  attending_testing (attending_routeRequest s k st q)

theorem attending_writeStandard : attending (s.writeStandard st sz v) = attending s := by
  refine attending_testing ?_
  dsimp only
  split
  · rfl
  · exact attending_staleAll _ _

theorem attending_writeFont (f : FontId) (w : FontWrite) : attending (s.writeFont st f sz w) = attending s := by
  refine attending_testing ?_
  split
  · simp
  · split
    · rfl
    · exact (attending_staleAll _ _).trans (attending_releaseHeld s)

theorem attending_writeLimit (b : BasketId) : attending (s.writeLimit st b sz v) = attending s := attending_testing rfl

theorem attending_writeWatchers (b : BasketId) (i : Fin 4) : attending (s.writeWatchers st b i sz v) = attending s :=
  attending_testing rfl

theorem attending_writeEdition : attending (s.writeEdition st sz v) = attending s := attending_testing rfl

/-! ## Reads, and writes of plain words -/

theorem attending_readText (pos : Nat) (f : Bool) : attending (s.readText st k pos sz f) = attending s := by
  unfold State.readText
  split <;> simp

theorem attending_clearLatch (off : Nat) : attending (s.clearLatch st off sz) = attending s := by
  unfold State.clearLatch
  split <;> rfl

theorem attending_readFree (off : Nat) : attending (s.readFree off sz) = attending s := by
  unfold State.readFree
  split <;> rfl

theorem attending_readWords (off : Nat) (f : Bool) : attending (s.readWords st off sz f) = attending s := by
  have hlatch := attending_clearLatch s st sz off
  unfold State.readWords
  dsimp only
  split
  · exact (attending_refuse _ st _).trans hlatch
  · exact (attending_doneRead _ _).trans ((attending_readFree _ sz off).trans hlatch)

theorem attending_readWindow (off : Nat) (f : Bool) : attending (s.readWindow st off sz f) = attending s := by
  unfold State.readWindow
  split
  · exact attending_readText s _ st sz _ f
  · exact attending_readWords s st sz off f

theorem attending_outside (w : Bool) (a : Nat) (data : Data) (f : Bool) : attending (s.outside w a sz data f) = attending s := by
  unfold State.outside
  split <;> split <;> simp

theorem attending_writeText (pos : Nat) (data : Data) (f : Bool) : attending (s.writeText st k pos sz data f) = attending s :=
  attending_testing (by simp [State.textAdmitted])

theorem attending_writeHeaderPlain (off : Nat) (data : Data) (f : Bool) :
    attending (s.writeHeaderPlain st k off sz data f) = attending s := attending_testing (by simp)

theorem attending_writePlain (a : Nat) (data : Data) (f : Bool) : attending (s.writePlain st a sz data f) = attending s := by
  simp [State.writePlain]

end Writes

/-! ## Every command -/

/-- A change keeps the laws of the station unit. -/
def Heeds (s t : State) : Prop := AttentionLaw s → AttentionLaw t

theorem Heeds.of_attending (h : attending t = attending s) : Heeds s t := attentionLaw_of_attending h

theorem Heeds.testing {st : Station} {ts : List (Bool × Reason)} (h : Heeds s t) : Heeds s (testing st ts s t) := by
  rcases testing_cases st ts s t with ⟨ht, -⟩ | ⟨c, -, -, ht⟩ <;> rw [ht]
  · exact h
  · exact .of_attending (attending_refuse s st c.2)

theorem Heeds.done (h : Heeds s t) : Heeds s t.done := fun hs => attentionLaw_of_attending (attending_done t) (h hs)

/-- HOLD WAIT is no record of the station unit. -/
theorem heeds_setHoldWait (s : State) (x : Nat) : Heeds s { s with dispatch := { s.dispatch with holdWait := x } } :=
  fun ⟨hr, ho, hl⟩ => ⟨⟨hr.unread, hr.off, hr.inFlight⟩, ⟨ho.places, ho.signedOn⟩, ⟨hl.group, hl.system⟩⟩

section Commands

variable (s : State) (st : Station) (sz : Size) (v : Word)

theorem heeds_writeControl (owner : Station) : Heeds s (s.writeControl st owner sz v) := by
  refine .testing ?_
  split
  · exact .of_attending (attending_refuse s st _)
  · split
    · exact attentionLaw_signTaken _ true
    · split
      · exact attentionLaw_signTaken _ false
      · exact .of_attending (attending_refuse s st _)

theorem heeds_writeRights (owner : Station) : Heeds s (s.writeRights st owner sz v) := by
  refine .testing ?_
  split
  · exact .of_attending (attending_refuse s st _)
  · split
    · exact .of_attending (attending_refuse s st _)
    · exact .done (attentionLaw_setRights rfl rfl)

/-- A write to a ring slot reaches memory, and marks bytes of the slot under way. -/
theorem heeds_writeRing (owner : Station) (off : Nat) (data : Data) (f : Bool) : Heeds s (s.writeRing st owner off sz data f) :=
  .testing fun h => attentionLaw_of_attending (attending_plainAnswer _ st f)
    (attentionLaw_noteContested owner off _ (attentionLaw_of_attending (attending_plainStore s _ _ data f) h))

theorem heeds_writeLive (w : LiveWord) : Heeds s (s.writeLive st sz v w) := by
  cases w with
  | hold k => exact .of_attending (attending_writeHold s k st sz v)
  | route k => exact .of_attending (attending_writeRoute s k st sz _)
  | state k => exact .of_attending (attending_writeState s k st sz v)
  | slotStory p n => exact .of_attending (attending_writeStory s p st sz v n)
  | control o => exact heeds_writeControl s st sz v o
  | rights o => exact heeds_writeRights s st sz v o
  | readIndex o => exact .testing (.done (attentionLaw_setReadIndex o v))
  | limit b => exact .of_attending (attending_writeLimit s st sz v b)
  | watchers b k => exact .of_attending (attending_writeWatchers s st sz v b k)
  | columnWidth p => exact .of_attending (attending_testing (attending_regeometry s p st _))
  | gutter p => exact .of_attending (attending_testing (attending_regeometry s p st _))
  | columnDepth p => exact .of_attending (attending_writeColumnDepth s p st sz v)
  | pageCommand p => exact .of_attending (attending_writeCommand s p st sz v)
  | span p n => exact .of_attending (attending_writeSpan s p st sz v n)
  | allowance p n => exact .of_attending (attending_writeAllowance s p st sz v n)
  | policy p n => exact .of_attending (attending_writePolicy s p st sz v n)
  | fontSize f => exact .of_attending (attending_writeFont s st sz f _)
  | fontLeading f => exact .of_attending (attending_writeFont s st sz f _)
  | widths f c => exact .of_attending (attending_writeFont s st sz f _)
  | edition => exact .of_attending (attending_writeEdition s st sz v)
  | standardMeasure => exact .of_attending (attending_writeStandard s st sz v)
  | holdWait => exact .testing (.done (heeds_setHoldWait s _))
  | attentionEnable => exact .testing (.done (attentionLaw_setEnables _))
  | _ => exact .of_attending (attending_testing (attending_refuse s st _))

theorem heeds_writeWindow (off : Nat) (data : Data) (f : Bool) : Heeds s (s.writeWindow st off sz data f) := by
  unfold State.writeWindow
  split
  · exact .of_attending (attending_refuse s st _)
  · split
    · exact .of_attending (attending_writeText s _ st sz _ data f)
    · exact .of_attending (attending_writeHeaderPlain s _ st sz _ data f)
    · exact heeds_writeRing s st sz _ _ data f
    · exact .of_attending (attending_writePlain s st sz _ data f)
    · exact heeds_writeLive s st sz _ _

end Commands

theorem Heeds.asStation {code : StationCode} {op : Station → State} (h : ∀ st, Heeds s (op st)) : Heeds s (asStation code s op) := by
  unfold Machine.asStation
  split
  · exact h _
  · exact .of_attending (attending_refuseUnknown s)

theorem heeds_access (s : State) (code : StationCode) (w : Bool) (addr : Word) (sz : Size) (data : Data) (f : Bool) :
    Heeds s (s.access code w addr sz data f) := by
  unfold State.access
  split
  · refine .asStation fun st => ?_
    split
    · exact heeds_writeWindow s st sz _ data f
    · exact .of_attending (attending_readWindow s st sz _ f)
  · exact .of_attending (attending_outside s sz w _ data f)

/-- Every command keeps the laws of the station unit. -/
theorem exec_heeds (c : Instr) (h : exec c s = .next t) : Heeds s t := by
  have word : ∀ (code : StationCode) (sz : Size) (v : Word) (w : LiveWord),
      Heeds s (asStation code s fun st => s.writeLive st sz v w) := fun code sz v w =>
    .asStation fun st => heeds_writeLive s st sz v w
  have event : ∀ {u : State}, attending u = attending s → Heeds s u := .of_attending
  cases c with
  | powerOn strap present => cases next_inj h; exact fun _ => attentionLaw_powerOn s strap present
  | timebaseTick => cases next_inj h; exact event rfl
  | textRead code k pos sz f => cases next_of_aligned h; exact .asStation fun st => event (attending_readText s k st sz _ f)
  | textWrite code k pos sz data f =>
    cases next_of_aligned h; exact .asStation fun st => event (attending_writeText s k st sz _ data f)
  | headerPlainWrite code k off sz data f =>
    cases next_of_aligned h; exact .asStation fun st => heeds_writeWindow s st sz _ data f
  | plainPassThrough code w addr sz data f => cases next_of_aligned h; exact heeds_access s code w addr sz data f
  | accessOutsideWindow code w addr sz data f => cases next_of_aligned h; exact heeds_access s code w addr sz data f
  | liveWordWrite code addr sz data f => cases next_of_aligned h; exact heeds_access s code true addr sz data f
  | ringSlotWrite code owner off sz data f =>
    cases next_of_aligned h; exact .asStation fun st => heeds_writeRing s st sz owner _ data f
  | claim code k sz => cases next_inj h; exact .asStation fun st => event (attending_writeHold s k st sz _)
  | release code k sz => cases next_inj h; exact word code sz noneCode (.hold k)
  | breakHold code k sz => cases next_inj h; exact word code sz breakCode (.hold k)
  | routeToBasket code k sz b p => cases next_inj h; exact .asStation fun st => event (attending_writeRoute s k st sz _)
  | routeToNone code k sz => cases next_inj h; exact .asStation fun st => event (attending_writeRoute s k st sz _)
  | purge code k sz => cases next_inj h; exact .asStation fun st => event (attending_writeRoute s k st sz _)
  | reopen code k sz => cases next_inj h; exact word code sz reopenCode (.state k)
  | limitWrite code b sz v => cases next_inj h; exact word code sz v (.limit b)
  | watchersWrite code b k sz v => cases next_inj h; exact word code sz v (.watchers b k)
  | sizeWrite code f sz v => cases next_inj h; exact word code sz v (.fontSize f)
  | leadingWrite code f sz v => cases next_inj h; exact word code sz v (.fontLeading f)
  | widthTableWrite code f c sz v => cases next_of_aligned h; exact word code sz v (.widths f c)
  | standardMeasureWrite code sz v => cases next_inj h; exact word code sz v .standardMeasure
  | editionWrite code sz v => cases next_inj h; exact word code sz v .edition
  | holdWaitWrite code sz v => cases next_inj h; exact word code sz v .holdWait
  | attentionEnableWrite code sz v => cases next_inj h; exact word code sz v .attentionEnable
  | noticeReadIndexWrite code o sz v => cases next_inj h; exact word code sz v (.readIndex o)
  | signOn code o sz => cases next_inj h; exact word code sz signOnCode (.control o)
  | signOff code o sz => cases next_inj h; exact word code sz signOffCode (.control o)
  | rightsWrite code o sz v => cases next_inj h; exact word code sz v (.rights o)
  | columnWidthWrite code p sz v => cases next_inj h; exact word code sz v (.columnWidth p)
  | gutterWrite code p sz v => cases next_inj h; exact word code sz v (.gutter p)
  | columnDepthWrite code p sz v => cases next_inj h; exact word code sz v (.columnDepth p)
  | place code p n sz k => cases next_inj h; exact word code sz (BitVec.ofNat 32 k.val) (.slotStory p n)
  | remove code p n sz => cases next_inj h; exact word code sz emptyCode (.slotStory p n)
  | spanWrite code p n sz v => cases next_inj h; exact word code sz v (.span p n)
  | allowanceWrite code p n sz v => cases next_inj h; exact word code sz v (.allowance p n)
  | policyWrite code p n sz v => cases next_inj h; exact word code sz v (.policy p n)
  | dispatch code p sz => cases next_inj h; exact word code sz dispatchWord (.pageCommand p)
  | cancel code p sz => cases next_inj h; exact word code sz cancelWord (.pageCommand p)
  | linkStatusRead code off sz f => cases next_of_aligned h; exact .asStation fun st => event (attending_readWords s st sz _ f)
  | measurePassTaken => cases next_inj h; exact event (attending_takePass s)
  | measurePassCompletion => cases next_inj h; exact event (attending_completePass s)
  | measureFault => cases next_inj h; exact event (attending_faultPass s)
  | fontWaitExpiry => cases next_inj h; exact event (attending_fontWaitExpiry s)
  | holdWaitExpiry => cases next_inj h; exact event (attending_holdWaitExpiry s)
  | sendTextRead f => cases next_inj h; exact event (attending_sendTextRead s f)
  | ringWriteStart => cases next_inj h; exact attentionLaw_ringWriteStart
  | ringWriteComplete f => cases next_inj h; exact attentionLaw_ringWriteComplete f
  | typesetterPresentHigh => cases next_inj h; exact event (attending_presentHigh s)
  | typesetterPresentLow => cases next_inj h; exact event (attending_presentLow s)
  | trainingTimerExpiry => cases next_inj h; exact event (attending_trainingExpiry s)
  | typesetterAbility m l => cases next_inj h; exact event (attending_frameArrives s _)
  | ack => cases next_inj h; exact event (attending_frameArrives s _)
  | nak r => cases next_inj h; exact event (attending_frameArrives s _)
  | wait => cases next_inj h; exact event (attending_frameArrives s _)
  | ready => cases next_inj h; exact event (attending_frameArrives s _)
  | waitTimerExpiry => cases next_inj h; exact event (attending_waitExpiry s)
  | replyTimerExpiry => cases next_inj h; exact event (attending_replyExpiry s)
  | tryEnd => cases next_inj h; exact event (attending_tryEnd s)
  | receiverGapExpiry => cases next_inj h; exact event (attending_gapExpiry s)
  | busReset => cases next_inj h; exact fun _ => attentionLaw_busReset s
  | incomingByte b => cases next_inj h; exact event (attending_byteArrives s b)
  | measureTextRead => cases next_inj h; exact event (attending_measureBlock s)
  | partAbilityEnd => cases next_inj h; exact event (attending_abilityEnd s)

/-- Settles O5: the operations of the station unit keep the laws, and every other operation leaves what they read. -/
theorem stepsKeepRingAndAttentionLaws : Obligations.StepsKeepRingAndAttentionLaws := by
  intro s t hs h
  unfold step at h
  split at h
  · exact next_inj h ▸ hs
  · exact exec_heeds _ h (attentionLaw_of_attending (s := s) rfl hs)

end Sys2Proof.Machine
end


section
/-! PROOFS. HOLD WAIT and ATTENTION ENABLE (R116, R149): reads, writes, refusals, and what the resets leave of them. -/

namespace Sys2Proof.Machine

open Safety

variable {s : State} {code : StationCode} {st : Station}

/-! ## Words that the system station alone sets -/

/-- The two refusals of a word that the system station alone sets (R174). -/
theorem systemWord_refuses (c : Size → Instr) {t : Size → State} (hst : stationOf code = some st)
    (hc : ∀ sz, exec (c sz) s =
      .next (asStation code s fun w => testing w [(badSize sz, .badSize), (isTerminal w, .noRight)] s (t sz))) (sz : Size) :
    (sz ≠ .word → exec (c sz) s = .next { s.setLastRefusal st .badSize with bus := refuseBus }) ∧
    (st ≠ .system → exec (c .word) s = .next { s.setLastRefusal st .noRight with bus := refuseBus }) := by
  have hrefused : ∀ sz, refusedFor (c sz) s st (afterSystem st sz .none) := fun sz => refusedFor_systemWord hst (hc sz)
  refine ⟨fun hsz => ?_, fun hne => ?_⟩
  · have h := hrefused sz
    rw [afterSystem, if_pos hsz] at h
    exact h nofun
  · have h := hrefused .word
    rw [afterSystem, if_neg (not_not.2 rfl), if_pos hne] at h
    exact h nofun

/-! ## What a bus reset keeps of them -/

theorem refreshLines_enables (s : State) : s.refreshLines.stations.enables = s.stations.enables := rfl

/-- A bus reset keeps HOLD WAIT and ATTENTION ENABLE: its releases leave `attending`. -/
theorem busReset_kept (s : State) :
    s.busReset.dispatch.holdWait = s.dispatch.holdWait ∧ s.busReset.stations.enables = s.stations.enables := by
  have hreset : s.busReset = s.cleared.releaseEvery.refreshLines := rfl
  obtain ⟨T, S, hframe, -⟩ := cleared_eq s
  obtain ⟨-, -, -, -, henables, -, -, hwait, -⟩ := sameAttending (attending_releaseEvery s.cleared)
  rw [hreset, refreshLines_dispatch, refreshLines_enables, hwait, henables, hframe]
  exact ⟨rfl, rfl⟩

/-! ## The statements -/

theorem holdWaitShowsAndSetsThePeriod : Parts.HoldWaitShowsAndSetsThePeriod := by
  intro s v
  refine ⟨shows_of_liveAt liveAt_holdWait rfl, rfl, fun code st sz hst =>
    systemWord_refuses (.holdWaitWrite code · v) hst (fun _ => rfl) sz,
    RangeLaw.holdWait, fun e => ?_, fun strap present t h => ?_, fun t h => ?_⟩
  · obtain ⟨-, -, htimer⟩ := enterWaiting_dispatch s e
    exact htimer
  · cases next_inj h
    rfl
  · cases next_inj h
    exact (busReset_kept s).1

theorem attentionEnableSetsTheFlags : Parts.AttentionEnableSetsTheFlags := by
  intro s v
  refine ⟨shows_of_liveAt liveAt_attentionEnable (BitVec.ofNat_toNat _ _).symm,
    ⟨_, rfl, rfl, lineLaw_done (refreshLines_lineLaw _)⟩, fun code st sz hst =>
    systemWord_refuses (.attentionEnableWrite code · v) hst (fun _ => rfl) sz, fun strap present t h => ?_, fun t h => ?_⟩
  · cases next_inj h
    rfl
  · cases next_inj h
    exact (busReset_kept s).2

/-- Settles O38: the writes set one record, under the tests of R174, and nothing a bus reset releases touches either word. -/
theorem holdWaitAndAttentionEnableAreSet : Obligations.HoldWaitAndAttentionEnableAreSet :=
  ⟨holdWaitShowsAndSetsThePeriod, attentionEnableSetsTheFlags⟩

end Sys2Proof.Machine
end


section
/-! PROOFS. Power-on and the timebase (R106, R155, R165, R177). -/

namespace Sys2Proof.Machine

/-- Settles O60: power-on leaves the reset state, but for the strap, memory, the commands still waiting, and the link, which the present
input alone decides. -/
theorem powerOnRestartsThePart : Obligations.PowerOnRestartsThePart := by
  intro s strap present
  refine ⟨⟨s.powerOn strap present, rfl, rfl, ?_, rfl, fun _ => rfl⟩, rfl⟩
  cases present with
  | false => rfl
  | true => rfl

end Sys2Proof.Machine
end
